-- ==== Sys2Proof/Word.lean ====
section
/-! DEFINITION. The word types of the LF240: bytes as they stand on the hall line, in record blocks and in the
configuration image (introduction, section 4.3). -/
namespace Sys2Proof

/-- One byte of a telegram, of a record page or of the configuration image. -/
abbrev Byte := BitVec 8

/-- A 16-bit quantity the manual treats as bits: the cyclic check (R1), the program digest (R34), an event set (R11). -/
abbrev Half := BitVec 16

/-- A 32-bit count that wraps: the time tag (R168) and the block serial (R149). -/
abbrev Tag := BitVec 32

end Sys2Proof
end

