-- ==== Sys2Proof/Syntax.lean ====
section
/-! DEFINITION. The names of the manual that commands carry, and the commands themselves: one constructor of `Instr`
for each row of spec/opcode_table.json, in the table's order. Operands are what the event brings from outside the
station: the levels of lines, converter codes, the fields of a received telegram. -/
namespace Sys2Proof

/-- What the loop interface reports of one crack-wire loop (section 7.1). -/
inductive LoopReading where
  | intact | opened | shorted
  deriving DecidableEq, Repr, Inhabited

/-- The mark that ends what a receiver has heard since the start mark: the end mark of a telegram sent whole, or the
abort mark of an abandoned one (R1, R3). -/
inductive ClosingMark where
  | endMark | abortMark
  deriving DecidableEq, Repr, Inhabited

/-- What a receiver has heard from a start mark on: the bytes, and the mark that closes them (R3, R4). -/
structure HeardTelegram where
  bytes : List Byte
  mark : ClosingMark
  deriving DecidableEq, Repr, Inhabited

/-- The states of the level sequencer (Table 1-5, section 3.3). -/
inductive SeqState where
  | idle | run | held | unloading | ended
  deriving DecidableEq, Repr, Inhabited

/-- The phases of the sequencer's RUN state; NONE is the absence of one (Table 1-5). -/
inductive RunPhase where
  | ramp | dwell | done
  deriving DecidableEq, Repr, Inhabited

/-- The actuator states (Table 1-5, Table 5-3). -/
inductive ActState where
  | vented | waitWindow | charging | live | locking | locked | unlockCharge | tripped
  deriving DecidableEq, Repr, Inhabited

/-- The values of the action latch, lowest to highest (R135); the four above `none` are the hall actions. -/
inductive Latch where
  | none | note | hold | unload | dump
  deriving DecidableEq, Repr, Inhabited

/-- The start cause (R170), with the value a STATUS of a station in CONFIG_FAULT carries (Table 1-5). -/
inductive StartCause where
  | power | pin | configFault
  deriving DecidableEq, Repr, Inhabited

/-- The purpose of a CHARGE telegram and of a wait for the pump window (Table 1-3). -/
inductive ChargePurpose where
  | charge | unlock
  deriving DecidableEq, Repr, Inhabited

/-- The levels of the input lines as they stand when a start begins (R94, R170). -/
structure StartLevels where
  pressOk : Bool
  lockEngaged : Bool
  estop : Bool
  deriving DecidableEq, Repr, Inhabited

/-- The fields of a received STATUS (Table 1-4). `flags` are the nine flags of Table 1-5, bit 0 LAGGING to bit 8
DIGEST_MISMATCH_SEEN; the load group is bits 12 to 14 of the same field. -/
structure StatusReport where
  seqState : SeqState
  phase : Option RunPhase
  step : Nat
  segment : Nat
  lam : Nat
  fMeas : Int
  actuator : ActState
  latch : Latch
  flags : BitVec 9
  loadGroup : Nat
  digest : Half
  events : Half
  freePages : Nat
  startCause : Nat
  deriving DecidableEq, Repr, Inhabited

/-- The fields of a received ALARM (Table 1-3), kind and action as the codes carried (Table 1-7). -/
structure AlarmReport where
  kindCode : Nat
  channel : Nat
  actionCode : Nat
  lam : Nat
  step : Nat
  fMeas : Int
  timeTag : Tag
  deriving DecidableEq, Repr, Inhabited

/-- The head of a received console command: sender and destination station, and the payload length L the telegram
carries, which R163 compares with Table 1-6. -/
structure CommandHead where
  sender : Nat
  dest : Nat
  len : Nat
  deriving DecidableEq, Repr, Inhabited

/-- The payload of PROGRAM (Table 1-6), each field as written: `loopTo` 255 is "no loop". -/
structure SegmentRequest where
  index : Nat
  target : Nat
  rate : Nat
  hold : Nat
  settle : Nat
  extension : Nat
  loopTo : Nat
  loopCount : Nat
  deriving DecidableEq, Repr, Inhabited

/-- The commands of the block: the rows of spec/opcode_table.json. -/
inductive Instr where
  /-- POWER_UP (R170): power comes up with the input lines at the levels given. -/
  | powerUp (levels : StartLevels)
  /-- RESET_PIN_ASSERT (R170). -/
  | resetPinAssert
  /-- RESET_PIN_RELEASE (R170): the pin is released with the input lines at the levels given. -/
  | resetPinRelease (levels : StartLevels)
  /-- READING_END (R170 to R173): strap value, the bytes the serial memory returned (fewer than 411, or none, is a
  read fault), and the reading of each of the 8 loops for the start read of R120. -/
  | readingEnd (straps : Nat) (image : List Byte) (loops : List LoopReading)
  /-- ARBITRATION_OPPORTUNITY (R2): the head of a queue is offered, or the telegram on offer has reached the end of its
  arbitration field without a loss (log entry 6). -/
  | arbitrationOpportunity
  /-- ARBITRATION_LOSS (R2). -/
  | arbitrationLoss
  /-- TELEGRAM_ABANDON (R3). -/
  | telegramAbandon
  /-- RECEIVED_TELEGRAM_DISCARD (R3 to R5): what has been heard since the start mark (log entry 7). -/
  | receivedTelegramDiscard (heard : HeardTelegram)
  /-- STATUS_TIMER_EXPIRY (R9). -/
  | statusTimerExpiry
  /-- STATUS_OWN_COMPLETION (R11). -/
  | statusOwnCompletion
  /-- ALARM_OWN_COMPLETION (R6). -/
  | alarmOwnCompletion
  /-- REPLY_OWN_COMPLETION (R13). -/
  | replyOwnCompletion
  /-- DATA_OWN_COMPLETION (R159). -/
  | dataOwnCompletion
  /-- STATUS_RECEIVED (R18): sender and the fields of its STATUS. -/
  | statusReceived (sender : Nat) (report : StatusReport)
  /-- PEER_RECORD_EXPIRY (R19): the station whose record expires. -/
  | peerRecordExpiry (station : Nat)
  /-- ALARM_HEARD (R137): sender and the fields of its ALARM. -/
  | alarmHeard (sender : Nat) (report : AlarmReport)
  /-- CHARGE_HEARD (R88): sender and purpose code. -/
  | chargeHeard (sender : Nat) (purposeCode : Nat)
  /-- CHARGE_OWN_COMPLETION (R90). -/
  | chargeOwnCompletion
  /-- WINDOW_TIMER_EXPIRY (R88). -/
  | windowTimerExpiry
  /-- SHUNT_CLAIM_HEARD (R108): sender and excitation group. -/
  | shuntClaimHeard (sender : Nat) (group : Nat)
  /-- SHUNT_DONE_HEARD (R108): sender and excitation group. -/
  | shuntDoneHeard (sender : Nat) (group : Nat)
  /-- SHUNT_CLAIM_OWN_COMPLETION (R111). -/
  | shuntClaimOwnCompletion
  /-- SHUNT_DONE_OWN_COMPLETION (R108). -/
  | shuntDoneOwnCompletion
  /-- SERVO_TICK (R56): the latest load-cell code the converter has completed. -/
  | servoTick (code : Int)
  /-- TRIP_COUNT_REACHED (R70). -/
  | tripCountReached
  /-- REACQUIRE_TIMER_EXPIRY (R68). -/
  | reacquireTimerExpiry
  /-- HOLD_TIMER_EXPIRY (R39). -/
  | holdTimerExpiry
  /-- EXTENSION_TIMER_EXPIRY (R40). -/
  | extensionTimerExpiry
  /-- MISMATCH_TIMER_EXPIRY (R43). -/
  | mismatchTimerExpiry
  /-- PRESS_OK_CHANGE (R75, R77): the new level. -/
  | pressOkChange (level : Bool)
  /-- LOCK_ENGAGED_CHANGE (R75, R80): the new level. -/
  | lockEngagedChange (level : Bool)
  /-- ESTOP_ACTIVE (R85). -/
  | estopActive
  /-- ESTOP_INACTIVE (R85). -/
  | estopInactive
  /-- CHARGE_TIMER_EXPIRY (R77). -/
  | chargeTimerExpiry
  /-- LOCK_TIMER_EXPIRY (R79). -/
  | lockTimerExpiry
  /-- ACQUISITION_TIMER_EXPIRY (R82). -/
  | acquisitionTimerExpiry
  /-- UNLOCK_DEADLINE_EXPIRY (R83). -/
  | unlockDeadlineExpiry
  /-- LOCK_CHECK_TIMER_EXPIRY (R92). -/
  | lockCheckTimerExpiry
  /-- SCAN (R96): the 16 bridge codes (those of disabled channels are not used) and the latest load-cell code. -/
  | scan (codes : List Int) (loadCode : Int)
  /-- AVERAGING_RUN_COMPLETE (R98). -/
  | averagingRunComplete
  /-- EXCEED_RUN_REACHES_M (R100): the channel. -/
  | exceedRunReachesM (channel : Nat)
  /-- SETTLE_WINDOW_EXPIRY (R103). -/
  | settleWindowExpiry
  /-- ZERO_COMPLETE (R107). -/
  | zeroComplete
  /-- SHUNT_SPAN_END (R112). -/
  | shuntSpanEnd
  /-- SHUNT_JUDGEMENT (R114). -/
  | shuntJudgement
  /-- LOOP_SCAN (R118): the reading of each of the 8 loops (those of disabled loops are not used). -/
  | loopScan (readings : List LoopReading)
  /-- LOOP_READING_TAKEN (R119): the loop whose candidate is taken. -/
  | loopReadingTaken (loop : Nat)
  /-- AE_HIT (R126): the input that pulses. -/
  | aeHit (input : Nat)
  /-- DEAD_TIME_EXPIRY (R126): the input. -/
  | deadTimeExpiry (input : Nat)
  /-- CAPTURE_END (R156). -/
  | captureEnd
  /-- FETCH_REQUEST_EXPIRY (R158). -/
  | fetchRequestExpiry
  /-- COMMAND_UNKNOWN_KIND (R163): the kind code received. -/
  | commandUnknownKind (head : CommandHead) (kindCode : Nat)
  /-- PROGRAM (R32). -/
  | program (head : CommandHead) (request : SegmentRequest)
  /-- CLEARPROG (R33). -/
  | clearprog (head : CommandHead)
  /-- RUN (R36). -/
  | run (head : CommandHead)
  /-- HOLD (R142). -/
  | hold (head : CommandHead)
  /-- UNLOAD (R142). -/
  | unload (head : CommandHead)
  /-- RESUME (R143). -/
  | resume (head : CommandHead)
  /-- ACK (R141): the all field and the key. -/
  | ack (head : CommandHead) (all source kindCode channel : Nat)
  /-- ACCEPT (R124). -/
  | accept (head : CommandHead) (loop : Nat)
  /-- FETCH (R157): block number or 255 for OLDEST, and the wait in ms. -/
  | fetch (head : CommandHead) (which wait : Nat)
  /-- FREE (R160). -/
  | free (head : CommandHead) (block : Nat)
  /-- CUT (R161). -/
  | cut (head : CommandHead)
  /-- TIMESET (R168). -/
  | timeset (head : CommandHead) (tag : Tag)
  /-- QUERY_CRACK (R125). -/
  | queryCrack (head : CommandHead) (loop : Nat)
  /-- QUERY_ALARMS (R145). -/
  | queryAlarms (head : CommandHead) (start : Nat)
  /-- QUERY_STRAIN (R116). -/
  | queryStrain (head : CommandHead) (half : Nat)
  /-- QUERY_PEER (R28). -/
  | queryPeer (head : CommandHead) (station : Nat)
  /-- CHARGE (R76). -/
  | charge (head : CommandHead)
  /-- VENT (R78). -/
  | vent (head : CommandHead)
  /-- LOCK (R79). -/
  | lock (head : CommandHead)
  /-- UNLOCK (R81). -/
  | unlock (head : CommandHead)
  /-- CLEARTRIP (R87). -/
  | cleartrip (head : CommandHead)
  /-- ZERO (R105). -/
  | zero (head : CommandHead)
  /-- SHUNT (R110). -/
  | shunt (head : CommandHead)
  /-- QUERY_OTHER_SUBJECT (R167): the subject and the argument. -/
  | queryOtherSubject (head : CommandHead) (subject argument : Nat)
  deriving DecidableEq, Repr

end Sys2Proof
end

