-- ==== Sys2Proof/Config.lean ====
section
/-! DEFINITION. What the manual fixes for every station as a capacity or a bound, and the values it leaves open: the
meaning of a code that Table 1-5 does not list, in a STATUS that is otherwise whole (free values, log entry 8). -/
namespace Sys2Proof

/-- The sequencer state the station takes a byte outside Table 1-5 to report (free value, log entry 8). -/
opaque Config.unlistedSeqState : Byte → SeqState

/-- The phase the station takes a byte outside Table 1-5 to report (free value, log entry 8). -/
opaque Config.unlistedPhase : Byte → Option RunPhase

/-- The actuator state the station takes a byte outside Table 1-5 to report (free value, log entry 8). -/
opaque Config.unlistedActState : Byte → ActState

/-- The action latch the station takes a byte outside Table 1-5 to report (free value, log entry 8). -/
opaque Config.unlistedLatch : Byte → Latch

/-- Capacity of the ALARM queue (R7). -/
def Config.alarmQueueSize : Nat := 4

/-- Capacity of the REPLY queue (R7). -/
def Config.replyQueueSize : Nat := 4

/-- Capacity of the DATA queue (R7). -/
def Config.dataQueueSize : Nat := 16

/-- Capacity of the alarm list (R132). -/
def Config.alarmListSize : Nat := 24

/-- Capacity of the charge list (R88). -/
def Config.chargeListSize : Nat := 8

/-- CHARGE telegrams in window at which no pressurisation starts (R89, R90). -/
def Config.chargeLimit : Nat := 4

/-- Capacity of a hit list (R127). -/
def Config.hitListSize : Nat := 32

/-- Capacity of the command queue (R164). -/
def Config.commandQueueSize : Nat := 8

/-- Capacity of the fetch queue (R157). -/
def Config.fetchQueueSize : Nat := 4

/-- Pages of the record pool (R147). -/
def Config.poolPages : Nat := 256

/-- Bytes of a page (chapter 9). -/
def Config.pageBytes : Nat := 256

/-- The greatest step number (R44). -/
def Config.stepLimit : Nat := 4294967295

/-- The bound of the integral: 32767 × 65536 (R64). -/
def Config.integralMax : Int := 2147418112

/-- Full drive (R64). -/
def Config.driveMax : Int := 32767

/-- The clamp of the error (R63). -/
def Config.errorMax : Int := 8388607

/-- The clamp of the measured force (R62). -/
def Config.forceMax : Int := 16000000

/-- The clamp of a strain sample in tenth-microstrain (R97). -/
def Config.strainMax : Int := 320000

/-- Steps of the age clock in a millisecond (section 4.5 of the introduction). -/
def Config.perMs : Nat := 10

end Sys2Proof
end

