-- ==== Sys2Proof/Machine/State.lean ====
section
/-! DEFINITION. The state of one LF240: every register, queue, list, counter, timer, mode and pin the manual gives it,
grouped by the block that owns it (Figure 0-1), the queue of the commands that wait, and the state after power-on.
Times are age-clock values in steps of 0.1 ms; a stopped timer is `none`, a running one holds the age at which it
expires. -/
namespace Sys2Proof.Machine

open Sys2Proof

/-- The machine raises no fault: the manual gives every event an effect in every state, be it to discard the event. -/
inductive Fault where
  deriving DecidableEq, Repr

/-- Why a step has no meaning. -/
inductive Refusal where
  /-- Raised by an arm of `exec` that has no meaning yet (safe: the run stops). No arm answers with it. -/
  | notModelled (mnemonic : String)
  deriving DecidableEq, Repr

/-! ### Start-up loader (chapter 11) -/

/-- The loader's phase (chapter 11), and `held` while power rises or the reset pin is asserted (R170). -/
inductive Phase where
  | held | reading | running | configFault
  deriving DecidableEq, Repr, Inhabited

/-- The start-up loader: its phase, the start cause (POWER or PIN), the strap value and the image as read. -/
structure Loader where
  phase : Phase
  cause : StartCause
  straps : Nat
  image : List Byte
  deriving DecidableEq, Repr

/-- Settings of one strain channel (Tables 6-1 and 11-2). -/
structure ChannelCfg where
  enable : Bool
  settleChecked : Bool
  action : Latch
  exceedCount : Nat
  scale : Nat
  zero : Int
  high : Int
  low : Int
  shuntStep : Int
  deriving DecidableEq, Repr, Inhabited

/-- Settings of one crack loop (Tables 7-1 and 11-3); the debounce is in ms. -/
structure LoopCfg where
  enable : Bool
  action : Latch
  debounce : Nat
  deriving DecidableEq, Repr, Inhabited

/-- Settings of one AE input (Tables 7-2 and 11-3); the dead time is in tenths of a ms, the window in ms. -/
structure AeCfg where
  deadTime : Nat
  window : Nat
  nElev : Nat
  nBurst : Nat
  action : Latch
  deriving DecidableEq, Repr, Inhabited

/-- The settings the loader hands out (R172), each in the unit of Table 11-1. -/
structure Settings where
  peerTimeout : Nat
  memberSet : BitVec 32
  fDesign : Nat
  fLimit : Nat
  loadZero : Int
  gain : Nat
  kp : Nat
  ki : Nat
  bTrack : Nat
  bTrip : Nat
  tTrip : Nat
  lead : Nat
  unloadRate : Nat
  tChg : Nat
  tLock : Nat
  tAcq : Nat
  wPump : Nat
  lockInterval : Nat
  lockBand : Nat
  driftAction : Latch
  noSettleAction : Latch
  scanPeriod : Nat
  dBase : Nat
  blockPages : Nat
  captureLength : Nat
  excitation : Nat
  settleWindow : Nat
  driftLimit : Nat
  channels : List ChannelCfg
  loops : List LoopCfg
  aeInputs : List AeCfg
  deriving DecidableEq, Repr

/-! ### Lines of the part (Table 0-1) -/

/-- The pins: input levels and the codes the converters and the loop interface last gave, and the outputs. -/
structure Pins where
  pressOk : Bool
  lockEngaged : Bool
  estop : Bool
  loadCode : Int
  bridgeCodes : List Int
  loopReadings : List LoopReading
  /-- ISO: isolation valve open. -/
  iso : Bool
  /-- DUMP: dump valve open. -/
  dump : Bool
  /-- LOCK_CMD on. -/
  lockCmd : Bool
  /-- The valve drive output. -/
  drive : Int
  /-- The 16 shunt switches, bit c for channel c. -/
  shunts : Half
  deriving DecidableEq, Repr

/-! ### Line unit (chapter 1) -/

/-- The kinds of alarm (Table 1-7). -/
inductive AlarmKind where
  | overload | trackingLoss | estop | chargeFail | lockFail | unlockFail | peerLost | programMismatch | lineFault
  | shuntFail | loopFault | crackWire | aeBurst | strainLimit | lockDrift | noSettle | peerAction
  deriving DecidableEq, Repr, Inhabited

/-- The events since the last STATUS, in the order of their bits (Table 1-5). -/
inductive Event where
  | blockSealed | gap | crackBreak | aeBurst | aeElevated | alarmRaised | shuntDone | zeroDone | programEdited
  | commandDone | trip
  deriving DecidableEq, Repr, Inhabited

/-- The classes the station sends, in the arbiter's order (R8). -/
inductive TxClass where
  | alarm | charge | shunt | status | reply | data
  deriving DecidableEq, Repr, Inhabited

/-- A queued ALARM telegram (Table 1-3). -/
structure AlarmTelegram where
  kind : AlarmKind
  channel : Nat
  action : Latch
  lam : Nat
  step : Nat
  fMeas : Int
  timeTag : Tag
  deriving DecidableEq, Repr

/-- A SHUNT_CLAIM or SHUNT_DONE in the SHUNT slot, with the excitation group it names. -/
structure ShuntTelegram where
  isDone : Bool
  group : Nat
  deriving DecidableEq, Repr

/-- Results of a REPLY (Table 1-8). -/
inductive ReplyResult where
  | done | refused | empty
  deriving DecidableEq, Repr

/-- Reasons of a REPLY (Table 1-8). -/
inductive Reason where
  | none | state | range | actuator | programInvalid | absentMember | programMismatch | action | unacked | causePresent
  | peerCause | tripped | busy | busyShunt | notFound | estop
  deriving DecidableEq, Repr

/-- A REPLY telegram: the console addressed, the echoed kind code, result, reason and data (Table 1-8). -/
structure Reply where
  dest : Nat
  kindCode : Nat
  result : ReplyResult
  reason : Reason
  data : List Byte
  deriving DecidableEq, Repr

/-- A DATA part: the console addressed, block number, part index and its 64 bytes (Table 1-3). -/
structure DataPart where
  dest : Nat
  block : Nat
  part : Nat
  data : List Byte
  deriving DecidableEq, Repr

/-- The STATUS slot: empty, holding a STATUS not taken, or one whose contents are taken, with the snapshot of the
events it carries and the requested-again mark (R9, R10). -/
inductive StatusSlot where
  | empty
  | waiting
  | taken (snapshot : Half) (again : Bool)
  deriving DecidableEq, Repr

/-- The telegram on offer or in transmission: its class, its bytes on the pair, and whether its arbitration is won, from
which on it is in transmission (R1, R2). -/
structure Transmission where
  cls : TxClass
  bytes : List Byte
  won : Bool
  deriving DecidableEq, Repr

/-- The line unit. -/
structure LineUnit where
  /-- 0, 1 or 2 for 250, 500 or 1000 kbit/s. -/
  bitRate : Nat
  /-- The own status period in ms. -/
  statusPeriod : Nat
  /-- The configured load group, 0 where the station has none (R173). -/
  loadGroup : Nat
  statusTimer : Option Nat
  alarmQ : List AlarmTelegram
  chargeSlot : Option ChargePurpose
  shuntSlot : Option ShuntTelegram
  /-- A SHUNT_DONE waits for the claim in transmission to leave the slot (R7). -/
  shuntDoneBehind : Bool
  statusSlot : StatusSlot
  replyQ : List Reply
  dataQ : List DataPart
  heldReplies : List Reply
  events : Half
  afterTake : Half
  tx : Option Transmission
  faultCount : Nat
  lineFault : Bool
  /-- An own telegram has completed since the previous status timer expiry (R14). -/
  ownCompleted : Bool
  deriving DecidableEq, Repr

/-! ### Peer table (chapter 2) -/

/-- One peer record (Table 2-1). -/
structure PeerRecord where
  present : Bool
  lastHeard : Option Nat
  expiry : Option Nat
  loadGroup : Nat
  seqState : SeqState
  phase : Option RunPhase
  step : Nat
  segment : Nat
  lam : Nat
  fMeas : Int
  actuator : ActState
  latch : Latch
  flags : BitVec 9
  digest : Half
  lastSeen : Latch
  lost : Bool
  deriving DecidableEq, Repr, Inhabited

/-- The peer table: the records of stations 1 to 27 and the two flags kept from them. -/
structure PeerTable where
  records : List PeerRecord
  memberAbsent : Bool
  digestMismatch : Bool
  deriving DecidableEq, Repr

/-! ### Level sequencer (chapter 3) -/

/-- A filled entry of the segment table (Table 3-1); hold and extension are in tenths of a second. -/
structure Segment where
  target : Nat
  rate : Nat
  hold : Nat
  settle : Bool
  extension : Nat
  loopTo : Option Nat
  loopCount : Nat
  deriving DecidableEq, Repr, Inhabited

/-- The working copy of the current segment (R37). -/
structure WorkingCopy where
  target : Nat
  rate : Nat
  hold : Nat
  settle : Bool
  extension : Nat
  deriving DecidableEq, Repr

/-- A timer that can be stopped with its remaining time (R37, R46). -/
inductive HoldTimer where
  | stopped
  | paused (left : Nat)
  | running (due : Nat)
  deriving DecidableEq, Repr

/-- The level sequencer. `phase` is the phase in RUN and the remembered phase in HELD. -/
structure Sequencer where
  table : List (Option Segment)
  digest : Half
  state : SeqState
  phase : Option RunPhase
  step : Nat
  segment : Nat
  work : Option WorkingCopy
  counters : List Nat
  hold : HoldTimer
  extension : HoldTimer
  extensionUsed : Bool
  mismatch : Option Nat
  choice : Option Nat
  deriving DecidableEq, Repr

/-! ### Force servo (chapter 4) -/

/-- The force servo. -/
structure Servo where
  timer : Option Nat
  lam : Nat
  acc : Nat
  integral : Int
  drive : Int
  fSet : Int
  fMeas : Int
  error : Int
  lagging : Bool
  tripCount : Nat
  overLimit : Bool
  reacquire : Option Nat
  loadZero : Int
  clearOrder : Bool
  deriving DecidableEq, Repr

/-! ### Actuator unit (chapter 5) -/

/-- One entry of the charge list: sender and completion age (R88). -/
structure ChargeEntry where
  station : Nat
  age : Nat
  deriving DecidableEq, Repr

/-- The actuator unit. `ownPlaced` is the own CHARGE telegram in the CHARGE slot: `some true` that of the current wait,
`some false` one left over; `ownHeld` one held waiting for the slot (R89). -/
structure Actuator where
  state : ActState
  purpose : Option ChargePurpose
  chargeList : List ChargeEntry
  ownPlaced : Option Bool
  ownHeld : Bool
  chargeTimer : Option Nat
  lockTimer : Option Nat
  deadline : Option Nat
  acquisition : Option Nat
  /-- The sub-phase of UNLOCK_CHARGE: releasing, or else acquiring (R82). -/
  releasing : Bool
  lockRef : Option Int
  /-- A LOCKED start has not yet taken F_lockref (R94). -/
  lockRefDue : Bool
  lockCheck : Option Nat
  deriving DecidableEq, Repr

/-! ### Strain scanner (chapter 6) -/

/-- The channel states (R95). -/
inductive ChannelState where
  | ok | faulty | disabled
  deriving DecidableEq, Repr, Inhabited

/-- One channel record (R95), with its sums of a ZERO (R106) and of a shunt (R112). -/
structure Channel where
  state : ChannelState
  zero : Int
  sum : Int
  overMark : Bool
  shuntMark : Bool
  latest : Int
  latestOver : Bool
  latestShunt : Bool
  exceed : Nat
  cause : Bool
  ref : Option Int
  rawSum : Int
  beforeSum : Int
  onSum : Int
  deriving DecidableEq, Repr, Inhabited

/-- A ZERO collection that runs (R105). -/
structure ZeroRun where
  loadSum : Int
  count : Nat
  vented : Bool
  deriving DecidableEq, Repr

/-- The shunt states (Table 6-3). -/
inductive ShuntState where
  | none | claiming | waiting | before | onSettle | on | offSettle
  deriving DecidableEq, Repr, Inhabited

/-- The claim holder of the own excitation group: station and completion age of its claim (section 6.7). -/
structure Holder where
  station : Nat
  age : Nat
  deriving DecidableEq, Repr

/-- The strain scanner. -/
structure Scanner where
  channels : List Channel
  timer : Option Nat
  /-- D as read for the averaging run, and the scans it has taken. -/
  runLength : Nat
  runTaken : Nat
  settleTimer : Option Nat
  settled : Bool
  zero : Option ZeroRun
  shunt : ShuntState
  shuntScans : Nat
  /-- A SHUNT_CLAIM is held until the SHUNT slot empties (R110). -/
  claimHeld : Bool
  shuntActive : Bool
  holder : Option Holder
  deriving DecidableEq, Repr

/-! ### Crack monitor (chapter 7) -/

/-- The loop states (Table 7-3). -/
inductive LoopState where
  | disabled | intact | broken | accepted | fault
  deriving DecidableEq, Repr, Inhabited

/-- One loop record: state, taken reading and debounce candidate with its count (R119). -/
structure LoopRecord where
  state : LoopState
  taken : Option LoopReading
  candidate : Option (LoopReading × Nat)
  deriving DecidableEq, Repr, Inhabited

/-- A filled crack table entry (R123). -/
structure CrackEntry where
  timeTag : Tag
  step : Nat
  segment : Nat
  lam : Nat
  fMeas : Int
  deriving DecidableEq, Repr

/-- The AE bands (R128). -/
inductive AeBand where
  | normal | elevated | burst
  deriving DecidableEq, Repr, Inhabited

/-- One AE input: hit list oldest first, dead-time timer, band and sample count (R126 to R129). -/
structure AeInput where
  hits : List Nat
  dead : Option Nat
  band : AeBand
  count : Nat
  deriving DecidableEq, Repr, Inhabited

/-- The crack monitor. -/
structure CrackMonitor where
  timer : Option Nat
  loops : List LoopRecord
  entries : List (Option CrackEntry)
  inputs : List AeInput
  deriving DecidableEq, Repr

/-! ### Alarm unit (chapter 8) -/

/-- One alarm record (Table 8-2). -/
structure AlarmRecord where
  source : Nat
  kind : AlarmKind
  channel : Nat
  action : Latch
  count : Nat
  firstTag : Tag
  lastTag : Tag
  lam : Nat
  step : Nat
  acked : Bool
  deriving DecidableEq, Repr

/-- The entries of the own cause set (Table 8-3). -/
inductive Cause where
  | strain (channel : Nat)
  | loop (loop : Nat)
  | ae (input : Nat)
  | estop
  | lineFault
  | peerLost (station : Nat)
  | overLimit
  deriving DecidableEq, Repr

/-- The alarm unit. -/
structure AlarmUnit where
  records : List AlarmRecord
  overfull : Bool
  latch : Latch
  causes : List Cause
  deriving DecidableEq, Repr

/-! ### Record memory (chapter 9) -/

/-- The states of a block table entry (R147). -/
inductive BlockState where
  | free | filling | sealed | sending | sent
  deriving DecidableEq, Repr, Inhabited

/-- One block table entry (Table 9-2); its header is bytes 0 to 31 of its pages. -/
structure BlockEntry where
  state : BlockState
  pages : List Nat
  samples : Nat
  firstAge : Nat
  lastOffset : Nat
  deriving DecidableEq, Repr, Inhabited

/-- The causes of a seal (Table 9-3). -/
inductive SealCause where
  | full | phase | alarm | cut | time
  deriving DecidableEq, Repr

/-- A waiting OLDEST request: the console, its expiry age, and whether it joined during the sending in progress
(R158). -/
structure FetchRequest where
  console : Nat
  expiry : Nat
  joinedSending : Bool
  deriving DecidableEq, Repr

/-- The sending in progress: the block, its console and the next part to place (R159). -/
structure Sending where
  block : Nat
  console : Nat
  next : Nat
  deriving DecidableEq, Repr

/-- The record memory. The pool's bytes are listed in canonical form: page p, byte b at address 256 × p + b. -/
structure RecordMemory where
  pool : List Host.Cell
  freePages : Nat
  table : List BlockEntry
  sealedQ : List Nat
  fetchQ : List FetchRequest
  sending : Option Sending
  pressure : Bool
  capture : Bool
  scansLeft : Nat
  captureKind : Option AlarmKind
  gap : Nat
  serial : Tag
  deriving DecidableEq, Repr

/-! ### Command unit (chapter 10) -/

/-- The queued commands (section 10.2). -/
inductive QueuedKind where
  | charge | vent | lock | unlock | cleartrip | zero | shunt
  deriving DecidableEq, Repr

/-- A queued command: kind and the console that sent it. -/
structure QueuedCommand where
  kind : QueuedKind
  console : Nat
  deriving DecidableEq, Repr

/-- The command unit. -/
structure CommandUnit where
  queue : List QueuedCommand
  current : Option QueuedCommand
  timeTag : Tag
  deriving DecidableEq, Repr

/-! ### The whole station -/

/-- The state of the station. `age` is the age clock in steps of 0.1 ms; `pending` is the model's own queue of the
commands that wait, first in first out. -/
structure State where
  pending : List Instr
  age : Nat
  loader : Loader
  cfg : Settings
  pins : Pins
  line : LineUnit
  peers : PeerTable
  seq : Sequencer
  servo : Servo
  act : Actuator
  scan : Scanner
  crack : CrackMonitor
  alarm : AlarmUnit
  recs : RecordMemory
  cmd : CommandUnit
  deriving DecidableEq, Repr

/-! ### Reset values -/

/-- No settings: what the settings fields hold before the loader hands any out (log entry 11). -/
def Settings.unset : Settings where
  peerTimeout := 0
  memberSet := 0
  fDesign := 0
  fLimit := 0
  loadZero := 0
  gain := 0
  kp := 0
  ki := 0
  bTrack := 0
  bTrip := 0
  tTrip := 0
  lead := 0
  unloadRate := 0
  tChg := 0
  tLock := 0
  tAcq := 0
  wPump := 0
  lockInterval := 0
  lockBand := 0
  driftAction := .none
  noSettleAction := .none
  scanPeriod := 0
  dBase := 0
  blockPages := 0
  captureLength := 0
  excitation := 0
  settleWindow := 0
  driftLimit := 0
  channels := []
  loops := []
  aeInputs := []

/-- R16: the line unit after power-on and after the reset pin (rate, period and load group: log entry 11). -/
def LineUnit.reset : LineUnit where
  bitRate := 0
  statusPeriod := 50
  loadGroup := 0
  statusTimer := none
  alarmQ := []
  chargeSlot := none
  shuntSlot := none
  shuntDoneBehind := false
  statusSlot := .empty
  replyQ := []
  dataQ := []
  heldReplies := []
  events := 0
  afterTake := 0
  tx := none
  faultCount := 0
  lineFault := false
  ownCompleted := false

/-- Table 2-2: the reset values of a peer record. -/
def PeerRecord.reset : PeerRecord where
  present := false
  lastHeard := none
  expiry := none
  loadGroup := 0
  seqState := .idle
  phase := none
  step := 0
  segment := 0
  lam := 0
  fMeas := 0
  actuator := .vented
  latch := .none
  flags := 0
  digest := 0
  lastSeen := .none
  lost := false

/-- R29: the peer table after a start. -/
def PeerTable.reset : PeerTable where
  records := List.replicate 27 PeerRecord.reset
  memberAbsent := true
  digestMismatch := false

/-- The digest that R34 gives for the table of 32 EMPTY entries; `Laws/Reset.lean` shows that it does. -/
def Sequencer.emptyDigest : Half := 0x79DF#16

/-- R55: the sequencer after a start. -/
def Sequencer.reset : Sequencer where
  table := List.replicate 32 none
  digest := Sequencer.emptyDigest
  state := .idle
  phase := none
  step := 0
  segment := 0
  work := none
  counters := List.replicate 32 0
  hold := .stopped
  extension := .stopped
  extensionUsed := false
  mismatch := none
  choice := none

/-- R73: the servo after a start. -/
def Servo.reset : Servo where
  timer := none
  lam := 0
  acc := 0
  integral := 0
  drive := 0
  fSet := 0
  fMeas := 0
  error := 0
  lagging := false
  tripCount := 0
  overLimit := false
  reacquire := none
  loadZero := 0
  clearOrder := false

/-- R94: the actuator unit after a start, in the start state that the input levels decide. -/
def Actuator.reset (levels : StartLevels) : Actuator where
  state := if levels.lockEngaged then .locked else if levels.estop then .tripped else .vented
  purpose := none
  chargeList := []
  ownPlaced := none
  ownHeld := false
  chargeTimer := none
  lockTimer := none
  deadline := none
  acquisition := none
  releasing := false
  lockRef := none
  lockRefDue := levels.lockEngaged
  lockCheck := none

/-- R117: a channel record before the settings are known. -/
def Channel.reset : Channel where
  state := .disabled
  zero := 0
  sum := 0
  overMark := false
  shuntMark := false
  latest := 0
  latestOver := false
  latestShunt := false
  exceed := 0
  cause := false
  ref := none
  rawSum := 0
  beforeSum := 0
  onSum := 0

/-- R117: the scanner after a start; the length of the averaging run before D is read is the model's (log entry 35). -/
def Scanner.reset : Scanner where
  channels := List.replicate 16 Channel.reset
  timer := none
  runLength := 0
  runTaken := 0
  settleTimer := none
  settled := false
  zero := none
  shunt := .none
  shuntScans := 0
  claimHeld := false
  shuntActive := false
  holder := none

/-- R130: the crack monitor after a start. -/
def CrackMonitor.reset : CrackMonitor where
  timer := none
  loops := List.replicate 8 { state := .disabled, taken := none, candidate := none }
  entries := List.replicate 8 none
  inputs := List.replicate 4 { hits := [], dead := none, band := .normal, count := 0 }

/-- R146: the alarm unit after a start. -/
def AlarmUnit.reset : AlarmUnit where
  records := []
  overfull := false
  latch := .none
  causes := []

/-- A FREE entry of the block table. -/
def BlockEntry.freeEntry : BlockEntry where
  state := .free
  pages := []
  samples := 0
  firstAge := 0
  lastOffset := 0

/-- R162: the record memory after a start; the pool lists no byte (log entry 13). -/
def RecordMemory.reset : RecordMemory where
  pool := []
  freePages := 256
  table := List.replicate 64 BlockEntry.freeEntry
  sealedQ := []
  fetchQ := []
  sending := none
  pressure := false
  capture := false
  scansLeft := 0
  captureKind := none
  gap := 0
  serial := 0

/-- R169: the command unit after a start. -/
def CommandUnit.reset : CommandUnit where
  queue := []
  current := none
  timeTag := 0

/-- The lines at a start: the outputs of the start state (R94); the converter codes and loop readings before any
command has brought one are the model's (log entry 10). -/
def Pins.reset (levels : StartLevels) : Pins where
  pressOk := levels.pressOk
  lockEngaged := levels.lockEngaged
  estop := levels.estop
  loadCode := 0
  bridgeCodes := List.replicate 16 0
  loopReadings := List.replicate 8 .intact
  iso := false
  dump := !levels.lockEngaged
  lockCmd := levels.lockEngaged
  drive := 0
  shunts := 0

/-- A start in phase READING: every block at its reset values, the age clock at 0 (R170). -/
def State.start (cause : StartCause) (levels : StartLevels) (pending : List Instr) : State where
  pending := pending
  age := 0
  loader := { phase := .reading, cause := cause, straps := 0, image := [] }
  cfg := Settings.unset
  pins := Pins.reset levels
  line := LineUnit.reset
  peers := PeerTable.reset
  seq := Sequencer.reset
  servo := Servo.reset
  act := Actuator.reset levels
  scan := Scanner.reset
  crack := CrackMonitor.reset
  alarm := AlarmUnit.reset
  recs := RecordMemory.reset
  cmd := CommandUnit.reset

/-- The machine right after reset: a start after power-up with LOCK_ENGAGED and PRESS_OK false and ESTOP inactive
(log entries 9 and 10), and no command waiting. -/
def State.reset : State :=
  State.start .power { pressOk := false, lockEngaged := false, estop := false } []

end Sys2Proof.Machine
end

