-- ==== Sys2Proof/Machine/Bytes.lean ====
section
/-! DEFINITION. Bytes: the byte order of multi-byte fields (section 4.3), the cyclic check (R1), the codes of names in
telegrams (Tables 1-5 to 1-8), and the record pool as a memory of bytes (R147). -/
namespace Sys2Proof.Machine

open Sys2Proof

/-! ### Byte order -/

/-- The `n` low bytes of `v`, least significant byte first (section 4.3). -/
def leBytes : Nat → Nat → List Byte
  | 0, _ => []
  | n + 1, v => BitVec.ofNat 8 v :: leBytes n (v / 256)

/-- The `n` bytes of a signed field in two's complement, least significant byte first (section 4.3). -/
def leSigned (n : Nat) (v : Int) : List Byte :=
  leBytes n (v.emod (256 ^ n)).toNat

/-- The value of bytes stored least significant byte first. -/
def leNat : List Byte → Nat
  | [] => 0
  | b :: r => b.toNat + 256 * leNat r

/-- The value of a two's complement field stored least significant byte first. -/
def leInt (bs : List Byte) : Int :=
  if 2 * leNat bs < 256 ^ bs.length then leNat bs else (leNat bs : Int) - 256 ^ bs.length

/-- The field of `width` bytes at `offset`. -/
def fieldAt (bs : List Byte) (offset width : Nat) : List Byte :=
  (bs.drop offset).take width

/-! ### The cyclic check -/

/-- One bit of the division by x¹⁶ + x¹² + x⁵ + 1 (R1). -/
def crcBit (c : Nat) : Nat :=
  if c < 32768 then 2 * c else (2 * c - 65536) ^^^ 0x1021

/-- One byte, most significant bit first (R1). -/
def crcByte (c : Nat) (b : Byte) : Nat :=
  crcBit (crcBit (crcBit (crcBit (crcBit (crcBit (crcBit (crcBit (c ^^^ (b.toNat * 256)))))))))

/-- The 16-bit cyclic check of R1: the register preset to all ones, the bytes in the order they are sent. -/
def crc16 (bs : List Byte) : Half :=
  BitVec.ofNat 16 (bs.foldl crcByte 0xFFFF)

/-! ### Codes -/

/-- Table 1-5, action latch. -/
def latchCode : Latch → Nat
  | .none => 0
  | .note => 1
  | .hold => 2
  | .unload => 3
  | .dump => 4

/-- Table 1-5, action latch, the other way. -/
def latchOfCode : Nat → Option Latch
  | 0 => some .none
  | 1 => some .note
  | 2 => some .hold
  | 3 => some .unload
  | 4 => some .dump
  | _ => none

/-- An action code, 1 to 4 (Table 1-7). -/
def actionOfCode (c : Nat) : Option Latch :=
  if c = 0 then none else latchOfCode c

/-- Table 1-5, sequencer state. -/
def seqCode : SeqState → Nat
  | .idle => 0
  | .run => 1
  | .held => 2
  | .unloading => 3
  | .ended => 4

/-- Table 1-5, sequencer state, the other way. -/
def seqOfCode : Nat → Option SeqState
  | 0 => some .idle
  | 1 => some .run
  | 2 => some .held
  | 3 => some .unloading
  | 4 => some .ended
  | _ => none

/-- Table 1-5, phase; NONE is FFh. -/
def phaseCode : Option RunPhase → Nat
  | some .ramp => 0
  | some .dwell => 1
  | some .done => 2
  | none => 255

/-- Table 1-5, phase, the other way. -/
def phaseOfCode : Nat → Option (Option RunPhase)
  | 0 => some (some .ramp)
  | 1 => some (some .dwell)
  | 2 => some (some .done)
  | 255 => some none
  | _ => none

/-- Table 1-5, actuator state. -/
def actCode : ActState → Nat
  | .vented => 0
  | .waitWindow => 1
  | .charging => 2
  | .live => 3
  | .locking => 4
  | .locked => 5
  | .unlockCharge => 6
  | .tripped => 7

/-- Table 1-5, actuator state, the other way. -/
def actOfCode : Nat → Option ActState
  | 0 => some .vented
  | 1 => some .waitWindow
  | 2 => some .charging
  | 3 => some .live
  | 4 => some .locking
  | 5 => some .locked
  | 6 => some .unlockCharge
  | 7 => some .tripped
  | _ => none

/-- Table 1-5, start cause. -/
def causeCode : StartCause → Nat
  | .power => 0
  | .pin => 1
  | .configFault => 2

/-- Table 1-7, alarm kind codes. -/
def kindCode : AlarmKind → Nat
  | .overload => 0x01
  | .trackingLoss => 0x02
  | .estop => 0x03
  | .chargeFail => 0x04
  | .lockFail => 0x05
  | .unlockFail => 0x06
  | .peerLost => 0x07
  | .programMismatch => 0x08
  | .lineFault => 0x09
  | .shuntFail => 0x0A
  | .loopFault => 0x0B
  | .crackWire => 0x0C
  | .aeBurst => 0x0D
  | .strainLimit => 0x0E
  | .lockDrift => 0x0F
  | .noSettle => 0x10
  | .peerAction => 0x11

/-- Table 1-7, the other way. -/
def kindOfCode : Nat → Option AlarmKind
  | 0x01 => some .overload
  | 0x02 => some .trackingLoss
  | 0x03 => some .estop
  | 0x04 => some .chargeFail
  | 0x05 => some .lockFail
  | 0x06 => some .unlockFail
  | 0x07 => some .peerLost
  | 0x08 => some .programMismatch
  | 0x09 => some .lineFault
  | 0x0A => some .shuntFail
  | 0x0B => some .loopFault
  | 0x0C => some .crackWire
  | 0x0D => some .aeBurst
  | 0x0E => some .strainLimit
  | 0x0F => some .lockDrift
  | 0x10 => some .noSettle
  | 0x11 => some .peerAction
  | _ => none

/-- Table 1-8, results. -/
def resultCode : ReplyResult → Nat
  | .done => 1
  | .refused => 2
  | .empty => 3

/-- Table 1-8, reasons. -/
def reasonCode : Reason → Nat
  | .none => 0
  | .state => 1
  | .range => 2
  | .actuator => 3
  | .programInvalid => 4
  | .absentMember => 5
  | .programMismatch => 6
  | .action => 7
  | .unacked => 8
  | .causePresent => 9
  | .peerCause => 10
  | .tripped => 11
  | .busy => 12
  | .busyShunt => 13
  | .notFound => 14
  | .estop => 15

/-- Table 1-6, kind codes of the queued commands. -/
def queuedKindCode : QueuedKind → Nat
  | .charge => 0x4D
  | .vent => 0x4E
  | .lock => 0x4F
  | .unlock => 0x50
  | .cleartrip => 0x51
  | .zero => 0x52
  | .shunt => 0x53

/-- Table 1-6: the payload length of a console command kind, `none` for a code the table does not hold. -/
def commandLength (code : Nat) : Option Nat :=
  if code = 0x40 then some 13
  else if code = 0x46 then some 4
  else if code = 0x47 then some 1
  else if code = 0x48 then some 3
  else if code = 0x49 then some 1
  else if code = 0x4B then some 4
  else if code = 0x4C then some 2
  else if 0x41 ≤ code ∧ code ≤ 0x53 then some 0
  else none

/-- Table 1-3, purpose of a CHARGE. -/
def purposeCode : ChargePurpose → Nat
  | .charge => 1
  | .unlock => 2

/-- Table 1-9, channel states. -/
def channelStateCode : ChannelState → Nat
  | .ok => 0
  | .faulty => 1
  | .disabled => 2

/-- Table 1-9, loop states. -/
def loopStateCode : LoopState → Nat
  | .disabled => 0
  | .intact => 1
  | .broken => 2
  | .accepted => 3
  | .fault => 4

/-- Table 9-3, seal causes. -/
def sealCode : SealCause → Nat
  | .full => 1
  | .phase => 2
  | .alarm => 3
  | .cut => 4
  | .time => 5

/-- 1 for a flag that is set and 0 for one that is clear. -/
def bit (b : Bool) : Nat :=
  if b then 1 else 0

/-! ### Telegrams on the pair -/

/-- The class number of a queue (Table 1-2). -/
def classCode : TxClass → Nat
  | .alarm => 0
  | .charge => 1
  | .shunt => 3
  | .status => 4
  | .reply => 5
  | .data => 6

/-- The arbitration field: class in bits 7 to 5, sender in bits 4 to 0 (Table 1-1). The lower value prevails (R2). -/
def arbitrationField (cls sender : Nat) : Nat :=
  32 * cls + sender

/-- A telegram as sent: arbitration field, destination, kind, length, payload and check (R1). -/
def frame (cls sender dest kind : Nat) (payload : List Byte) : List Byte :=
  let body := BitVec.ofNat 8 (arbitrationField cls sender) :: BitVec.ofNat 8 dest :: BitVec.ofNat 8 kind ::
    BitVec.ofNat 8 payload.length :: payload
  body ++ leBytes 2 (crc16 body).toNat

/-! ### The record pool -/

/-- The byte at an address of the pool: an unlisted one is 0 (log entry 13). -/
def poolRead : List Host.Cell → Nat → Byte
  | [], _ => 0
  | (k, b) :: r, a => if a = k then b else poolRead r a

/-- Write one byte, keeping the canonical form: addresses strictly rising, no byte of value 0 listed. -/
def poolWrite : List Host.Cell → Nat → Byte → List Host.Cell
  | [], a, v => if v = 0 then [] else [(a, v)]
  | (k, b) :: r, a, v =>
    if a < k then (if v = 0 then (k, b) :: r else (a, v) :: (k, b) :: r)
    else if a = k then (if v = 0 then r else (a, v) :: r)
    else (k, b) :: poolWrite r a v

/-- Set every byte of a page to 0. -/
def poolClearPage (m : List Host.Cell) (page : Nat) : List Host.Cell :=
  m.filter (fun c => c.1 / 256 != page)

/-- The canonical form of the pool: strictly rising addresses of the 256 pages and no listed byte 0. -/
def Memory.wf : List Host.Cell → Bool
  | [] => true
  | (k, b) :: r => decide (k < 65536) && decide (b ≠ 0) && r.all (fun c => decide (k < c.1)) && Memory.wf r

/-- The pool address of byte `b` of a block with the page list `pages` (R147). -/
def blockAddress (pages : List Nat) (b : Nat) : Option Nat :=
  (pages[b / 256]?).map (fun p => 256 * p + b % 256)

/-- Write bytes into a block from byte `offset` on; a byte past the block's pages is not written. -/
def blockWrite (pages : List Nat) (offset : Nat) : List Byte → List Host.Cell → List Host.Cell
  | [], m => m
  | v :: r, m =>
    blockWrite pages (offset + 1) r
      (match blockAddress pages offset with
        | some a => if a < 65536 then poolWrite m a v else m
        | none => m)

/-- `n` bytes of a block from byte `offset` on. -/
def blockRead (pages : List Nat) (offset : Nat) : Nat → List Host.Cell → List Byte
  | 0, _ => []
  | n + 1, m =>
    (match blockAddress pages offset with
      | some a => poolRead m a
      | none => 0) :: blockRead pages (offset + 1) n m

end Sys2Proof.Machine
end

