-- ==== Sys2Proof/Machine/Operands.lean ====
section
/-! DEFINITION. The arithmetic words of the manual (section 4.2), the age clock and its timers, and reading and writing
one of a fixed number of like things. -/
namespace Sys2Proof.Machine

open Sys2Proof

/-! ### Rounding (section 4.2) -/

/-- Truncate: the quotient rounded toward zero. -/
def truncDiv (a : Int) (d : Nat) : Int :=
  a.tdiv d

/-- Round: the quotient rounded to the nearest integer, halves away from zero. -/
def roundDiv (a : Int) (d : Nat) : Int :=
  if 0 ≤ a then (2 * a + d) / (2 * (d : Int)) else -((2 * (-a) + d) / (2 * (d : Int)))

/-- Round up, for quantities that cannot be negative. -/
def ceilDiv (a d : Nat) : Nat :=
  (a + d - 1) / d

/-- Clamped to a range. -/
def clampTo (lo hi v : Int) : Int :=
  if v < lo then lo else if hi < v then hi else v

/-! ### Like things by number -/

/-- Replace the `i`-th element by its image; an index past the end changes nothing. -/
def modifyAt {α : Type} (f : α → α) : Nat → List α → List α
  | _, [] => []
  | 0, x :: r => f x :: r
  | i + 1, x :: r => x :: modifyAt f i r

/-- Replace the `i`-th element; an index past the end changes nothing. -/
def setAt {α : Type} (i : Nat) (v : α) (l : List α) : List α :=
  modifyAt (fun _ => v) i l

/-- Replace each element by an image that may depend on its number, counted from `i`. -/
def mapFrom {α : Type} (f : Nat → α → α) : Nat → List α → List α
  | _, [] => []
  | i, x :: r => f i x :: mapFrom f (i + 1) r

/-! ### The age clock -/

/-- Milliseconds as steps of the age clock. -/
def ms (n : Nat) : Nat :=
  Config.perMs * n

/-- An age-clock difference in whole milliseconds, truncated (section 4.5). -/
def wholeMs (d : Nat) : Nat :=
  d / Config.perMs

/-- Move the age clock to `t` where it has not reached it; the time tag counts the milliseconds that pass (R168). -/
def advanceTo (t : Nat) (s : State) : State :=
  if s.age < t then
    { s with age := t, cmd.timeTag := s.cmd.timeTag + BitVec.ofNat 32 (t / Config.perMs - s.age / Config.perMs) }
  else s

/-- The remaining time of a timer that expires at `due`, at the age `now`. -/
def remaining (now due : Nat) : Nat :=
  due - now

/-- Stop a timer with its remaining time (R46); a stopped one is as it was. -/
def pauseTimer (now : Nat) : HoldTimer → HoldTimer
  | .running due => .paused (remaining now due)
  | t => t

/-! ### The action latch -/

/-- The higher of two latch values (R135). -/
def latchMax (a b : Latch) : Latch :=
  if latchCode a < latchCode b then b else a

/-- A latch at or above another. -/
def latchAtLeast (a b : Latch) : Bool :=
  decide (latchCode b ≤ latchCode a)

/-! ### Stations and members -/

/-- The own station number: the strap value. -/
def ownStation (s : State) : Nat :=
  s.loader.straps

/-- A frame station number (section 4.4). -/
def isFrameStation (n : Nat) : Bool :=
  decide (1 ≤ n ∧ n ≤ 27)

/-- A console station number (section 4.4). -/
def isConsole (n : Nat) : Bool :=
  decide (28 ≤ n ∧ n ≤ 31)

/-- Membership is decided by the configured member set alone (section 2.3). -/
def isMember (n : Nat) (s : State) : Bool :=
  isFrameStation n && s.cfg.memberSet.getLsbD n

/-- The line unit sends: settings distributed, or CONFIG_FAULT with a valid strap number (R15). -/
def lineSends (s : State) : Bool :=
  match s.loader.phase with
  | .running => true
  | .configFault => isFrameStation s.loader.straps
  | _ => false

/-- The station runs under distributed settings (R172). -/
def isRunning (s : State) : Bool :=
  decide (s.loader.phase = .running)

/-- No event is taken while power rises or the reset pin is held (R170). -/
def takesEvents (s : State) : Bool :=
  decide (s.loader.phase ≠ .held)

end Sys2Proof.Machine
end

