-- ==== Sys2Proof/Machine/Flags.lean ====
section
/-! DEFINITION. The flag fields: the nine STATUS flags and the events-since-STATUS set (Table 1-5), and the flag byte
of a block header (Table 9-5). -/
namespace Sys2Proof.Machine

open Sys2Proof

/-- The bit of an event in the events-since-STATUS set (Table 1-5). -/
def eventIndex : Event → Nat
  | .blockSealed => 0
  | .gap => 1
  | .crackBreak => 2
  | .aeBurst => 3
  | .aeElevated => 4
  | .alarmRaised => 5
  | .shuntDone => 6
  | .zeroDone => 7
  | .programEdited => 8
  | .commandDone => 9
  | .trip => 10

/-- The one-element event set. -/
def eventBit (e : Event) : Half :=
  1#16 <<< eventIndex e

/-- The STATUS slot's contents are taken (R9). -/
def statusTaken (s : State) : Bool :=
  match s.line.statusSlot with
  | .taken _ _ => true
  | _ => false

/-- An event arises: it enters the set, and the after-take set of a take that stands (R11). -/
def setEvent (e : Event) (s : State) : State :=
  { s with
    line.events := s.line.events ||| eventBit e
    line.afterTake := if statusTaken s then s.line.afterTake ||| eventBit e else s.line.afterTake }

/-- CAUSE_PRESENT: the own cause set holds an entry (R140). -/
def causePresent (s : State) : Bool :=
  !s.alarm.causes.isEmpty

/-- The nine flags of a STATUS, bit 0 LAGGING to bit 8 DIGEST_MISMATCH_SEEN, as they stand (Table 1-5). -/
def statusFlags (s : State) : Nat :=
  bit s.servo.lagging + 2 * bit s.scan.settled + 4 * bit (causePresent s) + 8 * bit s.scan.shuntActive +
    16 * bit s.recs.pressure + 32 * bit s.line.lineFault + 64 * bit s.recs.capture + 128 * bit s.peers.memberAbsent +
    256 * bit s.peers.digestMismatch

/-- The flags and load group field of a STATUS: the load group in bits 12 to 14 (Table 1-5). -/
def flagsField (s : State) : Nat :=
  statusFlags s + 4096 * s.line.loadGroup

/-- A flag of a peer's STATUS by its bit (Table 1-5). -/
def peerFlag (flags : BitVec 9) (i : Nat) : Bool :=
  flags.getLsbD i

/-- CAUSE_PRESENT in a peer's flags. -/
def flagCausePresent : Nat := 2

/-- SHUNT_ACTIVE in a peer's flags. -/
def flagShuntActive : Nat := 3

/-- The flag byte of a block header: GAP, CAPTURE, REC_PRESSURE (Table 9-5). -/
def headerFlags (gap capture pressure : Bool) : Nat :=
  bit gap + 2 * bit capture + 4 * bit pressure

end Sys2Proof.Machine
end

