-- ==== Sys2Proof/Machine/Ops.lean ====
section
/-! DEFINITION. The operations that several commands share: placing telegrams and replies, ending a queued command,
sealing and sending blocks, the peer table's answers, the scanner's and the sequencer's responses, the trip, and the
raise of an alarm with everything that follows from it (R131 to R140). -/
namespace Sys2Proof.Machine

open Sys2Proof

/-! ### Telegrams and replies (chapter 1) -/

/-- A telegram of the class is on offer or in transmission (R2). -/
def onOffer (c : TxClass) (s : State) : Bool :=
  match s.line.tx with
  | some t => decide (t.cls = c)
  | none => false

/-- A telegram of the class is in transmission: it has won its arbitration (R2). -/
def inTransmission (c : TxClass) (s : State) : Bool :=
  match s.line.tx with
  | some t => decide (t.cls = c) && t.won
  | none => false

/-- Kind code of SHUNT_CLAIM (Table 1-2). -/
def claimTelegramCode : Nat := 0x03
/-- Kind code of SHUNT_DONE (Table 1-2). -/
def doneTelegramCode : Nat := 0x04

/-- A SHUNT telegram as bytes on the pair (R1, Table 1-3). -/
def shuntBytes (t : ShuntTelegram) (s : State) : List Byte :=
  frame (classCode .shunt) (ownStation s) 0 (if t.isDone then doneTelegramCode else claimTelegramCode)
    (leBytes 1 t.group)

/-- The SHUNT_DONE of the own group. -/
def ownDone (s : State) : ShuntTelegram :=
  { isDone := true, group := s.cfg.excitation }

/-- A telegram on offer that is not in transmission carries what its slot then holds: the SHUNT_DONE in place of the
claim, whose arbitration field is the same (R2, R7). -/
def reofferDone (s : State) (t : Transmission) : Transmission :=
  if t.cls = .shunt then { t with bytes := shuntBytes (ownDone s) s } else t

/-- Place a reply in the event of its command; R13 has made sure of an entry. -/
def placeReply (r : Reply) (s : State) : State :=
  { s with line.replyQ := s.line.replyQ ++ [r] }

/-- Place a late reply: in the REPLY queue, or at the tail of the held-reply list when the queue is full (R13). -/
def placeLateReply (r : Reply) (s : State) : State :=
  if s.line.replyQ.length < Config.replyQueueSize then placeReply r s
  else { s with line.heldReplies := s.line.heldReplies ++ [r] }

/-- Place an ALARM telegram; with 4 queued it is lost (R12). -/
def placeAlarm (t : AlarmTelegram) (s : State) : State :=
  if s.line.alarmQ.length < Config.alarmQueueSize then { s with line.alarmQ := s.line.alarmQ ++ [t] } else s

/-- Place a SHUNT_DONE of the own group (R7): it replaces a claim not in transmission, which is never sent, and waits
behind one that is. -/
def placeShuntDone (s : State) : State :=
  match s.line.shuntSlot with
  | none => { s with line.shuntSlot := some (ownDone s) }
  | some t =>
    if t.isDone then s
    else if inTransmission .shunt s then { s with line.shuntDoneBehind := true }
    else { s with line.shuntSlot := some (ownDone s), line.tx := s.line.tx.map (reofferDone s) }

/-- Place a SHUNT_CLAIM of the own group, or hold it while the slot is occupied (R7, R110). -/
def placeShuntClaim (s : State) : State :=
  match s.line.shuntSlot with
  | none =>
    { s with line.shuntSlot := some { isDone := false, group := s.cfg.excitation }, scan.claimHeld := false }
  | some _ => { s with scan.claimHeld := true }

/-! ### Ends of queued commands (R165) -/

/-- The queued commands the actuator unit owns. -/
def isActuatorCommand : QueuedKind → Bool
  | .zero => false
  | .shunt => false
  | _ => true

/-- The command in progress ends with an answer: late reply, COMMAND_DONE, none in progress (R165). -/
def endCommand (result : ReplyResult) (reason : Reason) (s : State) : State :=
  match s.cmd.current with
  | none => s
  | some q =>
    let s1 := placeLateReply
      { dest := q.console, kindCode := queuedKindCode q.kind, result := result, reason := reason, data := [] } s
    let s2 := setEvent .commandDone s1
    { s2 with cmd.current := none }

/-- End the command in progress if the actuator unit owns it (R84 to R86). -/
def endActuatorCommand (result : ReplyResult) (reason : Reason) (s : State) : State :=
  match s.cmd.current with
  | none => s
  | some q => if isActuatorCommand q.kind then endCommand result reason s else s

/-- End the command in progress if it is of the kind. -/
def endCommandOf (kind : QueuedKind) (result : ReplyResult) (reason : Reason) (s : State) : State :=
  match s.cmd.current with
  | none => s
  | some q => if q.kind = kind then endCommand result reason s else s

/-! ### Record memory: sending, sealing, pressure, capture (chapter 9) -/

/-- The block table entry of a number; FREE past the table. -/
def blockAt (n : Nat) (s : State) : BlockEntry :=
  s.recs.table.getD n BlockEntry.freeEntry

/-- The number of the FILLING block, if any (at most one, R147). -/
def fillingBlock (s : State) : Option Nat :=
  s.recs.table.findIdx? (fun e => decide (e.state = .filling))

/-- The DATA part `part` of the block being sent to `console` (R159). -/
def dataPart (block console part : Nat) (s : State) : DataPart :=
  { dest := console, block := block, part := part
    data := blockRead (blockAt block s).pages (64 * part) 64 s.recs.pool }

/-- Place the parts not yet placed, as many as the DATA queue has room for (R159). -/
def placeParts (s : State) : State :=
  match s.recs.sending with
  | none => s
  | some d =>
    let n := min (Config.dataQueueSize - s.line.dataQ.length) (4 * s.cfg.blockPages - d.next)
    { s with
      line.dataQ := s.line.dataQ ++ (List.range n).map (fun i => dataPart d.block d.console (d.next + i) s)
      recs.sending := some { d with next := d.next + n } }

/-- A block is chosen for a console: SENDING, its first parts placed (R159). -/
def startSending (block console : Nat) (s : State) : State :=
  placeParts
    { s with
      recs.sealedQ := s.recs.sealedQ.filter (fun n => n != block)
      recs.table := modifyAt (fun e => { e with state := .sending }) block s.recs.table
      recs.sending := some { block := block, console := console, next := 0 } }

/-- The oldest waiting request is served with the head of the sealed queue when no block is SENDING (R158). -/
def serveFetch (s : State) : State :=
  match s.recs.sending, s.recs.sealedQ, s.recs.fetchQ with
  | none, b :: _, r :: rest =>
    startSending b r.console
      (placeLateReply { dest := r.console, kindCode := 0x48, result := .done, reason := .none, data := [] }
        { s with recs.fetchQ := rest })
  | _, _, _ => s

/-- Seal the FILLING block; without one nothing happens (R151). `kind` is the order's alarm kind for cause ALARM. -/
def sealBlock (cause : SealCause) (kind : Option AlarmKind) (s : State) : State :=
  match fillingBlock s with
  | none => s
  | some n =>
    let e := blockAt n s
    let pool1 := blockWrite e.pages 17 [BitVec.ofNat 8 (sealCode cause)] s.recs.pool
    let pool2 := blockWrite e.pages 19 [BitVec.ofNat 8 (match kind with | some k => kindCode k | none => 0)] pool1
    let pool3 := blockWrite e.pages 21 [BitVec.ofNat 8 e.samples] pool2
    let pool4 := blockWrite e.pages 28 (leBytes 2 e.lastOffset ++ leBytes 2 s.recs.freePages) pool3
    serveFetch (setEvent .blockSealed
      { s with
        recs.pool := pool4
        recs.table := modifyAt (fun e => { e with state := .sealed }) n s.recs.table
        recs.sealedQ := s.recs.sealedQ ++ [n] })

/-- The decimation factor D in force (R154). -/
def decimation (s : State) : Nat :=
  if s.recs.capture then 1
  else if s.recs.pressure then min (2 * s.cfg.dBase) 64
  else s.cfg.dBase

/-- Judge pool pressure after a change of the free-page count (R153). -/
def judgePressure (s : State) : State :=
  { s with recs.pressure :=
      if s.recs.freePages < 64 then true else if 96 ≤ s.recs.freePages then false else s.recs.pressure }

/-- A cut-and-capture order (R139, R155). -/
def cutAndCapture (kind : AlarmKind) (s : State) : State :=
  let s1 := sealBlock .alarm (some kind) s
  if 0 < s1.cfg.captureLength then
    { s1 with recs.capture := true, recs.scansLeft := s1.cfg.captureLength, recs.captureKind := some kind }
  else s1

/-! ### Peer table: the answers (chapter 2) -/

/-- The record of a frame station; the reset record for any other number. -/
def peerAt (n : Nat) (s : State) : PeerRecord :=
  if n = 0 then PeerRecord.reset else s.peers.records.getD (n - 1) PeerRecord.reset

/-- The members other than the own station. -/
def otherMembers (s : State) : List Nat :=
  (List.range 28).filter (fun n => isMember n s && n != ownStation s)

/-- The records of the present members other than the own station. -/
def presentPeers (s : State) : List PeerRecord :=
  ((otherMembers s).map (fun n => peerAt n s)).filter (fun p => p.present)

/-- MEMBER_ABSENT as the records give it (R20). -/
def someMemberAbsent (s : State) : Bool :=
  (otherMembers s).any (fun n => !(peerAt n s).present)

/-- The digest answer: every present member's digest equals the own one (R26). -/
def digestAnswer (s : State) : Bool :=
  (presentPeers s).all (fun p => decide (p.digest = s.seq.digest))

/-- The gate answer for a step: every present member is past it or DONE of it (R27). -/
def gateAnswer (step : Nat) (s : State) : Bool :=
  (presentPeers s).all (fun p => decide (step < p.step ∨ (p.step = step ∧ p.phase = some .done)))

/-- Some present member reports CAUSE_PRESENT (R25). -/
def peerCause (s : State) : Bool :=
  (presentPeers s).any (fun p => peerFlag p.flags flagCausePresent)

/-- The levels of the present, untripped members (R23). -/
def peerLevels (s : State) : List Nat :=
  ((presentPeers s).filter (fun p => decide (p.actuator ≠ .tripped))).map (fun p => p.lam)

/-- λ_floor: the least of the own level and those of the present, untripped members (R23). -/
def lambdaFloor (s : State) : Nat :=
  (peerLevels s).foldl min s.servo.lam

/-- λ_ceiling: the greatest of the same levels (R23). -/
def lambdaCeiling (s : State) : Nat :=
  (peerLevels s).foldl max s.servo.lam

/-- Update MEMBER_ABSENT and DIGEST_MISMATCH_SEEN from the records (R20, R26). -/
def updatePeerFlags (s : State) : State :=
  { s with peers.memberAbsent := someMemberAbsent s, peers.digestMismatch := !digestAnswer s }

/-- Update DIGEST_MISMATCH_SEEN when the own digest has changed (R26, R34). -/
def updateDigestFlag (s : State) : State :=
  { s with peers.digestMismatch := !digestAnswer s }

/-! ### Strain scanner: DWELL, and the end of a shunt by a latch (chapter 6) -/

/-- The settings of a channel. -/
def channelCfg (c : Nat) (s : State) : ChannelCfg :=
  s.cfg.channels.getD c default

/-- A channel that the settle check judges: OK and settle-checked (R102, R103). -/
def settleJudged (c : Nat) (ch : Channel) (s : State) : Bool :=
  decide (ch.state = .ok) && (channelCfg c s).settleChecked

/-- New settle references: the latest average of each judged channel, none for the others (R102, R103). -/
def takeReferences (s : State) : State :=
  { s with scan.channels :=
      mapFrom (fun c ch => { ch with ref := if settleJudged c ch s then some ch.latest else none }) 0 s.scan.channels }

/-- Start the settle window timer (R102). -/
def startSettleWindow (s : State) : State :=
  { s with scan.settleTimer := some (s.age + ms (1000 * s.cfg.settleWindow)) }

/-- DWELL has been entered (R102). -/
def dwellEntered (s : State) : State :=
  startSettleWindow { takeReferences s with scan.settled := false }

/-- DWELL has been left (R104). -/
def dwellLeft (s : State) : State :=
  { s with
    scan.settled := false
    scan.settleTimer := none
    scan.channels := mapFrom (fun _ ch => { ch with ref := none }) 0 s.scan.channels }

/-- SHUNT_ACTIVE as Table 6-3 gives it for a shunt state. -/
def shuntStateActive : ShuntState → Bool
  | .before => true
  | .onSettle => true
  | .on => true
  | .offSettle => true
  | _ => false

/-- The own shunt runs, from acceptance to the end of the command (R110). -/
def shuntRuns (s : State) : Bool :=
  decide (s.scan.shunt ≠ .none)

/-- Dispose of the claim and its release when a latch ends the shunt (R115). -/
def releaseShunt (s : State) : State :=
  if s.cfg.excitation = 0 then s
  else if s.scan.claimHeld then
    let s1 := { s with scan.claimHeld := false }
    match s1.line.shuntSlot with
    | some t => if t.isDone then s1 else placeShuntDone s1
    | none => placeShuntDone s1
  else placeShuntDone s

/-- The shunt ends: switches off, sums discarded, SHUNT_ACTIVE clear, SHUNT_DONE event, state NONE (R114, R115). -/
def leaveShunt (s : State) : State :=
  setEvent .shuntDone
    { s with
      pins.shunts := 0
      scan.channels := mapFrom (fun _ ch => { ch with beforeSum := 0, onSum := 0 }) 0 s.scan.channels
      scan.shuntActive := false
      scan.shunt := .none
      scan.shuntScans := 0 }

/-- A rise of the latch to DUMP while the own shunt runs (R115). -/
def abortShunt (s : State) : State :=
  releaseShunt (endCommandOf .shunt .refused .action (leaveShunt s))

/-- The scanner's response to a new latch (R115, R135). -/
def scannerOnLatch (new : Latch) (s : State) : State :=
  if new = .dump ∧ shuntRuns s then abortShunt s else s

/-! ### Level sequencer: changes of state and its responses (chapter 3) -/

/-- The reported phase: the phase in RUN, the remembered one in HELD, else NONE (R35). -/
def reportedPhase (q : Sequencer) : Option RunPhase :=
  match q.state with
  | .run => q.phase
  | .held => q.phase
  | _ => none

/-- The sequencer takes a new state; a change of step or reported phase seals the FILLING block (R35, R152). -/
def setSequencer (q : Sequencer) (s : State) : State :=
  if reportedPhase q = reportedPhase s.seq ∧ q.step = s.seq.step then { s with seq := q }
  else sealBlock .phase none { s with seq := q }

/-- The sequencer is in RUN with phase DWELL. -/
def inDwell (s : State) : Bool :=
  decide (s.seq.state = .run ∧ s.seq.phase = some .dwell)

/-- Tell the scanner that DWELL has been left, if it was on. -/
def leaveDwellIf (was : Bool) (s : State) : State :=
  if was then dwellLeft s else s

/-- HELD entry (R46). -/
def enterHeld (s : State) : State :=
  leaveDwellIf (inDwell s)
    (setSequencer
      { s.seq with
        state := .held
        hold := pauseTimer s.age s.seq.hold
        extension := pauseTimer s.age s.seq.extension
        mismatch := none } s)

/-- UNLOADING entry (R47). -/
def enterUnloading (s : State) : State :=
  leaveDwellIf (inDwell s)
    (setSequencer
      { s.seq with
        state := .unloading
        phase := none
        hold := .stopped
        extension := .stopped
        mismatch := none
        choice := none } s)

/-- IDLE on the actuator's entry into TRIPPED, with the clear order to the servo (R49, R57). -/
def tripIdle (s : State) : State :=
  let s1 := leaveDwellIf (inDwell s)
    (setSequencer
      { s.seq with
        state := .idle
        phase := none
        step := 0
        segment := 0
        work := none
        counters := List.replicate 32 0
        hold := .stopped
        extension := .stopped
        extensionUsed := false
        mismatch := none
        choice := none } s)
  { s1 with servo.clearOrder := true }

/-- The sequencer's response to a risen latch (Table 3-3: R46, R47). -/
def sequencerOnLatch (new : Latch) (s : State) : State :=
  let live := decide (s.act.state = .live)
  match s.seq.state with
  | .run =>
    if latchAtLeast new .unload && live then enterUnloading s
    else if latchAtLeast new .hold then enterHeld s
    else s
  | .held => if latchAtLeast new .unload && live then enterUnloading s else s
  | .ended => if latchAtLeast new .unload && live then enterUnloading s else s
  | _ => s

/-- The sequencer is told of an actuator state other than TRIPPED (R47, R50). -/
def sequencerOnActuator (wasLive : Bool) (s : State) : State :=
  if s.act.state = .live then
    if (s.seq.state = .held ∨ s.seq.state = .ended) ∧ s.alarm.latch = .unload then enterUnloading s else s
  else if wasLive ∧ s.seq.state = .run then enterHeld s
  else s

/-! ### Actuator unit: state entries and the trip (chapter 5) -/

/-- The states that pass the drive (R67). -/
def passesDrive : ActState → Bool
  | .charging => true
  | .live => true
  | .locking => true
  | .unlockCharge => true
  | _ => false

/-- Set the state and the output lines of Table 5-4; the drive output is 0 at once in a state without drive (R67). -/
def setActuator (st : ActState) (iso dump lockCmd : Bool) (s : State) : State :=
  { s with
    act.state := st
    pins.iso := iso
    pins.dump := dump
    pins.lockCmd := lockCmd
    pins.drive := if passesDrive st then s.pins.drive else 0 }

/-- Entry into TRIPPED (R86); a command in progress at the unit ends REFUSED with the trip's reason. -/
def enterTripped (reason : Reason) (s : State) : State :=
  let s1 := setActuator .tripped false true false s
  let s2 := { s1 with
    act.purpose := none
    act.chargeTimer := none
    act.lockTimer := none
    act.deadline := none
    act.acquisition := none
    act.releasing := false
    act.lockCheck := none
    act.ownPlaced := s1.act.ownPlaced.map (fun _ => false)
    act.ownHeld := false }
  tripIdle (setEvent .trip (endActuatorCommand .refused reason s2))

/-- The actuator unit's response to a risen latch (R84). -/
def actuatorOnLatch (new : Latch) (s : State) : State :=
  if new = .dump ∧ s.act.state ≠ .locked ∧ s.act.state ≠ .tripped then enterTripped .action s else s

/-! ### Alarm unit: raises, the latch, causes (chapter 8) -/

/-- A raise (section 8.1). -/
structure Raise where
  source : Nat
  kind : AlarmKind
  channel : Nat
  action : Latch
  lam : Nat
  step : Nat
  tag : Tag
  deriving DecidableEq, Repr

/-- A raise made by a block of the own station, with the values of the moment (section 8.1). -/
def ownRaise (kind : AlarmKind) (channel : Nat) (action : Latch) (s : State) : Raise :=
  { source := ownStation s, kind := kind, channel := channel, action := action, lam := s.servo.lam
    step := s.seq.step, tag := s.cmd.timeTag }

/-- A record has the key of a raise (R132). -/
def sameKey (r : Raise) (a : AlarmRecord) : Bool :=
  decide (a.source = r.source ∧ a.kind = r.kind ∧ a.channel = r.channel)

/-- A record at its first-arrival values (Table 8-2). -/
def firstRecord (r : Raise) : AlarmRecord :=
  { source := r.source, kind := r.kind, channel := r.channel, action := r.action, count := 1, firstTag := r.tag
    lastTag := r.tag, lam := r.lam, step := r.step, acked := false }

/-- Merge a raise into its record (R133). -/
def mergeRecord (r : Raise) (a : AlarmRecord) : AlarmRecord :=
  { a with
    count := if a.count < 65535 then a.count + 1 else a.count
    lastTag := r.tag
    action := latchMax a.action r.action
    acked := false }

/-- The alarm list after a raise: merged, appended, appended after an eviction, or not stored (R133). -/
def storeRaise (r : Raise) (u : AlarmUnit) : AlarmUnit :=
  if u.records.any (sameKey r) then
    { u with records := u.records.map (fun a => if sameKey r a then mergeRecord r a else a) }
  else if u.records.length < Config.alarmListSize then
    { u with records := u.records ++ [firstRecord r] }
  else if u.records.any (fun a => a.acked) then
    { u with records := u.records.eraseP (fun a => a.acked) ++ [firstRecord r], overfull := false }
  else { u with overfull := true }

/-- Hand a risen latch to the actuator unit, the sequencer and the scanner, in that order (R135). -/
def handLatch (new : Latch) (s : State) : State :=
  scannerOnLatch new (sequencerOnLatch new (actuatorOnLatch new s))

/-- The ALARM telegram of a raise (R136). -/
def alarmTelegramOf (r : Raise) (s : State) : AlarmTelegram :=
  { kind := r.kind, channel := r.channel, action := r.action, lam := r.lam, step := r.step, fMeas := s.servo.fMeas
    timeTag := r.tag }

/-- An own raise of HOLD or above other than PEER_ACTION sends an ALARM telegram (R134, R136). -/
def sendsTelegram (r : Raise) (s : State) : Bool :=
  decide (r.source = ownStation s) && latchAtLeast r.action .hold && decide (r.kind ≠ .peerAction)

/-- Take a raise (R133, R134): the list, the latch, ALARM_RAISED, the ALARM telegram, the capture order, and last the
hand-on of a changed latch. -/
def raiseAlarm (r : Raise) (s : State) : State :=
  let new := latchMax s.alarm.latch r.action
  let s1 := { s with alarm := { storeRaise r s.alarm with latch := new } }
  let s2 := setEvent .alarmRaised s1
  let s3 := if sendsTelegram r s then placeAlarm (alarmTelegramOf r s) s2 else s2
  let s4 := if latchAtLeast r.action .hold then cutAndCapture r.kind s3 else s3
  if new = s.alarm.latch then s4 else handLatch new s4

/-- Raise an alarm of the own station with the values of the moment. -/
def raiseOwn (kind : AlarmKind) (channel : Nat) (action : Latch) (s : State) : State :=
  raiseAlarm (ownRaise kind channel action s) s

/-- A condition is reported present (R140). -/
def causeOn (c : Cause) (s : State) : State :=
  if c ∈ s.alarm.causes then s else { s with alarm.causes := s.alarm.causes ++ [c] }

/-- A condition is reported gone (R140). -/
def causeOff (c : Cause) (s : State) : State :=
  { s with alarm.causes := s.alarm.causes.filter (fun d => decide (d ≠ c)) }

/-- Raise the latch to at least an action by a console HOLD or UNLOAD, and hand on a change (R142). -/
def consoleLatch (action : Latch) (s : State) : State :=
  let new := latchMax s.alarm.latch action
  if new = s.alarm.latch then s else handLatch new { s with alarm.latch := new }

end Sys2Proof.Machine
end

