-- ==== Sys2Proof/Machine/Sequencer.lean ====
section
/-! DEFINITION. The level sequencer (chapter 3): the segment table and its digest, segment entry, the phases of a
segment, the step gate, the end of a run and the return from HELD. -/
namespace Sys2Proof.Machine

open Sys2Proof

/-! ### The segment table and the digest (sections 3.1 and 3.2) -/

/-- The entry of an index; EMPTY past the table. -/
def segmentAt (i : Nat) (q : Sequencer) : Option Segment :=
  q.table.getD i none

/-- The program length: the index of the lowest EMPTY entry, or 32 (R31). -/
def programLength (q : Sequencer) : Nat :=
  q.table.findIdx (fun e => e.isNone)

/-- The program is valid (R31). -/
def programValid (q : Sequencer) : Bool :=
  decide (1 ≤ programLength q) && (q.table.drop (programLength q)).all (fun e => e.isNone)

/-- The twelve bytes an entry gives the digest (R34). -/
def entryBytes : Option Segment → List Byte
  | none => List.replicate 12 255
  | some g =>
    leBytes 2 g.target ++ leBytes 2 g.rate ++ leBytes 2 g.hold ++ leBytes 1 (bit g.settle) ++ leBytes 2 g.extension ++
      leBytes 1 (g.loopTo.getD 255) ++ leBytes 2 g.loopCount

/-- The program digest of a table (R34). -/
def digestOf (table : List (Option Segment)) : Half :=
  crc16 (table.flatMap entryBytes)

/-- A PROGRAM request fails a check of R32. -/
def programOutOfRange (r : SegmentRequest) : Bool :=
  decide (31 < r.index) || decide (r.rate = 0) || decide (1 < r.settle) ||
    (decide (r.loopTo ≠ 255) && decide (r.index < r.loopTo)) || (decide (r.loopTo ≠ 255) && decide (r.loopCount = 0))

/-- The entry a request stores (R32). -/
def storedSegment (r : SegmentRequest) : Segment where
  target := min r.target 10000
  rate := min r.rate 2000
  hold := r.hold
  settle := decide (r.settle = 1)
  extension := r.extension
  loopTo := if r.loopTo = 255 then none else some r.loopTo
  loopCount := if r.loopTo = 255 then 0 else r.loopCount

/-- The table is replaced: the digest is recomputed and the peer table told (R32 to R34). -/
def replaceTable (table : List (Option Segment)) (s : State) : State :=
  setEvent .programEdited
    (updateDigestFlag { s with seq.table := table, seq.digest := digestOf table })

/-! ### Ends, entries and the gate (sections 3.4, 3.6 and 3.10) -/

/-- ENDED entry (R54). -/
def enterEnded (s : State) : State :=
  setSequencer { s.seq with state := .ended, phase := none, mismatch := none, choice := none } s

/-- The working copy of an entry (R37). -/
def workingCopyOf (g : Segment) : WorkingCopy where
  target := g.target
  rate := g.rate
  hold := g.hold
  settle := g.settle
  extension := g.extension

/-- Segment entry (R37); one that would pass the step limit enters ENDED instead (R44). -/
def enterSegment (i : Nat) (s : State) : State :=
  match segmentAt i s.seq with
  | none => s
  | some g =>
    if Config.stepLimit ≤ s.seq.step then enterEnded s
    else
      setSequencer
        { s.seq with
          state := .run
          segment := i
          work := some (workingCopyOf g)
          step := s.seq.step + 1
          hold := .paused (ms (100 * g.hold))
          extension := .stopped
          extensionUsed := false
          mismatch := none
          choice := none
          phase := some .ramp } s

/-- The mismatch timer after a digest answer (R43). -/
def watchMismatch (s : State) : State :=
  if digestAnswer s then { s with seq.mismatch := none }
  else if s.seq.mismatch.isSome then s
  else { s with seq.mismatch := some (s.age + ms (10 * s.line.statusPeriod)) }

/-- In RUN with phase DONE and a choice kept, ask the gate and digest questions (R42, R43). -/
def askGate (s : State) : State :=
  if s.seq.state = .run ∧ s.seq.phase = some .done then
    match s.seq.choice with
    | none => s
    | some c =>
      let s1 := watchMismatch s
      if gateAnswer s.seq.step s && digestAnswer s then enterSegment c s1 else s1
  else s

/-! ### DWELL and DONE (section 3.5) -/

/-- The pass counter and the next-segment choice made at DONE (R41). -/
def nextChoice (q : Sequencer) : Nat × Nat :=
  match segmentAt q.segment q with
  | some { loopTo := some target, loopCount := count, .. } =>
    if q.counters.getD q.segment 0 < count then (q.counters.getD q.segment 0 + 1, target) else (0, q.segment + 1)
  | _ => (0, q.segment + 1)

/-- The phase becomes DONE (R41). -/
def becomeDone (s : State) : State :=
  let s1 := dwellLeft
    (setSequencer { s.seq with phase := some .done, hold := .stopped, extension := .stopped } s)
  let (counter, choice) := nextChoice s1.seq
  let s2 := { s1 with seq.counters := setAt s1.seq.segment counter s1.seq.counters }
  if (segmentAt choice s2.seq).isNone then enterEnded s2
  else askGate { s2 with seq.choice := some choice }

/-- The extension timer expires (R40). -/
def extensionExpired (s : State) : State :=
  let s1 := raiseOwn .noSettle 0 s.cfg.noSettleAction { s with seq.extension := .stopped }
  if s.cfg.noSettleAction = .note then becomeDone s1 else s1

/-- Start the extension timer with a time; a time of 0 expires at once (R40). -/
def startExtension (left : Nat) (s : State) : State :=
  if left = 0 then extensionExpired s
  else { s with seq.extension := .running (s.age + left) }

/-- The working copy of the current segment requires settle (R39). -/
def settleRequired (s : State) : Bool :=
  match s.seq.work with
  | some w => w.settle
  | none => false

/-- The extension time of the working copy, in steps of the age clock (R40). -/
def extensionTime (s : State) : Nat :=
  match s.seq.work with
  | some w => ms (100 * w.extension)
  | none => 0

/-- The hold timer expires in DWELL: settle is judged (R39). -/
def judgeSettle (s : State) : State :=
  let s1 := { s with seq.hold := .stopped }
  if settleRequired s && !s.scan.settled then
    startExtension (extensionTime s) { s1 with seq.extensionUsed := true }
  else becomeDone s1

/-- Start the hold timer with a time; a time of 0 expires at once (R39). -/
def startHold (left : Nat) (s : State) : State :=
  if left = 0 then judgeSettle s
  else { s with seq.hold := .running (s.age + left) }

/-- The time a stopped hold timer has left. -/
def timeLeft : HoldTimer → Nat
  | .paused left => left
  | _ => 0

/-- λ has reached the working target in RAMP: DWELL begins (R38). -/
def startDwell (s : State) : State :=
  startHold (timeLeft s.seq.hold) (dwellEntered (setSequencer { s.seq with phase := some .dwell } s))

/-- SETTLED has been set by the scanner (R40). -/
def sequencerOnSettled (s : State) : State :=
  match s.seq.extension with
  | .running _ => if inDwell s then becomeDone s else s
  | _ => s

/-- UNLOADING has reached λ 0 (R48). -/
def unloadingEnds (s : State) : State :=
  setSequencer { s.seq with state := .idle, phase := none, step := 0, segment := 0, counters := List.replicate 32 0 } s

/-- The level has reached the working target of a RAMP (R38). -/
def rampEnds (s : State) : Bool :=
  decide (s.seq.state = .run ∧ s.seq.phase = some .ramp) &&
    (match s.seq.work with
      | some w => decide (s.servo.lam = w.target)
      | none => false)

/-- The servo reports λ after a tick (R38, R48, R72). -/
def sequencerOnLevel (s : State) : State :=
  if rampEnds s then startDwell s
  else if s.seq.state = .unloading ∧ s.servo.lam = 0 then unloadingEnds s
  else s

/-! ### RUN and RESUME (sections 3.4 and 3.8) -/

/-- The first condition of R36 that fails; `.none` when all six hold. -/
def judgeRun (s : State) : Reason :=
  if ¬(s.seq.state = .idle ∨ s.seq.state = .ended) then .state
  else if s.act.state ≠ .live then .actuator
  else if !programValid s.seq then .programInvalid
  else if s.peers.memberAbsent then .absentMember
  else if !digestAnswer s then .programMismatch
  else if s.alarm.latch ≠ .none then .action
  else .none

/-- An accepted RUN (R36). -/
def startRun (s : State) : State :=
  enterSegment 0
    { s with seq.counters := List.replicate 32 0, seq.step := 0, seq.choice := none }

/-- DWELL is re-entered from HELD (R51). -/
def resumeDwell (s : State) : State :=
  if s.seq.extensionUsed then
    match s.seq.extension with
    | .paused left => startExtension left (dwellEntered s)
    | _ => becomeDone s
  else startHold (timeLeft s.seq.hold) (dwellEntered s)

/-- A RESUME has been accepted: HELD with the actuator LIVE returns to RUN (R51). -/
def sequencerOnResume (s : State) : State :=
  if s.seq.state = .held ∧ s.act.state = .live then
    let s1 := setSequencer { s.seq with state := .run } s
    match s.seq.phase with
    | some .dwell => resumeDwell s1
    | some .done => askGate s1
    | _ => s1
  else s

end Sys2Proof.Machine
end

