-- ==== Sys2Proof/Machine/Actuator.lean ====
section
/-! DEFINITION. The actuator unit (chapter 5): its state entries, the charge list and the pump window, the operations
CHARGE, LOCK and UNLOCK, lock checks, and the judgement of its queued commands. -/
namespace Sys2Proof.Machine

open Sys2Proof

/-- Enter a state other than TRIPPED: lines, drive, and the notice to the sequencer (R50, R74). -/
def enterState (st : ActState) (iso dump lockCmd : Bool) (s : State) : State :=
  sequencerOnActuator (decide (s.act.state = .live)) (setActuator st iso dump lockCmd s)

/-! ### The charge list and the pump window (section 5.6) -/

/-- Consult the charge list: entries that have reached W_pump are removed (R88). -/
def consultList (s : State) : State :=
  { s with act.chargeList := s.act.chargeList.filter (fun e => decide (s.age - e.age < ms s.cfg.wPump)) }

/-- Append an entry at its completion; with 8 held the oldest is removed first (R88). -/
def appendCharge (station : Nat) (s : State) : State :=
  let kept := if Config.chargeListSize ≤ s.act.chargeList.length then s.act.chargeList.drop 1 else s.act.chargeList
  { s with act.chargeList := kept ++ [{ station := station, age := s.age }] }

/-- The moment the window timer expires: the oldest entry reaches W_pump (R88). -/
def windowDue (s : State) : Option Nat :=
  s.act.chargeList.head?.map (fun e => e.age + ms s.cfg.wPump)

/-- Place the own CHARGE telegram of the current wait, or hold it while the slot is occupied (R89). -/
def placeCharge (s : State) : State :=
  match s.act.purpose with
  | none => s
  | some p =>
    match s.line.chargeSlot with
    | none => { s with line.chargeSlot := some p, act.ownPlaced := some true }
    | some _ => { s with act.ownHeld := true }

/-- The own CHARGE telegram of the current wait is placed or held. -/
def ownCharge (s : State) : Bool :=
  decide (s.act.ownPlaced = some true) || s.act.ownHeld

/-- A WAIT_WINDOW station without a telegram for its wait consults and places (R89). -/
def judgeWait (s : State) : State :=
  let s1 := consultList s
  if s1.act.state = .waitWindow ∧ ownCharge s1 = false ∧ s1.act.chargeList.length < Config.chargeLimit then
    placeCharge s1
  else s1

/-- The CHARGE slot has emptied: a held telegram is consulted for afresh (R89). -/
def chargeSlotEmptied (s : State) : State :=
  if s.act.state = .waitWindow then judgeWait { s with act.ownHeld := false } else s

/-- Enter WAIT_WINDOW with a purpose; the lines stay (R74, R76, R81). -/
def enterWait (p : ChargePurpose) (s : State) : State :=
  judgeWait
    (enterState .waitWindow s.pins.iso s.pins.dump s.pins.lockCmd { s with act.purpose := some p })

/-! ### Lock checks (section 5.7) -/

/-- Every AE input is NORMAL (R93). -/
def aeQuiet (s : State) : Bool :=
  s.crack.inputs.all (fun i => decide (i.band = .normal))

/-- The lock-check interval in force, in steps of the age clock (R93). -/
def lockInterval (s : State) : Nat :=
  ms ((if aeQuiet s then 1000 else 500) * s.cfg.lockInterval)

/-- Load the lock-check timer (R93). -/
def loadLockCheck (s : State) : State :=
  { s with act.lockCheck := some (s.age + lockInterval s) }

/-- Make a lock check (R92); without F_lockref none is made (R94). -/
def makeLockCheck (s : State) : State :=
  match s.act.lockRef with
  | none => s
  | some ref =>
    if (s.servo.fMeas - ref).natAbs > s.cfg.lockBand then raiseOwn .lockDrift 0 s.cfg.driftAction s else s

/-! ### State entries (sections 5.3 and 5.4) -/

/-- Entry into LIVE, which ends the command DONE; from UNLOCK_CHARGE the servo starts its reacquire time (R68, R82). -/
def enterLive (kind : QueuedKind) (s : State) : State :=
  let fromUnlock := decide (s.act.state = .unlockCharge)
  let s1 := { s with
    act.chargeTimer := none
    act.deadline := none
    act.acquisition := none
    act.releasing := false
    servo.reacquire := if fromUnlock then some (s.age + ms s.cfg.tAcq) else s.servo.reacquire }
  endCommandOf kind .done .none (enterState .live true false false s1)

/-- Entry into CHARGING (R77). -/
def enterCharging (s : State) : State :=
  let s1 := enterState .charging true false false { s with act.purpose := none }
  if s1.pins.pressOk then enterLive .charge s1
  else { s1 with act.chargeTimer := some (s1.age + ms s1.cfg.tChg) }

/-- Entry into UNLOCK_CHARGE (R68, R82, R83). -/
def enterUnlockCharge (s : State) : State :=
  let s1 := { s with
    act.purpose := none
    act.lockCheck := none
    act.releasing := false
    act.deadline := some (s.age + ms (s.cfg.tChg + s.cfg.tAcq + s.cfg.tLock))
    servo.integral := 0 }
  enterState .unlockCharge true false true s1

/-- Entry into LOCKED (R80). -/
def enterLocked (s : State) : State :=
  loadLockCheck (enterState .locked false false true s)

/-- LOCKING ends with the nut seated: F_lockref is taken and the LOCK command ends DONE (R79, R80). -/
def lockSeats (s : State) : State :=
  endCommandOf .lock .done .none
    (enterLocked { s with act.lockTimer := none, act.lockRef := some s.servo.fMeas, act.lockRefDue := false })

/-- Entry into LOCKING (R79). -/
def enterLocking (s : State) : State :=
  let s1 := enterState .locking true false true s
  if s1.pins.lockEngaged then lockSeats s1
  else { s1 with act.lockTimer := some (s1.age + ms s1.cfg.tLock) }

/-- Entry into VENTED (R77, R78, R87). -/
def enterVented (s : State) : State :=
  enterState .vented false true false s

/-- The charge timer expires (R77). -/
def chargeFails (s : State) : State :=
  endCommandOf .charge .refused .actuator
    (enterVented (raiseOwn .chargeFail 0 .hold { s with act.chargeTimer := none }))

/-- The lock timer expires (R79). -/
def lockFails (s : State) : State :=
  endCommandOf .lock .refused .actuator
    (enterState .live true false false
      (raiseOwn .lockFail 0 .hold { s with act.lockTimer := none, pins.lockCmd := false }))

/-- The unlock deadline expires (R83): the unlock fails, and the integral is 0 through LOCKED (R68). -/
def unlockFails (s : State) : State :=
  endCommandOf .unlock .refused .actuator
    (enterLocked
      (raiseOwn .unlockFail 0 .hold
        { s with
          act.deadline := none
          act.acquisition := none
          act.releasing := false
          servo.integral := 0
          pins.iso := false
          pins.lockCmd := true }))

/-! ### The acquisition test (R82) -/

/-- UNLOCK_CHARGE with the sub-phase acquiring. -/
def acquiring (s : State) : Bool :=
  decide (s.act.state = .unlockCharge) && !s.act.releasing

/-- The acquisition test holds: PRESS_OK and |e| at or below B_track. -/
def acquisitionHolds (s : State) : Bool :=
  s.pins.pressOk && decide (s.servo.error.natAbs ≤ s.cfg.bTrack)

/-- The acquisition test after a servo tick. -/
def acquisitionTest (s : State) : State :=
  if acquiring s then
    if acquisitionHolds s then
      if s.act.acquisition.isSome then s else { s with act.acquisition := some (s.age + ms s.cfg.tAcq) }
    else { s with act.acquisition := none }
  else s

/-- The acquisition timer expires: the release begins. -/
def beginRelease (s : State) : State :=
  let s1 := { s with act.acquisition := none, act.releasing := true, pins.lockCmd := false }
  if s1.pins.lockEngaged then s1 else enterLive .unlock s1

/-! ### Judgements of the queued commands (Table 5-5) -/

/-- CHARGE (R76). -/
def judgeCharge (s : State) : State :=
  if s.act.state = .tripped then endCommand .refused .tripped s
  else if s.act.state ≠ .vented then endCommand .refused .state s
  else if s.alarm.latch = .dump then endCommand .refused .action s
  else enterWait .charge s

/-- VENT (R78). -/
def judgeVent (s : State) : State :=
  if s.act.state = .tripped then endCommand .refused .tripped s
  else if s.act.state ≠ .live then endCommand .refused .state s
  else if s.servo.lam ≠ 0 ∨ ¬(s.seq.state = .idle ∨ s.seq.state = .ended) then endCommand .refused .state s
  else endCommand .done .none (enterVented s)

/-- LOCK (R79). -/
def judgeLock (s : State) : State :=
  if s.act.state = .tripped then endCommand .refused .tripped s
  else if s.act.state ≠ .live then endCommand .refused .state s
  else if (s.seq.state = .run ∧ s.seq.phase = some .ramp) ∨ s.seq.state = .unloading then
    endCommand .refused .state s
  else enterLocking s

/-- UNLOCK (R81). -/
def judgeUnlock (s : State) : State :=
  if s.act.state = .tripped then endCommand .refused .tripped s
  else if s.act.state ≠ .locked then endCommand .refused .state s
  else if s.pins.estop then endCommand .refused .estop s
  else if s.alarm.latch = .dump then endCommand .refused .action s
  else enterWait .unlock s

/-- CLEARTRIP (R87). -/
def judgeCleartrip (s : State) : State :=
  if s.act.state ≠ .tripped then endCommand .refused .state s
  else if s.pins.estop then endCommand .refused .estop s
  else endCommand .done .none (enterVented s)

/-! ### Inputs and telegrams -/

/-- The own CHARGE telegram of the current wait has completed: the decision of the pump window (R90). -/
def decideWindow (s : State) : State :=
  let s1 := consultList s
  let prior := s1.act.chargeList.length
  let s2 := appendCharge (ownStation s1) s1
  if prior < Config.chargeLimit then
    match s2.act.purpose with
    | some .charge => enterCharging s2
    | some .unlock => enterUnlockCharge s2
    | none => s2
  else s2

/-- The own CHARGE telegram has completed and left the slot (R6, R88 to R91). -/
def ownChargeCompleted (s : State) : State :=
  let current := decide (s.act.ownPlaced = some true ∧ s.act.state = .waitWindow)
  let s1 := { s with act.ownPlaced := none }
  chargeSlotEmptied (if current then decideWindow s1 else appendCharge (ownStation s1) s1)

/-- The window timer expires (R88, R89). -/
def windowExpires (s : State) : State :=
  judgeWait s

/-- PRESS_OK has changed (R75, R77, R82). -/
def pressOkChanged (s : State) : State :=
  if s.act.state = .charging ∧ s.pins.pressOk then enterLive .charge s
  else if acquiring s ∧ s.pins.pressOk = false then { s with act.acquisition := none }
  else s

/-- LOCK_ENGAGED has changed (R75, R79, R80, R82). -/
def lockEngagedChanged (s : State) : State :=
  if s.act.state = .locking ∧ s.pins.lockEngaged then lockSeats s
  else if s.act.state = .locked ∧ s.pins.lockEngaged = false ∧ s.act.lockRefDue = false then
    loadLockCheck (makeLockCheck s)
  else if s.act.state = .unlockCharge ∧ s.act.releasing ∧ s.pins.lockEngaged = false then enterLive .unlock s
  else s

/-- The lock-check timer expires: it is reloaded and the check made (R92, R93). -/
def lockCheckExpires (s : State) : State :=
  makeLockCheck (loadLockCheck s)

/-- Take the first F_lockref of a LOCKED start at the servo's first tick (R94). -/
def firstLockRef (s : State) : State :=
  if s.act.lockRefDue then
    let s1 := { s with act.lockRef := some s.servo.fMeas, act.lockRefDue := false }
    if s1.act.state = .locked ∨ (s1.act.state = .waitWindow ∧ s1.act.purpose = some .unlock) then loadLockCheck s1
    else s1
  else s

/-- ESTOP has become active (R85, R94): the trip first, then, once settings are distributed, the raise and the cause (`raiseEstop`). -/
def tripOnEstop (s : State) : State :=
  if s.act.state = .locked ∨ s.act.state = .tripped then s else enterTripped .estop s

/-- The ESTOP raise and its cause (R85, R94). -/
def raiseEstop (s : State) : State :=
  causeOn .estop (raiseOwn .estop 0 .dump s)

end Sys2Proof.Machine
end

