-- ==== Sys2Proof/Machine/Command.lean ====
section
/-! DEFINITION. Taking a console command telegram (section 10.1): who may send it, room for its REPLY, its form, and the
answer placed in its event. -/
namespace Sys2Proof.Machine

open Sys2Proof

/-- The telegram comes from a console and is addressed to the own station or to all (R5). -/
def addressedHere (head : CommandHead) (s : State) : Bool :=
  isConsole head.sender && (decide (head.dest = 0) || decide (head.dest = ownStation s))

/-- The REPLY queue has an entry free and no reply is held (R13). -/
def replyRoom (s : State) : Bool :=
  decide (s.line.replyQ.length < Config.replyQueueSize) && s.line.heldReplies.isEmpty

/-- The answer of an immediate command, placed in its event (R163, R166). -/
def answer (head : CommandHead) (code : Nat) (result : ReplyResult) (reason : Reason) (data : List Byte) (s : State) :
    State :=
  placeReply { dest := head.sender, kindCode := code, result := result, reason := reason, data := data } s

/-- The answer DONE without data. -/
def answerDone (head : CommandHead) (code : Nat) (s : State) : State :=
  answer head code .done .none [] s

/-- The answer REFUSED with a reason. -/
def answerRefused (head : CommandHead) (code : Nat) (reason : Reason) (s : State) : State :=
  answer head code .refused reason [] s

/-- The form of the telegram is judged, and a telegram of good form is handed to its owner (R163). -/
def judgeForm (head : CommandHead) (code : Nat) (owner : State → State) (s : State) : State :=
  match commandLength code with
  | none => answerRefused head code .state s
  | some len => if head.len = len then owner s else answerRefused head code .range s

/-- Take a command telegram (R5, R13, R163); a station in CONFIG_FAULT answers it REFUSED STATE (R15, R173). -/
def takeCommand (head : CommandHead) (code : Nat) (owner : State → State) (s : State) : State :=
  if addressedHere head s && replyRoom s then
    match s.loader.phase with
    | .running => judgeForm head code owner s
    | .configFault => if isFrameStation (ownStation s) then answerRefused head code .state s else s
    | _ => s
  else s

/-- Apply an event only while the station runs under distributed settings (R15, R146, R172). -/
def whenRunning (f : State → State) (s : State) : State :=
  if isRunning s then f s else s

end Sys2Proof.Machine
end

