-- ==== Sys2Proof/Machine/Crack.lean ====
section
/-! DEFINITION. The crack monitor (chapter 7): loop readings and their debounce, breaks and loop faults, the crack
table, and the acoustic-emission inputs. -/
namespace Sys2Proof.Machine

open Sys2Proof

/-! ### Loops (sections 7.1 to 7.3) -/

/-- The settings of a loop. -/
def loopCfg (l : Nat) (s : State) : LoopCfg :=
  s.cfg.loops.getD l default

/-- The record of a loop; a DISABLED one past the last. -/
def loopAt (l : Nat) (s : State) : LoopRecord :=
  s.crack.loops.getD l default

/-- Change the record of a loop. -/
def updateLoop (f : LoopRecord → LoopRecord) (l : Nat) (s : State) : State :=
  { s with crack.loops := modifyAt f l s.crack.loops }

/-- Set the state of a loop. -/
def setLoopState (st : LoopState) (l : Nat) (s : State) : State :=
  updateLoop (fun r => { r with state := st }) l s

/-- The conditions at the moment of a break (R123). -/
def breakConditions (s : State) : CrackEntry where
  timeTag := s.cmd.timeTag
  step := s.seq.step
  segment := s.seq.segment
  lam := s.servo.lam
  fMeas := s.servo.fMeas

/-- Fill the loop's crack table entry, at the first break and at no later one (R123). -/
def fillEntry (l : Nat) (s : State) : State :=
  if (s.crack.entries.getD l none).isSome then s
  else { s with crack.entries := setAt l (some (breakConditions s)) s.crack.entries }

/-- An INTACT loop takes OPEN (R121). -/
def loopBreaks (l : Nat) (s : State) : State :=
  causeOn (.loop l)
    (raiseOwn .crackWire l (loopCfg l s).action (setEvent .crackBreak (setLoopState .broken l (fillEntry l s))))

/-- A loop enters FAULT and LOOP_FAULT is raised (R122). -/
def loopFaults (l : Nat) (s : State) : State :=
  raiseOwn .loopFault l .note (setLoopState .fault l s)

/-- Act on a taken reading by the loop's state (R121, R122). -/
def actOnReading (l : Nat) (reading : LoopReading) (s : State) : State :=
  match (loopAt l s).state, reading with
  | .intact, .opened => loopBreaks l s
  | .intact, .shorted => loopFaults l s
  | .broken, .intact => causeOff (.loop l) (loopFaults l s)
  | .accepted, .intact => loopFaults l s
  | _, _ => s

/-- A debounce candidate becomes the taken reading and is acted on (R119). -/
def takeReading (l : Nat) (reading : LoopReading) (s : State) : State :=
  actOnReading l reading (updateLoop (fun r => { r with taken := some reading, candidate := none }) l s)

/-- The scan count n of a loop's debounce (R119). -/
def debounceScans (l : Nat) (s : State) : Nat :=
  ceilDiv (loopCfg l s).debounce 10

/-- The candidate after a sensed reading different from the taken one (R119). -/
def nextCandidate (reading : LoopReading) : Option (LoopReading × Nat) → LoopReading × Nat
  | some (r, n) => if r = reading then (reading, n + 1) else (reading, 1)
  | none => (reading, 1)

/-- Pass a sensed reading through the loop's debounce (R119). -/
def senseLoop (l : Nat) (reading : LoopReading) (s : State) : State :=
  let r := loopAt l s
  if r.state = .disabled then s
  else if r.taken = some reading then updateLoop (fun r => { r with candidate := none }) l s
  else
    let c := nextCandidate reading r.candidate
    if debounceScans l s ≤ c.2 then takeReading l reading s
    else updateLoop (fun r => { r with candidate := some c }) l s

/-- Sense loops in ascending order from loop `l` on (R118, step 1). -/
def senseLoops : Nat → List LoopReading → State → State
  | _, [], s => s
  | l, reading :: rest, s => senseLoops (l + 1) rest (senseLoop l reading s)

/-- The reading of an enabled loop at start (R120). -/
def startReadLoop (l : Nat) (reading : LoopReading) (s : State) : State :=
  if (loopCfg l s).enable then
    let s1 := updateLoop (fun r => { r with taken := some reading, candidate := none }) l s
    if reading = .intact then setLoopState .intact l s1 else loopFaults l s1
  else s

/-- Read loops at start in ascending order from loop `l` on (R120). -/
def startReadLoops : Nat → List LoopReading → State → State
  | _, [], s => s
  | l, reading :: rest, s => startReadLoops (l + 1) rest (startReadLoop l reading s)

/-- Kind code of ACCEPT (Table 1-6). -/
def acceptCode : Nat := 0x47

/-- ACCEPT (R124). -/
def acceptRequest (head : CommandHead) (l : Nat) (s : State) : State :=
  if 7 < l then answerRefused head acceptCode .range s
  else if (loopAt l s).state = .broken then
    causeOff (.loop l) (setLoopState .accepted l (answerDone head acceptCode s))
  else answerRefused head acceptCode .state s

/-- Kind code of QUERY (Table 1-6). -/
def queryCode : Nat := 0x4C

/-- The five fields of a crack table entry (Table 1-9). -/
def entryFieldBytes : Option CrackEntry → List Byte
  | none => leBytes 15 0
  | some e => leBytes 4 e.timeTag.toNat ++ leBytes 4 e.step ++ leBytes 1 e.segment ++ leBytes 2 e.lam ++ leSigned 4 e.fMeas

/-- The data of QUERY CRACK (R125, Table 1-9). -/
def crackData (l : Nat) (s : State) : List Byte :=
  leBytes 1 (loopStateCode (loopAt l s).state) ++ leBytes 1 (bit (s.crack.entries.getD l none).isSome) ++
    entryFieldBytes (s.crack.entries.getD l none)

/-- QUERY CRACK (R125). -/
def queryCrackRequest (head : CommandHead) (l : Nat) (s : State) : State :=
  if 7 < l then answerRefused head queryCode .range s
  else answer head queryCode .done .none (crackData l s) s

/-! ### Acoustic emission (section 7.4) -/

/-- The settings of an AE input. -/
def aeCfg (i : Nat) (s : State) : AeCfg :=
  s.cfg.aeInputs.getD i default

/-- The AE input of a number; a silent one past the last. -/
def aeAt (i : Nat) (s : State) : AeInput :=
  s.crack.inputs.getD i default

/-- Change an AE input. -/
def updateAe (f : AeInput → AeInput) (i : Nat) (s : State) : State :=
  { s with crack.inputs := modifyAt f i s.crack.inputs }

/-- The entries still in window (R127). -/
def agedHits (i : Nat) (s : State) : List Nat :=
  (aeAt i s).hits.filter (fun h => decide (s.age - h < ms (aeCfg i s).window))

/-- The band of a number of hits (R128). -/
def bandOf (n : Nat) (cfg : AeCfg) : AeBand :=
  if n < cfg.nElev then .normal else if n < cfg.nBurst then .elevated else .burst

/-- What a change of band brings about (R128); a jump from NORMAL to BURST, which no run makes, enters BURST. -/
def bandChanged (i : Nat) (old new : AeBand) (s : State) : State :=
  match old, new with
  | .normal, .elevated => setEvent .aeElevated s
  | .elevated, .burst => causeOn (.ae i) (raiseOwn .aeBurst i (aeCfg i s).action (setEvent .aeBurst s))
  | .normal, .burst => causeOn (.ae i) (raiseOwn .aeBurst i (aeCfg i s).action (setEvent .aeBurst s))
  | .burst, .normal => causeOff (.ae i) s
  | .burst, .elevated => causeOff (.ae i) s
  | _, _ => s

/-- Judge the band of an input after a change of its list (R128). -/
def judgeBand (i : Nat) (s : State) : State :=
  let old := (aeAt i s).band
  let new := bandOf (aeAt i s).hits.length (aeCfg i s)
  if old = new then s else bandChanged i old new (updateAe (fun a => { a with band := new }) i s)

/-- Age the hit list of an input; a removal judges the band (R127, R128). -/
def ageInput (i : Nat) (s : State) : State :=
  let kept := agedHits i s
  if kept.length = (aeAt i s).hits.length then s
  else judgeBand i (updateAe (fun a => { a with hits := kept }) i s)

/-- The dead-time timer of an input runs; it runs to the moment it expires, that moment included (R126; log entry 27). -/
def inDeadTime (i : Nat) (s : State) : Bool :=
  match (aeAt i s).dead with
  | some due => decide (s.age ≤ due)
  | none => false

/-- An accepted hit (R126 to R129). -/
def acceptHit (i : Nat) (s : State) : State :=
  let kept := agedHits i s
  let room := if Config.hitListSize ≤ kept.length then kept.drop 1 else kept
  judgeBand i
    (updateAe
      (fun a => { a with
        hits := room ++ [s.age]
        dead := some (s.age + (aeCfg i s).deadTime)
        count := if a.count < 255 then a.count + 1 else a.count }) i s)

/-- A pulse on an AE input, accepted or merged (R126); there is no input past the last. -/
def takePulse (i : Nat) (s : State) : State :=
  if inDeadTime i s ∨ s.crack.inputs.length ≤ i then s else acceptHit i s

/-- One loop scan (R118): loops in order, then inputs in order. -/
def loopScanEvent (readings : List LoopReading) (s : State) : State :=
  let s1 := senseLoops 0 (readings.take 8) { s with pins.loopReadings := readings.take 8 }
  ageInput 3 (ageInput 2 (ageInput 1 (ageInput 0 s1)))

end Sys2Proof.Machine
end

