-- ==== Sys2Proof/Machine/Record.lean ====
section
/-! DEFINITION. The record memory (chapter 9): samples and blocks, openings and drops, the end of a capture, fetching,
sending and freeing. Sealing, sending and the capture order stand in Ops. -/
namespace Sys2Proof.Machine

open Sys2Proof

/-! ### Layout (sections 9.2 and 9.7) -/

/-- An enabled channel: OK or FAULTY (R95). -/
def channelEnabled (ch : Channel) : Bool :=
  decide (ch.state ≠ .disabled)

/-- The number of enabled strain channels (section 9.2). -/
def enabledCount (s : State) : Nat :=
  s.scan.channels.countP channelEnabled

/-- A mask with bit c set for each element c that satisfies the test. -/
def maskOf (test : Channel → Bool) : List Channel → Nat
  | [] => 0
  | ch :: r => bit (test ch) + 2 * maskOf test r

/-- The size of a sample in bytes (R148). -/
def sampleSize (s : State) : Nat :=
  12 + 2 * enabledCount s

/-- The samples a block holds (R148). -/
def samplesPerBlock (s : State) : Nat :=
  (s.cfg.blockPages * Config.pageBytes - 32) / sampleSize s

/-- The strain value of a sample: whole microstrain, −32768 for an OVER average (R148). -/
def sampleStrain (ch : Channel) : Int :=
  if ch.latestOver then -32768 else roundDiv ch.latest 10

/-- The bytes of a sample (Table 9-6). -/
def sampleBytes (offset : Nat) (counts : List Nat) (s : State) : List Byte :=
  leBytes 2 offset ++ leBytes 2 s.servo.lam ++ leSigned 4 s.servo.fMeas ++
    (List.range 4).flatMap (fun i => leBytes 1 (counts.getD i 0)) ++
    (s.scan.channels.filter channelEnabled).flatMap (fun ch => leSigned 2 (sampleStrain ch))

/-- The 32 header bytes as an opening leaves them (Table 9-5); the fields of the seal are 0. -/
def headerBytes (block : Nat) (s : State) : List Byte :=
  leBytes 1 (ownStation s) ++ leBytes 1 block ++ leBytes 4 s.recs.serial.toNat ++ leBytes 4 s.cmd.timeTag.toNat ++
    leBytes 4 s.seq.step ++ leBytes 1 s.seq.segment ++ leBytes 1 (seqCode s.seq.state) ++
    leBytes 1 (phaseCode (reportedPhase s.seq)) ++ leBytes 1 0 ++
    leBytes 1 (headerFlags (decide (0 < s.recs.gap)) s.recs.capture s.recs.pressure) ++ leBytes 1 0 ++
    leBytes 1 (match s.recs.captureKind with | some k => kindCode k | none => 0) ++ leBytes 1 0 ++
    leBytes 2 s.recs.gap ++ leBytes 2 (maskOf channelEnabled s.scan.channels) ++ leBytes 1 (sampleSize s) ++
    leBytes 1 s.cfg.blockPages ++ leBytes 4 0

/-! ### Openings and samples (sections 9.1 and 9.2) -/

/-- The lowest-numbered FREE entry. -/
def freeBlock (s : State) : Option Nat :=
  s.recs.table.findIdx? (fun e => decide (e.state = .free))

/-- The pages that entries hold. -/
def heldPages (s : State) : List Nat :=
  s.recs.table.flatMap (fun e => e.pages)

/-- The lowest-numbered free pages, in ascending order, as many as a block takes (R147). -/
def pagesToTake (s : State) : List Nat :=
  ((List.range Config.poolPages).filter (fun p => !(heldPages s).contains p)).take s.cfg.blockPages

/-- The free pages an opening requires (R149). -/
def requiredPages (s : State) : Nat :=
  if s.recs.capture then s.cfg.blockPages else 2 * s.cfg.blockPages

/-- The opening of the FREE entry `n` (R149). -/
def openBlock (n : Nat) (s : State) : State :=
  let pages := pagesToTake s
  let s1 := judgePressure
    { s with
      recs.pool := pages.foldl poolClearPage s.recs.pool
      recs.freePages := s.recs.freePages - s.cfg.blockPages
      recs.serial := s.recs.serial + 1
      recs.table := setAt n
        { state := .filling, pages := pages, samples := 0, firstAge := s.age, lastOffset := 0 } s.recs.table }
  { s1 with recs.pool := blockWrite pages 0 (headerBytes n s1) s1.recs.pool, recs.gap := 0 }

/-- A sample is dropped (R150). -/
def dropSample (s : State) : State :=
  setEvent .gap { s with recs.gap := if s.recs.gap < 65535 then s.recs.gap + 1 else s.recs.gap }

/-- Write a sample into the FILLING block `n`; a full block is sealed (R148). -/
def writeSample (counts : List Nat) (n : Nat) (s : State) : State :=
  let e := blockAt n s
  let offset := wholeMs (s.age - e.firstAge)
  let s1 := { s with
    recs.pool := blockWrite e.pages (32 + e.samples * sampleSize s) (sampleBytes offset counts s) s.recs.pool
    recs.table := modifyAt (fun e => { e with samples := e.samples + 1, lastOffset := offset }) n s.recs.table }
  if samplesPerBlock s ≤ e.samples + 1 then sealBlock .full none s1 else s1

/-- Seal a FILLING block whose first sample lies more than 65535 ms back (R148). -/
def sealIfOld (s : State) : State :=
  match fillingBlock s with
  | some n => if ms 65535 < s.age - (blockAt n s).firstAge then sealBlock .time none s else s
  | none => s

/-- Store a sample: in the FILLING block, in one opened for it, or dropped (R148 to R150). -/
def storeSample (counts : List Nat) (s : State) : State :=
  match fillingBlock s with
  | some n => writeSample counts n s
  | none =>
    match freeBlock s with
    | some n => if requiredPages s ≤ s.recs.freePages then writeSample counts n (openBlock n s) else dropSample s
    | none => dropSample s

/-- Take a set of averages (R129, R148). -/
def takeAverages (s : State) : State :=
  let counts := s.crack.inputs.map (fun i => i.count)
  storeSample counts
    (sealIfOld { s with crack.inputs := s.crack.inputs.map (fun i => { i with count := 0 }) })

/-! ### The capture (section 9.5) -/

/-- The capture ends (R156). -/
def captureEnds (s : State) : State :=
  { s with recs.capture := false, recs.scansLeft := 0, recs.captureKind := none }

/-- A completed scan counts against the capture (R156). -/
def scanCompleted (s : State) : State :=
  if s.recs.capture then
    if s.recs.scansLeft ≤ 1 then captureEnds s else { s with recs.scansLeft := s.recs.scansLeft - 1 }
  else s

/-! ### Fetching, sending and freeing (section 9.6) -/

/-- Kind code of FETCH (Table 1-6). -/
def fetchCode : Nat := 0x48

/-- The answer EMPTY to a request that expires (R158). -/
def answerEmpty (console : Nat) (s : State) : State :=
  placeLateReply { dest := console, kindCode := fetchCode, result := .empty, reason := .none, data := [] } s

/-- Answer EMPTY to each of some requests, in order. -/
def answerAllEmpty : List FetchRequest → State → State
  | [], s => s
  | r :: rest, s => answerAllEmpty rest (answerEmpty r.console s)

/-- A request that joined during the sending that ends has reached its expiry (R158). -/
def expiredBySending (age : Nat) (r : FetchRequest) : Bool :=
  r.joinedSending && decide (r.expiry ≤ age)

/-- The requests left after a sending: those that reached their expiry during it are answered EMPTY (R158). -/
def expireAfterSending (s : State) : State :=
  answerAllEmpty (s.recs.fetchQ.filter (expiredBySending s.age))
    { s with recs.fetchQ :=
        (s.recs.fetchQ.filter (fun r => !expiredBySending s.age r)).map (fun r => { r with joinedSending := false }) }

/-- The last part has completed: the block is SENT, the fetch queue is served and expired (R158, R159). -/
def sendingEnds (block : Nat) (s : State) : State :=
  expireAfterSending
    (serveFetch
      { s with
        recs.table := modifyAt (fun e => { e with state := .sent }) block s.recs.table
        recs.sending := none })

/-- An own DATA part has completed and left the queue (R159). -/
def dataCompleted (p : DataPart) (s : State) : State :=
  match s.recs.sending with
  | none => s
  | some d => if 4 * s.cfg.blockPages ≤ p.part + 1 then sendingEnds d.block s else placeParts s

/-- The request is not expired while the sending it joined during lasts (R158). -/
def withheld (s : State) (r : FetchRequest) : Bool :=
  r.joinedSending && s.recs.sending.isSome

/-- The request that expires first among those not withheld (R158; log entry 19). -/
def nextExpiry (s : State) : Option FetchRequest :=
  (s.recs.fetchQ.filter (fun r => !withheld s r)).foldl
    (fun best r => match best with
      | none => some r
      | some b => if r.expiry < b.expiry then some r else some b) none

/-- A waiting request expires (R158). -/
def expireRequest (r : FetchRequest) (s : State) : State :=
  answerEmpty r.console { s with recs.fetchQ := s.recs.fetchQ.erase r }

/-- FETCH by block number (R157, orders 2 to 5). -/
def fetchBlock (head : CommandHead) (n : Nat) (s : State) : State :=
  match (blockAt n s).state with
  | .free => answerRefused head fetchCode .notFound s
  | .filling => answerRefused head fetchCode .state s
  | _ =>
    if s.recs.sending.isSome then answerRefused head fetchCode .busy s
    else startSending n head.sender (answerDone head fetchCode s)

/-- The request joins the fetch queue (R158). -/
def joinFetchQueue (console wait : Nat) (s : State) : State :=
  { s with recs.fetchQ := s.recs.fetchQ ++
      [{ console := console, expiry := s.age + ms wait, joinedSending := s.recs.sending.isSome }] }

/-- FETCH OLDEST (R157, orders 6 to 10). -/
def fetchOldest (head : CommandHead) (wait : Nat) (s : State) : State :=
  match s.recs.sending, s.recs.sealedQ with
  | none, n :: _ => startSending n head.sender (answerDone head fetchCode s)
  | sending, _ =>
    if Config.fetchQueueSize ≤ s.recs.fetchQ.length then answerRefused head fetchCode .busy s
    else if sending.isSome ∨ 0 < wait then joinFetchQueue head.sender wait s
    else answer head fetchCode .empty .none [] s

/-- FETCH (R157). -/
def fetchRequest (head : CommandHead) (which wait : Nat) (s : State) : State :=
  if (63 < which ∧ which ≠ 255) ∨ 60000 < wait then answerRefused head fetchCode .range s
  else if which = 255 then fetchOldest head wait s
  else fetchBlock head which s

/-- Kind code of FREE (Table 1-6). -/
def freeCode : Nat := 0x49

/-- Give a SEALED or SENT block's pages back (R160). -/
def freePagesOf (n : Nat) (s : State) : State :=
  judgePressure
    { s with
      recs.sealedQ := s.recs.sealedQ.filter (fun m => m != n)
      recs.freePages := s.recs.freePages + s.cfg.blockPages
      recs.table := setAt n BlockEntry.freeEntry s.recs.table }

/-- FREE (R160). -/
def freeRequest (head : CommandHead) (n : Nat) (s : State) : State :=
  if 63 < n then answerRefused head freeCode .range s
  else
    match (blockAt n s).state with
    | .free => answerRefused head freeCode .notFound s
    | .filling => answerRefused head freeCode .state s
    | .sending => answerRefused head freeCode .state s
    | _ => freePagesOf n (answerDone head freeCode s)

/-- Kind code of CUT (Table 1-6). -/
def cutCode : Nat := 0x4A

/-- CUT (R161). -/
def cutRequest (head : CommandHead) (s : State) : State :=
  if (fillingBlock s).isSome then sealBlock .cut none (answerDone head cutCode s)
  else answerRefused head cutCode .state s

end Sys2Proof.Machine
end

