-- ==== Sys2Proof/Machine/Scanner.lean ====
section
/-! DEFINITION. The strain scanner (chapter 6): conversion and averaging, the limit check, the settle judgement, ZERO,
the excitation claim and the shunt calibration. -/
namespace Sys2Proof.Machine

open Sys2Proof

/-- The record of a channel; a DISABLED one past the last. -/
def channelAt (c : Nat) (s : State) : Channel :=
  s.scan.channels.getD c Channel.reset

/-- Change the record of a channel. -/
def updateChannel (f : Channel → Channel) (c : Nat) (s : State) : State :=
  { s with scan.channels := modifyAt f c s.scan.channels }

/-- Change every enabled channel by its number. -/
def updateEnabled (f : Nat → Channel → Channel) (s : State) : State :=
  { s with scan.channels := mapFrom (fun c ch => if channelEnabled ch then f c ch else ch) 0 s.scan.channels }

/-! ### Conversion and averaging (sections 6.2 and 6.3) -/

/-- A code as strain before the clamp (R97). -/
def rawStrain (code zero : Int) (scale : Nat) : Int :=
  roundDiv ((code - zero) * scale) 1048576

/-- A sample: the clamped strain and whether the clamp changed it (R97). -/
def sampleOf (code zero : Int) (scale : Nat) : Int × Bool :=
  (clampTo (-Config.strainMax) Config.strainMax (rawStrain code zero scale),
    decide (clampTo (-Config.strainMax) Config.strainMax (rawStrain code zero scale) ≠ rawStrain code zero scale))

/-- The samples of a scan, channel by channel (R96, R97). -/
def scanSamples (codes : List Int) (s : State) : List (Int × Bool) :=
  (List.range 16).map (fun c => sampleOf (codes.getD c 0) (channelAt c s).zero (channelCfg c s).scale)

/-- A scan taken now is a shunt-marked scan (R113). -/
def shuntMarked (s : State) : Bool :=
  match s.scan.shunt with
  | .onSettle => true
  | .on => true
  | .offSettle => true
  | _ => false

/-- Add a sample to a channel's averaging run (R97, R98, R113). -/
def accumulate (sample : Int × Bool) (marked : Bool) (ch : Channel) : Channel :=
  { ch with
    sum := ch.sum + sample.1
    overMark := ch.overMark || sample.2
    shuntMark := ch.shuntMark || marked }

/-- Step 1 of a scan: every enabled channel's sample enters the averaging run (R96). -/
def accumulateScan (samples : List (Int × Bool)) (s : State) : State :=
  let s1 := updateEnabled (fun c ch => accumulate (samples.getD c (0, false)) (shuntMarked s) ch) s
  { s1 with scan.runTaken := s1.scan.runTaken + 1 }

/-- The average of a channel at the end of a run of `d` scans (R98). -/
def formAverage (d : Nat) (ch : Channel) : Channel :=
  { ch with
    latest := roundDiv ch.sum d
    latestOver := ch.overMark
    latestShunt := ch.shuntMark
    sum := 0
    overMark := false
    shuntMark := false }

/-! ### Limits (section 6.4) -/

/-- An average is beyond its limits (R100). -/
def isBeyond (cfg : ChannelCfg) (ch : Channel) : Bool :=
  decide (cfg.high < ch.latest) || decide (ch.latest < cfg.low) || ch.latestOver

/-- A channel's exceed run reaches M (R100). -/
def exceedReached (c : Nat) (s : State) : State :=
  if (channelAt c s).cause then
    causeOff (.strain c) (updateChannel (fun ch => { ch with cause := false, exceed := 0 }) c s)
  else
    causeOn (.strain c)
      (updateChannel (fun ch => { ch with cause := true, exceed := 0 }) c
        (raiseOwn .strainLimit c (channelCfg c s).action s))

/-- The limit check of a channel (R100). -/
def limitCheck (c : Nat) (s : State) : State :=
  let ch := channelAt c s
  let cfg := channelCfg c s
  if ch.state = .ok ∧ ch.latestShunt = false then
    if isBeyond cfg ch = ch.cause then updateChannel (fun ch => { ch with exceed := 0 }) c s
    else if cfg.exceedCount ≤ ch.exceed + 1 then exceedReached c s
    else updateChannel (fun ch => { ch with exceed := ch.exceed + 1 }) c s
  else s

/-- The limit checks of the channels from `c` on, `n` of them, in ascending order (R99). -/
def limitChecks : Nat → Nat → State → State
  | _, 0, s => s
  | c, n + 1, s => limitChecks (c + 1) n (limitCheck c s)

/-- The averaging run is complete: averages, limit checks, the sample, and D afresh (R98, R99). That D is read after the
averages are handed on is DEDUCED (log entry 15). That the next run's D is read here, in step 2 of the completing scan,
and not at the next run's first scan is a DESIGN CHOICE (log entry 37): a capture that ends in step 5 of this scan, or
any change of D before the next scan, leaves the next run the D read here. -/
def completeRun (s : State) : State :=
  let s1 := updateEnabled (fun _ ch => formAverage s.scan.runLength ch) s
  let s2 := takeAverages (limitChecks 0 16 s1)
  { s2 with scan.runLength := decimation s2, scan.runTaken := 0 }

/-! ### Settle (section 6.5) -/

/-- A judged channel holds (R103). -/
def channelHolds (limit : Nat) (ch : Channel) : Bool :=
  match ch.ref with
  | some r => !ch.latestOver && !ch.latestShunt && decide ((ch.latest - r).natAbs ≤ limit)
  | none => false

/-- Every channel that is OK and settle-checked holds (R103). -/
def allHold (s : State) : Bool :=
  (List.range 16).all (fun c => !settleJudged c (channelAt c s) s || channelHolds s.cfg.driftLimit (channelAt c s))

/-- The settle window ends (R103). -/
def settleWindowEnds (s : State) : State :=
  if allHold s then sequencerOnSettled { s with scan.settled := true, scan.settleTimer := none }
  else startSettleWindow (takeReferences s)

/-! ### ZERO (section 6.6) -/

/-- The judgement of a ZERO (R105). -/
def judgeZero (s : State) : State :=
  if s.seq.state = .idle ∧ s.servo.lam = 0 then
    { updateEnabled (fun _ ch => { ch with rawSum := 0 }) s with
      scan.zero := some { loadSum := 0, count := 0, vented := true } }
  else endCommand .refused .state s

/-- The ZERO is complete (R107). -/
def zeroCompletes (z : ZeroRun) (s : State) : State :=
  let s1 := updateEnabled (fun _ ch => { ch with zero := roundDiv ch.rawSum 64 }) s
  let s2 := { s1 with
    scan.zero := none
    servo.loadZero := if z.vented then roundDiv z.loadSum 64 else s1.servo.loadZero }
  endCommandOf .zero .done .none (setEvent .zeroDone s2)

/-- Step 3 of a scan: the ZERO advances, completes or is abandoned (R106). -/
def advanceZero (codes : List Int) (s : State) : State :=
  match s.scan.zero with
  | none => s
  | some z =>
    if s.seq.state = .idle ∧ s.servo.lam = 0 then
      let s1 := updateEnabled (fun c ch => { ch with rawSum := ch.rawSum + codes.getD c 0 }) s
      let z1 : ZeroRun :=
        { loadSum := z.loadSum + s1.pins.loadCode, count := z.count + 1
          vented := z.vented && decide (s1.act.state = .vented) }
      if 64 ≤ z1.count then zeroCompletes z1 s1 else { s1 with scan.zero := some z1 }
    else endCommandOf .zero .refused .state { s with scan.zero := none }

/-! ### The excitation claim (section 6.7) -/

/-- The holder has become none: a WAITING scanner claims again (R111). -/
def holderReleased (s : State) : State :=
  let s1 := { s with scan.holder := none }
  if s1.scan.shunt = .waiting then placeShuntClaim { s1 with scan.shunt := .claiming } else s1

/-- A SHUNT_CLAIM of the own group has completed (R108). -/
def claimCompletes (sender : Nat) (s : State) : State :=
  match s.scan.holder with
  | none => { s with scan.holder := some { station := sender, age := s.age } }
  | some _ => s

/-- The station is the holder. -/
def isHolder (station : Nat) (s : State) : Bool :=
  match s.scan.holder with
  | some h => decide (h.station = station)
  | none => false

/-- A SHUNT_DONE of the own group has completed (R108). -/
def doneCompletes (sender : Nat) (s : State) : State :=
  if isHolder sender s then holderReleased s else s

/-- A telegram names the own excitation group, 1 to 8 (R108). -/
def ownGroup (group : Nat) (s : State) : Bool :=
  decide (group = s.cfg.excitation ∧ s.cfg.excitation ≠ 0)

/-- The holder's record has become absent (R109). -/
def holderAbsent (station : Nat) (s : State) : State :=
  if isHolder station s then holderReleased s else s

/-- A STATUS of the holder with SHUNT_ACTIVE clear (R109). -/
def holderQuiet (station : Nat) (active : Bool) (s : State) : State :=
  if isHolder station s ∧ active = false then holderReleased s else s

/-! ### Shunt calibration (section 6.8) -/

/-- Enter BEFORE (R110 to R112). -/
def enterBefore (s : State) : State :=
  { s with
    scan.shunt := .before
    scan.shuntActive := true
    scan.shuntScans := 0
    scan.channels := mapFrom (fun _ ch => { ch with beforeSum := 0, onSum := 0 }) 0 s.scan.channels }

/-- The judgement of a SHUNT (R110). -/
def judgeShunt (s : State) : State :=
  if s.seq.state = .idle ∨ s.seq.state = .held then
    if s.cfg.excitation = 0 then enterBefore s
    else placeShuntClaim { s with scan.shunt := .claiming }
  else endCommand .refused .state s

/-- The own SHUNT_CLAIM has completed (R111); a claim left over from an ended shunt, which the claim of the shunt that
runs still waits behind, decides nothing (log entry 18). -/
def ownClaimCompleted (s : State) : State :=
  if s.scan.shunt = .claiming ∧ s.scan.claimHeld = false then
    if isHolder (ownStation s) s then enterBefore s else { s with scan.shunt := .waiting }
  else s

/-- The SHUNT slot has emptied: a held claim is placed (R7, R110). -/
def shuntSlotEmptied (s : State) : State :=
  if s.scan.claimHeld then placeShuntClaim s else s

/-- The shunt switches of all enabled channels (R112). -/
def enabledMask (s : State) : Half :=
  BitVec.ofNat 16 (maskOf channelEnabled s.scan.channels)

/-- A span of the shunt sequence ends (R112). -/
def spanEnds (s : State) : State :=
  match s.scan.shunt with
  | .before => { s with pins.shunts := enabledMask s, scan.shunt := .onSettle, scan.shuntScans := 16 }
  | .onSettle => { s with scan.shunt := .on, scan.shuntScans := 20 }
  | .on => { s with pins.shunts := 0, scan.shunt := .offSettle, scan.shuntScans := 36 }
  | _ => s

/-- The measured step m of a channel (R114). -/
def shuntStepOf (ch : Channel) : Int :=
  roundDiv ch.onSum 16 - roundDiv ch.beforeSum 16

/-- The channel passes: the step is within 2 % of E (R114). -/
def shuntPasses (expected : Int) (ch : Channel) : Bool :=
  decide (50 * (shuntStepOf ch - expected).natAbs ≤ expected.natAbs)

/-- A channel fails its shunt (R101, R114). -/
def channelFails (c : Nat) (s : State) : State :=
  raiseOwn .shuntFail c .note
    (causeOff (.strain c) (updateChannel (fun ch => { ch with state := .faulty, exceed := 0, cause := false }) c s))

/-- The judgement of one channel (R114). -/
def judgeChannel (c : Nat) (s : State) : State :=
  let ch := channelAt c s
  let expected := (channelCfg c s).shuntStep
  if channelEnabled ch ∧ expected ≠ 0 then
    if shuntPasses expected ch then updateChannel (fun ch => { ch with state := .ok }) c s
    else channelFails c s
  else s

/-- The judgements of the channels from `c` on, `n` of them, in ascending order, in which their SHUNT_FAIL records are
then listed: R114 names no order (DESIGN CHOICE, log entry 36). -/
def judgeChannels : Nat → Nat → State → State
  | _, 0, s => s
  | c, n + 1, s => judgeChannels (c + 1) n (judgeChannel c s)

/-- Scan 40: the channels are judged and the shunt ends DONE (R114). -/
def shuntEnds (s : State) : State :=
  let s1 := judgeChannels 0 16 s
  let s2 := if s1.cfg.excitation = 0 then s1 else placeShuntDone s1
  endCommandOf .shunt .done .none (leaveShunt s2)

/-- Step 4 of a scan: the shunt sequence advances (R112). -/
def advanceShunt (samples : List (Int × Bool)) (s : State) : State :=
  match s.scan.shunt with
  | .before =>
    let s1 := updateEnabled (fun c ch => { ch with beforeSum := ch.beforeSum + (samples.getD c (0, false)).1 }) s
    if 16 ≤ s.scan.shuntScans + 1 then spanEnds s1 else { s1 with scan.shuntScans := s.scan.shuntScans + 1 }
  | .onSettle =>
    if 20 ≤ s.scan.shuntScans + 1 then spanEnds s else { s with scan.shuntScans := s.scan.shuntScans + 1 }
  | .on =>
    let s1 := updateEnabled (fun c ch => { ch with onSum := ch.onSum + (samples.getD c (0, false)).1 }) s
    if 36 ≤ s.scan.shuntScans + 1 then spanEnds s1 else { s1 with scan.shuntScans := s.scan.shuntScans + 1 }
  | .offSettle =>
    if 40 ≤ s.scan.shuntScans + 1 then shuntEnds s else { s with scan.shuntScans := s.scan.shuntScans + 1 }
  | _ => s

/-! ### The scan (R96) -/

/-- Step 2 of a scan: a complete run is averaged and handed on. -/
def completeIfDue (s : State) : State :=
  if s.scan.runLength ≤ s.scan.runTaken then completeRun s else s

/-- The codes a scan takes, 16 of them. -/
def takenCodes (codes : List Int) : List Int :=
  (List.range 16).map (fun c => codes.getD c 0)

/-- One scan (R96): accumulate, complete the run, ZERO, shunt, and the notice to the record memory. -/
def scanEvent (codes : List Int) (loadCode : Int) (s : State) : State :=
  let samples := scanSamples codes s
  let s1 := accumulateScan samples { s with pins.bridgeCodes := takenCodes codes, pins.loadCode := loadCode }
  scanCompleted (advanceShunt samples (advanceZero codes (completeIfDue s1)))

/-! ### QUERY STRAIN (section 6.9) -/

/-- The data of QUERY STRAIN (R116, Table 1-9). -/
def strainData (half : Nat) (s : State) : List Byte :=
  leBytes 1 half ++
    (List.range 8).flatMap (fun i =>
      let ch := channelAt (8 * half + i) s
      leBytes 1 (channelStateCode ch.state) ++ leSigned 4 ch.latest)

/-- QUERY STRAIN (R116). -/
def queryStrainRequest (head : CommandHead) (half : Nat) (s : State) : State :=
  if 1 < half then answerRefused head queryCode .range s
  else answer head queryCode .done .none (strainData half s) s

end Sys2Proof.Machine
end

