-- ==== Sys2Proof/Machine/Line.lean ====
section
/-! DEFINITION. The line unit (chapter 1): the arbiter and the telegrams it offers, losses and abandons, own
completions, the status timer and the line-fault watch. -/
namespace Sys2Proof.Machine

open Sys2Proof

/-! ### Payloads (section 1.9) -/

/-- Kind codes of the telegrams the station sends (Table 1-2). -/
def alarmTelegramCode : Nat := 0x01
/-- CHARGE (Table 1-2). -/
def chargeTelegramCode : Nat := 0x02
/-- STATUS (Table 1-2). -/
def statusTelegramCode : Nat := 0x05
/-- REPLY (Table 1-2). -/
def replyTelegramCode : Nat := 0x06
/-- DATA (Table 1-2). -/
def dataTelegramCode : Nat := 0x07

/-- The 17 bytes of an ALARM (Table 1-3). -/
def alarmPayload (t : AlarmTelegram) : List Byte :=
  leBytes 1 (kindCode t.kind) ++ leBytes 1 t.channel ++ leBytes 1 (latchCode t.action) ++ leBytes 2 t.lam ++
    leBytes 4 t.step ++ leSigned 4 t.fMeas ++ leBytes 4 t.timeTag.toNat

/-- The start cause a STATUS carries (R10, R173). -/
def reportedCause (s : State) : StartCause :=
  if s.loader.phase = .configFault then .configFault else s.loader.cause

/-- The 24 bytes of a STATUS at its take (R10, Table 1-4). -/
def statusPayload (s : State) : List Byte :=
  leBytes 1 (seqCode s.seq.state) ++ leBytes 1 (phaseCode (reportedPhase s.seq)) ++ leBytes 4 s.seq.step ++
    leBytes 1 s.seq.segment ++ leBytes 2 s.servo.lam ++ leSigned 4 s.servo.fMeas ++ leBytes 1 (actCode s.act.state) ++
    leBytes 1 (latchCode s.alarm.latch) ++ leBytes 2 (flagsField s) ++ leBytes 2 s.seq.digest.toNat ++
    leBytes 2 s.line.events.toNat ++ leBytes 2 s.recs.freePages ++ leBytes 1 (causeCode (reportedCause s))

/-- The payload of a REPLY (Table 1-8). -/
def replyPayload (r : Reply) : List Byte :=
  leBytes 1 r.kindCode ++ leBytes 1 (resultCode r.result) ++ leBytes 1 (reasonCode r.reason) ++ r.data

/-- The payload of a DATA part (Table 1-3). -/
def dataPayload (p : DataPart) : List Byte :=
  leBytes 1 p.block ++ leBytes 1 p.part ++ p.data

/-! ### The arbiter (R8) -/

/-- The STATUS slot holds a STATUS. -/
def statusWaits (s : State) : Bool :=
  decide (s.line.statusSlot ≠ .empty)

/-- The lowest-numbered class whose queue is non-empty (R8). -/
def offeredClass (s : State) : Option TxClass :=
  if !s.line.alarmQ.isEmpty then some .alarm
  else if s.line.chargeSlot.isSome then some .charge
  else if s.line.shuntSlot.isSome then some .shunt
  else if statusWaits s then some .status
  else if !s.line.replyQ.isEmpty then some .reply
  else if !s.line.dataQ.isEmpty then some .data
  else none

/-- The head of a class's queue as bytes on the pair (R1). -/
def headTelegram (c : TxClass) (s : State) : List Byte :=
  match c with
  | .alarm =>
    match s.line.alarmQ with
    | t :: _ => frame (classCode c) (ownStation s) 0 alarmTelegramCode (alarmPayload t)
    | [] => []
  | .charge =>
    match s.line.chargeSlot with
    | some p => frame (classCode c) (ownStation s) 0 chargeTelegramCode (leBytes 1 (purposeCode p))
    | none => []
  | .shunt =>
    match s.line.shuntSlot with
    | some t => shuntBytes t s
    | none => []
  | .status => frame (classCode c) (ownStation s) 0 statusTelegramCode (statusPayload s)
  | .reply =>
    match s.line.replyQ with
    | r :: _ => frame (classCode c) (ownStation s) r.dest replyTelegramCode (replyPayload r)
    | [] => []
  | .data =>
    match s.line.dataQ with
    | p :: _ => frame (classCode c) (ownStation s) p.dest dataTelegramCode (dataPayload p)
    | [] => []

/-- The take of a STATUS: the events snapshot and an empty after-take set (R9, R10). -/
def takeStatus (s : State) : State :=
  { s with line.statusSlot := .taken s.line.events false, line.afterTake := 0 }

/-- Offer the head of a class (R2, R8); its arbitration is not won yet. -/
def offerClass (c : TxClass) (s : State) : State :=
  let s1 := { s with line.tx := some { cls := c, bytes := headTelegram c s, won := false } }
  if c = .status then takeStatus s1 else s1

/-- An arbitration opportunity (R2, R8); while a telegram is on offer, what the row brings is the end of its arbitration
field without a loss, the win (DESIGN CHOICE, log entry 6). -/
def opportunity (s : State) : State :=
  if lineSends s then
    match s.line.tx with
    | some t => { s with line.tx := some { t with won := true } }
    | none =>
      match offeredClass s with
      | some c => offerClass c s
      | none => s
  else s

/-! ### Losses and abandons (R2, R3) -/

/-- The slot after a SHUNT telegram has left transmission: a SHUNT_DONE that waits behind a claim takes it (R7). -/
def releaseShuntSlot (keep : Option ShuntTelegram) (s : State) : State :=
  if s.line.shuntDoneBehind then
    { s with
      line.shuntSlot := some { isDone := true, group := s.cfg.excitation }
      line.shuntDoneBehind := false }
  else { s with line.shuntSlot := keep }

/-- A STATUS that did not complete waits again, its mark dropped, its after-take set forgotten (R9, R11). -/
def releaseTake (s : State) : State :=
  { s with line.statusSlot := .waiting, line.afterTake := 0 }

/-- The telegram on offer or in transmission does not complete: it stays in its queue (R2, R3, R7). -/
def withdrawOffer (s : State) : State :=
  match s.line.tx with
  | none => s
  | some t =>
    let s1 := { s with line.tx := none }
    match t.cls with
    | .status => releaseTake s1
    | .shunt => releaseShuntSlot s1.line.shuntSlot s1
    | _ => s1

/-! ### Own completions (R6, R11, R13, R14) -/

/-- The line-fault watch at the completion of an own telegram, which leaves transmission (R14). -/
def ownCompletes (s : State) : State :=
  let s1 := { s with line.tx := none, line.ownCompleted := true, line.faultCount := 0, line.lineFault := false }
  if isRunning s then causeOff .lineFault s1 else s1

/-- An own telegram of the class completes: only the one offered can, and its completion shows that it won (R2, R4). -/
def onOwnCompletion (c : TxClass) (f : State → State) (s : State) : State :=
  if onOffer c s then f (ownCompletes s) else s

/-- The own STATUS leaves the slot and the events it reported leave the set (R9, R11). -/
def statusCompletes (s : State) : State :=
  { s with
    line.statusSlot :=
      match s.line.statusSlot with
      | .taken _ true => .waiting
      | _ => .empty
    line.events := s.line.afterTake
    line.afterTake := 0 }

/-- The own ALARM leaves its queue (R6). -/
def alarmCompletes (s : State) : State :=
  { s with line.alarmQ := s.line.alarmQ.drop 1 }

/-- The own REPLY leaves its queue, and the oldest held reply moves in (R13). -/
def replyCompletes (s : State) : State :=
  { s with
    line.replyQ := s.line.replyQ.drop 1 ++ s.line.heldReplies.take 1
    line.heldReplies := s.line.heldReplies.drop 1 }

/-- The own DATA part leaves its queue, and the record memory is told (R6, R159). -/
def partCompletes (s : State) : State :=
  match s.line.dataQ with
  | p :: rest => dataCompleted p { s with line.dataQ := rest }
  | [] => s

/-- The own CHARGE leaves its slot, and the actuator unit is told (R6, R90). -/
def chargeCompletes (s : State) : State :=
  ownChargeCompleted { s with line.chargeSlot := none }

/-- Tell the scanner of an emptied SHUNT slot (R7). -/
def noticeIfEmpty (s : State) : State :=
  if s.line.shuntSlot.isNone then shuntSlotEmptied s else s

/-- The own SHUNT_CLAIM leaves the slot: first the claim holder, then the scanner (R6, R108, R111). -/
def ownClaimCompletes (s : State) : State :=
  match s.line.shuntSlot with
  | some t =>
    if t.isDone then s
    else
      let s1 := releaseShuntSlot none s
      let s2 := if ownGroup t.group s1 then claimCompletes (ownStation s1) s1 else s1
      noticeIfEmpty (ownClaimCompleted s2)
  | none => s

/-- The own SHUNT_DONE leaves the slot: the claim holder, then a held claim (R6, R108, R110). -/
def ownDoneCompletes (s : State) : State :=
  match s.line.shuntSlot with
  | some t =>
    if t.isDone then
      let s1 := releaseShuntSlot none s
      noticeIfEmpty (if ownGroup t.group s1 then doneCompletes (ownStation s1) s1 else s1)
    else s
  | none => s

/-- The SHUNT telegram in transmission is a SHUNT_DONE. -/
def shuntIsDone (s : State) : Bool :=
  match s.line.shuntSlot with
  | some t => t.isDone
  | none => false

/-! ### The status timer and the line-fault watch (R9, R14) -/

/-- A telegram is pending (R14). -/
def telegramPending (s : State) : Bool :=
  (offeredClass s).isSome || s.line.tx.isSome

/-- The count of status periods at an expiry (R14). -/
def watchCount (s : State) : Nat :=
  if telegramPending s && !s.line.ownCompleted then min (s.line.faultCount + 1) 5 else 0

/-- LINE_FAULT is set, and handed to the alarm unit where settings are distributed (R14, R15). -/
def setLineFault (s : State) : State :=
  let s1 := { s with line.lineFault := true }
  if isRunning s then causeOn .lineFault (raiseOwn .lineFault 0 .hold s1) else s1

/-- The line-fault watch at an expiry (R14). -/
def watchLine (s : State) : State :=
  let s1 := { s with line.faultCount := watchCount s, line.ownCompleted := false }
  if watchCount s = 5 ∧ s.line.lineFault = false then setLineFault s1 else s1

/-- Place, merge or mark the STATUS of an expiry (R9). -/
def placeStatus (s : State) : State :=
  { s with line.statusSlot :=
      match s.line.statusSlot with
      | .taken snapshot _ => .taken snapshot true
      | _ => .waiting }

/-- The status timer expires (R9, R14). -/
def statusTimerExpires (s : State) : State :=
  placeStatus (watchLine { s with line.statusTimer := some (s.age + ms s.line.statusPeriod) })

end Sys2Proof.Machine
end

