-- ==== Sys2Proof/Machine/Queue.lean ====
section
/-! DEFINITION. The command queue (section 10.2): taking a queued command, and starting the next. -/
namespace Sys2Proof.Machine

open Sys2Proof

/-- Hand a started command to its owner, which judges it (R165). -/
def judgeQueued (kind : QueuedKind) (s : State) : State :=
  match kind with
  | .charge => judgeCharge s
  | .vent => judgeVent s
  | .lock => judgeLock s
  | .unlock => judgeUnlock s
  | .cleartrip => judgeCleartrip s
  | .zero => judgeZero s
  | .shunt => judgeShunt s

/-- Start waiting commands while none is in progress, at most `n` of them (R165). -/
def startWaiting : Nat → State → State
  | 0, s => s
  | n + 1, s =>
    match s.cmd.current, s.cmd.queue with
    | none, q :: rest =>
      startWaiting n (judgeQueued q.kind { s with cmd.queue := rest, cmd.current := some q })
    | _, _ => s

/-- The end of an event: with no command in progress, waiting commands are started (R165), in a station that runs
(R172). -/
def startCommands (s : State) : State :=
  if isRunning s then startWaiting s.cmd.queue.length s else s

/-- Take a queued command of good form: append it and start it on an idle queue, or refuse it BUSY (R164). -/
def enqueue (head : CommandHead) (kind : QueuedKind) (s : State) : State :=
  if s.cmd.queue.length < Config.commandQueueSize then
    startCommands { s with cmd.queue := s.cmd.queue ++ [{ kind := kind, console := head.sender }] }
  else answerRefused head (queuedKindCode kind) .busy s

/-- Take a queued command telegram (R163, R164). -/
def takeQueued (head : CommandHead) (kind : QueuedKind) (s : State) : State :=
  takeCommand head (queuedKindCode kind) (enqueue head kind) s

end Sys2Proof.Machine
end

