-- ==== Sys2Proof/Machine/LineEvents.lean ====
section
/-! DEFINITION. The meanings of the line unit's commands: arbitration, the status timer, own completions (chapter 1),
and the expiry of a timer in general. -/
namespace Sys2Proof.Machine

open Sys2Proof

/-- The expiry of a timer: a stopped one has none; a running one expires at its moment, to which the age clock is
advanced where it has not reached it (log entry 2). -/
def onExpiry (due : Option Nat) (f : State → State) (s : State) : State :=
  match due with
  | some t => f (advanceTo t s)
  | none => s

/-- The expiry of a timer of a running station. -/
def timerEvent (due : Option Nat) (f : State → State) (s : State) : State :=
  whenRunning (onExpiry due f) s

/-- An own completion of a station that sends (R15). -/
def ownCompletion (c : TxClass) (f : State → State) (s : State) : State :=
  if lineSends s then onOwnCompletion c f s else s

/-- ARBITRATION_OPPORTUNITY (R2, R8). -/
def execArbitrationOpportunity (s : State) : Host.Outcome State Fault Refusal :=
  .next (opportunity s)

/-- ARBITRATION_LOSS (R2). -/
def execArbitrationLoss (s : State) : Host.Outcome State Fault Refusal :=
  .next (if lineSends s then withdrawOffer s else s)

/-- TELEGRAM_ABANDON (R3). -/
def execTelegramAbandon (s : State) : Host.Outcome State Fault Refusal :=
  .next (if lineSends s then withdrawOffer s else s)

/-- STATUS_TIMER_EXPIRY (R9, R14). -/
def execStatusTimerExpiry (s : State) : Host.Outcome State Fault Refusal :=
  .next (if lineSends s then onExpiry s.line.statusTimer statusTimerExpires s else s)

/-- STATUS_OWN_COMPLETION (R9, R11, R14). -/
def execStatusOwnCompletion (s : State) : Host.Outcome State Fault Refusal :=
  .next (ownCompletion .status statusCompletes s)

/-- ALARM_OWN_COMPLETION (R6, R14). -/
def execAlarmOwnCompletion (s : State) : Host.Outcome State Fault Refusal :=
  .next (ownCompletion .alarm alarmCompletes s)

/-- REPLY_OWN_COMPLETION (R13, R14). -/
def execReplyOwnCompletion (s : State) : Host.Outcome State Fault Refusal :=
  .next (ownCompletion .reply replyCompletes s)

/-- DATA_OWN_COMPLETION (R14, R159). -/
def execDataOwnCompletion (s : State) : Host.Outcome State Fault Refusal :=
  .next (ownCompletion .data partCompletes s)

/-- CHARGE_OWN_COMPLETION (R14, R90); an entry into LIVE ends the command in progress. -/
def execChargeOwnCompletion (s : State) : Host.Outcome State Fault Refusal :=
  .next (startCommands (ownCompletion .charge chargeCompletes s))

/-- SHUNT_CLAIM_OWN_COMPLETION (R14, R108, R111). -/
def execShuntClaimOwnCompletion (s : State) : Host.Outcome State Fault Refusal :=
  .next (if shuntIsDone s then s else ownCompletion .shunt ownClaimCompletes s)

/-- SHUNT_DONE_OWN_COMPLETION (R14, R108, R110). -/
def execShuntDoneOwnCompletion (s : State) : Host.Outcome State Fault Refusal :=
  .next (if shuntIsDone s then ownCompletion .shunt ownDoneCompletes s else s)

end Sys2Proof.Machine
end

