-- ==== Sys2Proof/Machine/ActuatorEvents.lean ====
section
/-! DEFINITION. The meanings of the actuator unit's inputs and timers (chapter 5). -/
namespace Sys2Proof.Machine

open Sys2Proof

/-- A timer of the actuator unit expires; it runs in one state only. -/
def actuatorExpiry (st : ActState) (due : Option Nat) (f : State → State) (s : State) : State :=
  startCommands (if s.act.state = st then timerEvent due f s else s)

/-- PRESS_OK has a new level (R75, R77, R82); its level is kept in every phase but while the pin is held. -/
def pressOkEvent (level : Bool) (s : State) : State :=
  if takesEvents s ∧ s.pins.pressOk ≠ level then
    startCommands (whenRunning pressOkChanged { s with pins.pressOk := level })
  else s

/-- LOCK_ENGAGED has a new level (R75, R79, R80, R82). -/
def lockEngagedEvent (level : Bool) (s : State) : State :=
  if takesEvents s ∧ s.pins.lockEngaged ≠ level then
    startCommands (whenRunning lockEngagedChanged { s with pins.lockEngaged := level })
  else s

/-- ESTOP becomes active (R85): the trip, then, once settings are distributed, the raise and the cause (R94, R173). -/
def estopActiveEvent (s : State) : State :=
  if takesEvents s ∧ s.pins.estop = false then
    startCommands (whenRunning raiseEstop (tripOnEstop { s with pins.estop := true }))
  else s

/-- ESTOP becomes inactive (R85). -/
def estopInactiveEvent (s : State) : State :=
  if takesEvents s ∧ s.pins.estop = true then whenRunning (causeOff .estop) { s with pins.estop := false } else s

/-- PRESS_OK_CHANGE (R75, R77, R82). -/
def execPressOkChange (level : Bool) (s : State) : Host.Outcome State Fault Refusal :=
  .next (pressOkEvent level s)

/-- LOCK_ENGAGED_CHANGE (R75, R79, R80, R82). -/
def execLockEngagedChange (level : Bool) (s : State) : Host.Outcome State Fault Refusal :=
  .next (lockEngagedEvent level s)

/-- ESTOP_ACTIVE (R85, R94). -/
def execEstopActive (s : State) : Host.Outcome State Fault Refusal :=
  .next (estopActiveEvent s)

/-- ESTOP_INACTIVE (R85). -/
def execEstopInactive (s : State) : Host.Outcome State Fault Refusal :=
  .next (estopInactiveEvent s)

/-- CHARGE_TIMER_EXPIRY (R77). -/
def execChargeTimerExpiry (s : State) : Host.Outcome State Fault Refusal :=
  .next (actuatorExpiry .charging s.act.chargeTimer chargeFails s)

/-- LOCK_TIMER_EXPIRY (R79). -/
def execLockTimerExpiry (s : State) : Host.Outcome State Fault Refusal :=
  .next (actuatorExpiry .locking s.act.lockTimer lockFails s)

/-- ACQUISITION_TIMER_EXPIRY (R82). -/
def execAcquisitionTimerExpiry (s : State) : Host.Outcome State Fault Refusal :=
  .next (actuatorExpiry .unlockCharge s.act.acquisition beginRelease s)

/-- UNLOCK_DEADLINE_EXPIRY (R83). -/
def execUnlockDeadlineExpiry (s : State) : Host.Outcome State Fault Refusal :=
  .next (actuatorExpiry .unlockCharge s.act.deadline unlockFails s)

/-- LOCK_CHECK_TIMER_EXPIRY (R92, R93): in LOCKED and in the wait of an unlock, where alone the timer runs. -/
def execLockCheckTimerExpiry (s : State) : Host.Outcome State Fault Refusal :=
  .next (startCommands (timerEvent s.act.lockCheck lockCheckExpires s))

end Sys2Proof.Machine
end

