-- ==== Sys2Proof/Machine/CrackEvents.lean ====
section
/-! DEFINITION. The meanings of the crack monitor's commands (chapter 7). -/
namespace Sys2Proof.Machine

open Sys2Proof

/-- The monitor timer expires: it is reloaded and the loop scan taken (R118). -/
def monitorExpires (readings : List LoopReading) (s : State) : State :=
  loopScanEvent readings { s with crack.timer := some (s.age + ms 10) }

/-- The scan in which an enabled loop's candidate reaches its count n, as that loop meets it: the candidate has been
sensed in at least n − 1 scans before and is taken now; one that would stand below n after this scan is not (R119; log
entry 4). -/
def takeCandidate (loop : Nat) (s : State) : State :=
  match (loopAt loop s).candidate with
  | some (reading, count) =>
    if (loopAt loop s).state ≠ .disabled ∧ debounceScans loop s ≤ count + 1 then takeReading loop reading s else s
  | none => s

/-- A pulse, once the monitor timer has started (R126). -/
def pulseEvent (input : Nat) (s : State) : State :=
  if s.crack.timer.isSome then takePulse input s else s

/-- LOOP_SCAN (R118). -/
def execLoopScan (readings : List LoopReading) (s : State) : Host.Outcome State Fault Refusal :=
  .next (startCommands (timerEvent s.crack.timer (monitorExpires readings) s))

/-- LOOP_READING_TAKEN (R119, R121, R122). -/
def execLoopReadingTaken (loop : Nat) (s : State) : Host.Outcome State Fault Refusal :=
  .next (startCommands (whenRunning (takeCandidate loop) s))

/-- AE_HIT (R126 to R129). -/
def execAeHit (input : Nat) (s : State) : Host.Outcome State Fault Refusal :=
  .next (startCommands (whenRunning (pulseEvent input) s))

/-- DEAD_TIME_EXPIRY (R126). -/
def execDeadTimeExpiry (input : Nat) (s : State) : Host.Outcome State Fault Refusal :=
  .next (timerEvent (aeAt input s).dead (updateAe (fun a => { a with dead := none }) input) s)

end Sys2Proof.Machine
end

