-- ==== Sys2Proof/Decode.lean ====
section
/-! DEFINITION. The commands that words or bytes spell. The opcode table gives no row any bits, so no word spells a
command there; a telegram of the hall line does, by R4, R5 and Tables 1-1 to 1-6. -/
namespace Sys2Proof

open Sys2Proof.Machine

/-- The command a word of the opcode table spells: the table gives no row a match, a mask or bits, so none
(log entry 26). -/
def decodeTableWord (_nbits _w : Nat) : Option Instr :=
  none

/-! ### Telegrams (sections 1.3 and 1.9) -/

/-- The unsigned field of a payload. -/
def payloadNat (payload : List Byte) (offset width : Nat) : Nat :=
  leNat (fieldAt payload offset width)

/-- The byte of a payload. -/
def payloadByte (payload : List Byte) (offset : Nat) : Byte :=
  payload.getD offset 0

/-- A telegram is whole (R4): at least 6 bytes, length field 66 or less, that many payload bytes, check equal. -/
def telegramWhole (bytes : List Byte) : Bool :=
  decide (6 ≤ bytes.length) && decide (payloadNat bytes 3 1 ≤ 66) &&
    decide (bytes.length = 6 + payloadNat bytes 3 1) &&
    decide ((crc16 (bytes.take (bytes.length - 2))).toNat = payloadNat bytes (bytes.length - 2) 2)

/-- The STATUS a payload carries (Tables 1-4 and 1-5); an unlisted code is a free value (log entry 8). -/
def statusReportOf (p : List Byte) : StatusReport where
  seqState := (seqOfCode (payloadNat p 0 1)).getD (Config.unlistedSeqState (payloadByte p 0))
  phase := (phaseOfCode (payloadNat p 1 1)).getD (Config.unlistedPhase (payloadByte p 1))
  step := payloadNat p 2 4
  segment := payloadNat p 6 1
  lam := payloadNat p 7 2
  fMeas := leInt (fieldAt p 9 4)
  actuator := (actOfCode (payloadNat p 13 1)).getD (Config.unlistedActState (payloadByte p 13))
  latch := (latchOfCode (payloadNat p 14 1)).getD (Config.unlistedLatch (payloadByte p 14))
  flags := BitVec.ofNat 9 (payloadNat p 15 2)
  loadGroup := payloadNat p 15 2 / 4096 % 8
  digest := BitVec.ofNat 16 (payloadNat p 17 2)
  events := BitVec.ofNat 16 (payloadNat p 19 2)
  freePages := payloadNat p 21 2
  startCause := payloadNat p 23 1

/-- The ALARM a payload carries (Table 1-3). -/
def alarmReportOf (p : List Byte) : AlarmReport where
  kindCode := payloadNat p 0 1
  channel := payloadNat p 1 1
  actionCode := payloadNat p 2 1
  lam := payloadNat p 3 2
  step := payloadNat p 5 4
  fMeas := leInt (fieldAt p 9 4)
  timeTag := BitVec.ofNat 32 (payloadNat p 13 4)

/-- The PROGRAM payload (Table 1-6). -/
def segmentRequestOf (p : List Byte) : SegmentRequest where
  index := payloadNat p 0 1
  target := payloadNat p 1 2
  rate := payloadNat p 3 2
  hold := payloadNat p 5 2
  settle := payloadNat p 7 1
  extension := payloadNat p 8 2
  loopTo := payloadNat p 10 1
  loopCount := payloadNat p 11 2

/-- A QUERY by its subject (Table 1-6, R167). -/
def queryOf (head : CommandHead) (subject argument : Nat) : Instr :=
  match subject with
  | 1 => .queryCrack head argument
  | 2 => .queryAlarms head argument
  | 3 => .queryStrain head argument
  | 4 => .queryPeer head argument
  | _ => .queryOtherSubject head subject argument

/-- A console command by its kind code (Table 1-6, R163). -/
def consoleCommandOf (head : CommandHead) (kind : Nat) (p : List Byte) : Instr :=
  match kind with
  | 0x40 => .program head (segmentRequestOf p)
  | 0x41 => .clearprog head
  | 0x42 => .run head
  | 0x43 => .hold head
  | 0x44 => .resume head
  | 0x45 => .unload head
  | 0x46 => .ack head (payloadNat p 0 1) (payloadNat p 1 1) (payloadNat p 2 1) (payloadNat p 3 1)
  | 0x47 => .accept head (payloadNat p 0 1)
  | 0x48 => .fetch head (payloadNat p 0 1) (payloadNat p 1 2)
  | 0x49 => .free head (payloadNat p 0 1)
  | 0x4A => .cut head
  | 0x4B => .timeset head (BitVec.ofNat 32 (payloadNat p 0 4))
  | 0x4C => queryOf head (payloadNat p 0 1) (payloadNat p 1 1)
  | 0x4D => .charge head
  | 0x4E => .vent head
  | 0x4F => .lock head
  | 0x50 => .unlock head
  | 0x51 => .cleartrip head
  | 0x52 => .zero head
  | 0x53 => .shunt head
  | _ => .commandUnknownKind head kind

/-- A telegram of another frame station by class, kind and length (Table 1-2, R5). -/
def peerTelegramOf (cls sender kind : Nat) (p : List Byte) : Option Instr :=
  if cls = 0 ∧ kind = 1 ∧ p.length = 17 then some (.alarmHeard sender (alarmReportOf p))
  else if cls = 1 ∧ kind = 2 ∧ p.length = 1 then some (.chargeHeard sender (payloadNat p 0 1))
  else if cls = 3 ∧ kind = 3 ∧ p.length = 1 then some (.shuntClaimHeard sender (payloadNat p 0 1))
  else if cls = 3 ∧ kind = 4 ∧ p.length = 1 then some (.shuntDoneHeard sender (payloadNat p 0 1))
  else if cls = 4 ∧ kind = 5 ∧ p.length = 24 then some (.statusReceived sender (statusReportOf p))
  else none

/-- The command a received telegram hands on at station `own`; `none` where R4 or R5 discards it. -/
def decodeTelegram (own : Nat) (bytes : List Byte) : Option Instr :=
  if telegramWhole bytes then
    let cls := payloadNat bytes 0 1 / 32
    let sender := payloadNat bytes 0 1 % 32
    let dest := payloadNat bytes 1 1
    let kind := payloadNat bytes 2 1
    let payload := (bytes.drop 4).take (payloadNat bytes 3 1)
    if 32 ≤ dest then none
    else if cls = 2 then
      if isConsoleNumber sender ∧ (dest = 0 ∨ dest = own) then
        some (consoleCommandOf { sender := sender, dest := dest, len := payload.length } kind payload)
      else none
    else if isFrameNumber sender then peerTelegramOf cls sender kind payload
    else none
  else none
where
  /-- A console station number, 28 to 31. -/
  isConsoleNumber (n : Nat) : Bool := decide (28 ≤ n ∧ n ≤ 31)
  /-- A frame station number, 1 to 27. -/
  isFrameNumber (n : Nat) : Bool := decide (1 ≤ n ∧ n ≤ 27)

end Sys2Proof
end

