-- ==== Sys2Proof/Machine/Alarm.lean ====
section
/-! DEFINITION. The alarm unit's requests and heard alarms (chapter 8). Raises, the latch and the causes stand in Ops. -/
namespace Sys2Proof.Machine

open Sys2Proof

/-- The raise of a heard ALARM: kind, channel, action and values as carried (R137). -/
def heardRaise (sender : Nat) (kind : AlarmKind) (action : Latch) (report : AlarmReport) : Raise :=
  { source := sender, kind := kind, channel := report.channel, action := action, lam := report.lam
    step := report.step, tag := report.timeTag }

/-- A heard ALARM (R137); one of a non-member, or with a kind or action of no table, is discarded. -/
def alarmHeard (sender : Nat) (report : AlarmReport) (s : State) : State :=
  match kindOfCode report.kindCode, actionOfCode report.actionCode with
  | some kind, some action =>
    if isMember sender s then raiseAlarm (heardRaise sender kind action report) s else s
  | _, _ => s

/-- Kind code of ACK (Table 1-6). -/
def ackCode : Nat := 0x46

/-- The record has the key an ACK names (R141). -/
def keyMatches (source kind channel : Nat) (a : AlarmRecord) : Bool :=
  decide (a.source = source ∧ kindCode a.kind = kind ∧ a.channel = channel)

/-- Mark the records that satisfy a test acknowledged (R141). -/
def acknowledge (test : AlarmRecord → Bool) (s : State) : State :=
  { s with alarm.records := s.alarm.records.map (fun a => if test a then { a with acked := true } else a) }

/-- ACK (R141). -/
def ackRequest (head : CommandHead) (all source kind channel : Nat) (s : State) : State :=
  if 1 < all then answerRefused head ackCode .range s
  else if all = 1 then acknowledge (fun _ => true) (answerDone head ackCode s)
  else if s.alarm.records.any (keyMatches source kind channel) then
    acknowledge (keyMatches source kind channel) (answerDone head ackCode s)
  else answerRefused head ackCode .notFound s

/-- The first condition of R143 that fails; `.none` when all five hold. -/
def judgeResume (s : State) : Reason :=
  if s.alarm.records.any (fun a => !a.acked) then .unacked
  else if causePresent s then .causePresent
  else if peerCause s then .peerCause
  else if s.act.state = .tripped then .tripped
  else if shuntRuns s then .busyShunt
  else .none

/-- A record is kept at an accepted RESUME: it names an absent member (Table 8-4). -/
def keptAtResume (s : State) (a : AlarmRecord) : Bool :=
  if a.source = ownStation s then
    decide (a.kind = .peerAction) && !(peerAt a.channel s).present
  else !(peerAt a.source s).present

/-- An accepted RESUME: the records and the latch (R144, steps 1 and 2). The fall of the latch changes nothing at the
actuator unit and the scanner, and reaches the sequencer as the notice of R51 (R135). -/
def lowerLatch (s : State) : State :=
  let kept := s.alarm.records.filter (keptAtResume s)
  { s with
    alarm.records := kept
    alarm.overfull := if kept.length = s.alarm.records.length then s.alarm.overfull else false
    alarm.latch := .none }

/-- Kind code of RESUME (Table 1-6). -/
def resumeCode : Nat := 0x44

/-- RESUME (R143, R144). -/
def resumeRequest (head : CommandHead) (s : State) : State :=
  if judgeResume s = .none then sequencerOnResume (lowerLatch (answerDone head resumeCode s))
  else answerRefused head resumeCode (judgeResume s) s

/-- The 21 bytes of an alarm record (Table 1-9). -/
def recordBytes (a : AlarmRecord) : List Byte :=
  leBytes 1 a.source ++ leBytes 1 (kindCode a.kind) ++ leBytes 1 a.channel ++ leBytes 1 (latchCode a.action) ++
    leBytes 2 a.count ++ leBytes 4 a.firstTag.toNat ++ leBytes 4 a.lastTag.toNat ++ leBytes 2 a.lam ++ leBytes 4 a.step ++
    leBytes 1 (bit a.acked)

/-- The data of QUERY ALARMS (R145, Table 1-9). -/
def alarmsData (start : Nat) (s : State) : List Byte :=
  let returned := (s.alarm.records.drop start).take 2
  leBytes 1 s.alarm.records.length ++ leBytes 1 (bit s.alarm.overfull) ++ leBytes 1 returned.length ++
    returned.flatMap recordBytes

end Sys2Proof.Machine
end

