-- ==== Sys2Proof/Machine/Peer.lean ====
section
/-! DEFINITION. The peer table (chapter 2): filling and ageing of records, the edges and losses it tells of, and
QUERY PEER. -/
namespace Sys2Proof.Machine

open Sys2Proof

/-- Change the record of a frame station. -/
def updatePeer (f : PeerRecord → PeerRecord) (n : Nat) (s : State) : State :=
  if n = 0 then s else { s with peers.records := modifyAt f (n - 1) s.peers.records }

/-- The peer timeout k × P in steps of the age clock (R19). -/
def peerTimeout (s : State) : Nat :=
  ms (s.cfg.peerTimeout * s.line.statusPeriod)

/-- Step 1 of a STATUS: the action edge (R24, R138). -/
def actionEdge (n : Nat) (reported : Latch) (s : State) : State :=
  let rises := decide (latchCode (peerAt n s).lastSeen < latchCode reported)
  let s1 := if isMember n s ∧ rises then raiseOwn .peerAction n reported s else s
  updatePeer (fun p => { p with lastSeen := reported }) n s1

/-- The record as a STATUS refills it (R18, steps 2 and 3). -/
def refilled (report : StatusReport) (heard expiry : Nat) (p : PeerRecord) : PeerRecord :=
  { p with
    present := true
    lastHeard := some heard
    expiry := some expiry
    loadGroup := report.loadGroup
    seqState := report.seqState
    phase := report.phase
    step := report.step
    segment := report.segment
    lam := report.lam
    fMeas := report.fMeas
    actuator := report.actuator
    latch := report.latch
    flags := report.flags
    digest := report.digest }

/-- Step 4 of a STATUS: a lost mark is cleared and its cause gone (R22). -/
def clearLost (n : Nat) (s : State) : State :=
  if (peerAt n s).lost then causeOff (.peerLost n) (updatePeer (fun p => { p with lost := false }) n s) else s

/-- Steps 5 and 6 after news of a member: the flags, then the sequencer (R18, R20, R26, R27). -/
def memberNews (n : Nat) (s : State) : State :=
  if isMember n s then askGate (updatePeerFlags s) else s

/-- A STATUS of another frame station has completed (R18). -/
def takePeerStatus (n : Nat) (report : StatusReport) (s : State) : State :=
  let s1 := actionEdge n report.latch s
  let s2 := updatePeer (refilled report s1.age (s1.age + peerTimeout s1)) n s1
  holderQuiet n (peerFlag report.flags flagShuntActive) (memberNews n (clearLost n s2))

/-- The sequencer is in a state in which a lost member raises PEER_LOST (R21). -/
def loadApplied (s : State) : Bool :=
  match s.seq.state with
  | .run => true
  | .held => true
  | .unloading => true
  | _ => false

/-- PEER_LOST is decided for a member (R21). -/
def decideLost (n : Nat) (s : State) : State :=
  if isMember n s ∧ loadApplied s then
    causeOn (.peerLost n) (raiseOwn .peerLost n .hold (updatePeer (fun p => { p with lost := true }) n s))
  else s

/-- A present record has reached its expiry (R19). -/
def peerExpires (n : Nat) (s : State) : State :=
  let s1 := updatePeer (fun p => { p with present := false, expiry := none }) n s
  let s2 := if isMember n s1 then updatePeerFlags s1 else s1
  let s3 := holderAbsent n (decideLost n s2)
  if isMember n s3 then askGate s3 else s3

/-- The age of a record in milliseconds, 65535 at and above and for one never heard (R28). -/
def recordAge (now : Nat) (p : PeerRecord) : Nat :=
  match p.lastHeard with
  | some t => min (wholeMs (now - t)) 65535
  | none => 65535

/-- The data of QUERY PEER (R28, Table 1-9). -/
def peerData (n : Nat) (s : State) : List Byte :=
  let p := peerAt n s
  leBytes 1 (bit p.present) ++ leBytes 2 (recordAge s.age p) ++ leBytes 1 p.loadGroup ++ leBytes 1 (seqCode p.seqState) ++
    leBytes 1 (phaseCode p.phase) ++ leBytes 4 p.step ++ leBytes 1 p.segment ++ leBytes 2 p.lam ++ leSigned 4 p.fMeas ++
    leBytes 1 (actCode p.actuator) ++ leBytes 1 (latchCode p.latch) ++ leBytes 2 p.flags.toNat ++
    leBytes 2 p.digest.toNat ++ leBytes 1 (latchCode p.lastSeen)

/-- QUERY PEER (R28). -/
def queryPeerRequest (head : CommandHead) (n : Nat) (s : State) : State :=
  if n = 0 ∨ 27 < n then answerRefused head queryCode .range s
  else answer head queryCode .done .none (peerData n s) s

end Sys2Proof.Machine
end

