-- ==== Sys2Proof/Machine/ConsoleCommands.lean ====
section
/-! DEFINITION. The meanings of the console commands (chapter 10), and of the record memory's remaining events. An
immediate command's REPLY is placed before the effects that may bring late replies (R13). -/
namespace Sys2Proof.Machine

open Sys2Proof

/-! ### Owners of the immediate commands -/

/-- Kind code of PROGRAM (Table 1-6). -/
def programCode : Nat := 0x40
/-- Kind code of CLEARPROG (Table 1-6). -/
def clearprogCode : Nat := 0x41
/-- Kind code of RUN (Table 1-6). -/
def runCode : Nat := 0x42
/-- Kind code of HOLD (Table 1-6). -/
def holdCode : Nat := 0x43
/-- Kind code of UNLOAD (Table 1-6). -/
def unloadCode : Nat := 0x45
/-- Kind code of TIMESET (Table 1-6). -/
def timesetCode : Nat := 0x4B

/-- On a change of the own digest the sequencer asks again (R42). -/
def askIfChanged (old : Half) (s : State) : State :=
  if s.seq.digest = old then s else askGate s

/-- PROGRAM at the sequencer (R32, R45). -/
def programRequest (head : CommandHead) (request : SegmentRequest) (s : State) : State :=
  if programOutOfRange request then answerRefused head programCode .range s
  else
    askIfChanged s.seq.digest
      (replaceTable (setAt request.index (some (storedSegment request)) s.seq.table) (answerDone head programCode s))

/-- CLEARPROG at the sequencer (R33). -/
def clearprogRequest (head : CommandHead) (s : State) : State :=
  if s.seq.state = .idle ∨ s.seq.state = .ended then
    replaceTable (List.replicate 32 none) (answerDone head clearprogCode s)
  else answerRefused head clearprogCode .state s

/-- RUN at the sequencer (R36). -/
def runRequest (head : CommandHead) (s : State) : State :=
  if judgeRun s = .none then startRun (answerDone head runCode s)
  else answerRefused head runCode (judgeRun s) s

/-- HOLD at the alarm unit (R142). -/
def holdRequest (head : CommandHead) (s : State) : State :=
  consoleLatch .hold (answerDone head holdCode s)

/-- UNLOAD at the alarm unit (R142). -/
def unloadRequest (head : CommandHead) (s : State) : State :=
  consoleLatch .unload (answerDone head unloadCode s)

/-- TIMESET at the command unit (R168). -/
def timesetRequest (head : CommandHead) (tag : Tag) (s : State) : State :=
  { answerDone head timesetCode s with cmd.timeTag := tag }

/-- QUERY ALARMS at the alarm unit (R145). -/
def queryAlarmsRequest (head : CommandHead) (start : Nat) (s : State) : State :=
  answer head queryCode .done .none (alarmsData start s) s

/-! ### Taking each telegram -/

/-- A class 2 telegram of a kind not in Table 1-6 (R163); a kind of the table is not this command. -/
def unknownKindEvent (head : CommandHead) (kind : Nat) (s : State) : State :=
  if commandLength kind = none then takeCommand head kind id s else s

/-- The PROGRAM telegram. -/
def programEvent (head : CommandHead) (request : SegmentRequest) (s : State) : State :=
  takeCommand head programCode (programRequest head request) s

/-- The CLEARPROG telegram. -/
def clearprogEvent (head : CommandHead) (s : State) : State :=
  takeCommand head clearprogCode (clearprogRequest head) s

/-- The RUN telegram. -/
def runEvent (head : CommandHead) (s : State) : State :=
  takeCommand head runCode (runRequest head) s

/-- The HOLD telegram. -/
def holdEvent (head : CommandHead) (s : State) : State :=
  takeCommand head holdCode (holdRequest head) s

/-- The UNLOAD telegram. -/
def unloadEvent (head : CommandHead) (s : State) : State :=
  takeCommand head unloadCode (unloadRequest head) s

/-- The RESUME telegram; a NO_SETTLE that trips on the return to DWELL ends a command in progress. -/
def resumeEvent (head : CommandHead) (s : State) : State :=
  startCommands (takeCommand head resumeCode (resumeRequest head) s)

/-- The ACK telegram. -/
def ackEvent (head : CommandHead) (all source kind channel : Nat) (s : State) : State :=
  takeCommand head ackCode (ackRequest head all source kind channel) s

/-- The ACCEPT telegram. -/
def acceptEvent (head : CommandHead) (loop : Nat) (s : State) : State :=
  takeCommand head acceptCode (acceptRequest head loop) s

/-- The FETCH telegram. -/
def fetchEvent (head : CommandHead) (which wait : Nat) (s : State) : State :=
  takeCommand head fetchCode (fetchRequest head which wait) s

/-- The FREE telegram. -/
def freeEvent (head : CommandHead) (block : Nat) (s : State) : State :=
  takeCommand head freeCode (freeRequest head block) s

/-- The CUT telegram. -/
def cutEvent (head : CommandHead) (s : State) : State :=
  takeCommand head cutCode (cutRequest head) s

/-- The TIMESET telegram. -/
def timesetEvent (head : CommandHead) (tag : Tag) (s : State) : State :=
  takeCommand head timesetCode (timesetRequest head tag) s

/-- The QUERY telegram with subject CRACK. -/
def queryCrackEvent (head : CommandHead) (loop : Nat) (s : State) : State :=
  takeCommand head queryCode (queryCrackRequest head loop) s

/-- The QUERY telegram with subject ALARMS. -/
def queryAlarmsEvent (head : CommandHead) (start : Nat) (s : State) : State :=
  takeCommand head queryCode (queryAlarmsRequest head start) s

/-- The QUERY telegram with subject STRAIN. -/
def queryStrainEvent (head : CommandHead) (half : Nat) (s : State) : State :=
  takeCommand head queryCode (queryStrainRequest head half) s

/-- The QUERY telegram with subject PEER. -/
def queryPeerEvent (head : CommandHead) (station : Nat) (s : State) : State :=
  takeCommand head queryCode (queryPeerRequest head station) s

/-- The QUERY telegram with any other subject (R167); subjects 1 to 4 are not this command. -/
def queryOtherEvent (head : CommandHead) (subject : Nat) (s : State) : State :=
  if 1 ≤ subject ∧ subject ≤ 4 then s else takeCommand head queryCode (answerRefused head queryCode .range) s

/-! ### The meanings -/

/-- COMMAND_UNKNOWN_KIND (R163). -/
def execCommandUnknownKind (head : CommandHead) (kind : Nat) (s : State) : Host.Outcome State Fault Refusal :=
  .next (unknownKindEvent head kind s)

/-- PROGRAM (R32, R45). -/
def execProgram (head : CommandHead) (request : SegmentRequest) (s : State) : Host.Outcome State Fault Refusal :=
  .next (programEvent head request s)

/-- CLEARPROG (R33). -/
def execClearprog (head : CommandHead) (s : State) : Host.Outcome State Fault Refusal :=
  .next (clearprogEvent head s)

/-- RUN (R36). -/
def execRun (head : CommandHead) (s : State) : Host.Outcome State Fault Refusal :=
  .next (runEvent head s)

/-- HOLD (R142). -/
def execHold (head : CommandHead) (s : State) : Host.Outcome State Fault Refusal :=
  .next (holdEvent head s)

/-- UNLOAD (R142). -/
def execUnload (head : CommandHead) (s : State) : Host.Outcome State Fault Refusal :=
  .next (unloadEvent head s)

/-- RESUME (R143, R144). -/
def execResume (head : CommandHead) (s : State) : Host.Outcome State Fault Refusal :=
  .next (resumeEvent head s)

/-- ACK (R141). -/
def execAck (head : CommandHead) (all source kind channel : Nat) (s : State) : Host.Outcome State Fault Refusal :=
  .next (ackEvent head all source kind channel s)

/-- ACCEPT (R124). -/
def execAccept (head : CommandHead) (loop : Nat) (s : State) : Host.Outcome State Fault Refusal :=
  .next (acceptEvent head loop s)

/-- FETCH (R157). -/
def execFetch (head : CommandHead) (which wait : Nat) (s : State) : Host.Outcome State Fault Refusal :=
  .next (fetchEvent head which wait s)

/-- FREE (R160). -/
def execFree (head : CommandHead) (block : Nat) (s : State) : Host.Outcome State Fault Refusal :=
  .next (freeEvent head block s)

/-- CUT (R161). -/
def execCut (head : CommandHead) (s : State) : Host.Outcome State Fault Refusal :=
  .next (cutEvent head s)

/-- TIMESET (R168). -/
def execTimeset (head : CommandHead) (tag : Tag) (s : State) : Host.Outcome State Fault Refusal :=
  .next (timesetEvent head tag s)

/-- QUERY_CRACK (R125). -/
def execQueryCrack (head : CommandHead) (loop : Nat) (s : State) : Host.Outcome State Fault Refusal :=
  .next (queryCrackEvent head loop s)

/-- QUERY_ALARMS (R145). -/
def execQueryAlarms (head : CommandHead) (start : Nat) (s : State) : Host.Outcome State Fault Refusal :=
  .next (queryAlarmsEvent head start s)

/-- QUERY_STRAIN (R116). -/
def execQueryStrain (head : CommandHead) (half : Nat) (s : State) : Host.Outcome State Fault Refusal :=
  .next (queryStrainEvent head half s)

/-- QUERY_PEER (R28). -/
def execQueryPeer (head : CommandHead) (station : Nat) (s : State) : Host.Outcome State Fault Refusal :=
  .next (queryPeerEvent head station s)

/-- CHARGE (R76, R164, R165). -/
def execCharge (head : CommandHead) (s : State) : Host.Outcome State Fault Refusal :=
  .next (takeQueued head .charge s)

/-- VENT (R78, R164, R165). -/
def execVent (head : CommandHead) (s : State) : Host.Outcome State Fault Refusal :=
  .next (takeQueued head .vent s)

/-- LOCK (R79, R164, R165). -/
def execLock (head : CommandHead) (s : State) : Host.Outcome State Fault Refusal :=
  .next (takeQueued head .lock s)

/-- UNLOCK (R81, R164, R165). -/
def execUnlock (head : CommandHead) (s : State) : Host.Outcome State Fault Refusal :=
  .next (takeQueued head .unlock s)

/-- CLEARTRIP (R87, R164, R165). -/
def execCleartrip (head : CommandHead) (s : State) : Host.Outcome State Fault Refusal :=
  .next (takeQueued head .cleartrip s)

/-- ZERO (R105, R164, R165). -/
def execZero (head : CommandHead) (s : State) : Host.Outcome State Fault Refusal :=
  .next (takeQueued head .zero s)

/-- SHUNT (R110, R164, R165). -/
def execShunt (head : CommandHead) (s : State) : Host.Outcome State Fault Refusal :=
  .next (takeQueued head .shunt s)

/-- QUERY_OTHER_SUBJECT (R167). -/
def execQueryOtherSubject (head : CommandHead) (subject _argument : Nat) (s : State) :
    Host.Outcome State Fault Refusal :=
  .next (queryOtherEvent head subject s)

/-- CAPTURE_END (R156): the scans remaining of a capture that runs reach 0 (log entry 4). -/
def execCaptureEnd (s : State) : Host.Outcome State Fault Refusal :=
  .next (whenRunning (fun s => if s.recs.capture then captureEnds s else s) s)

/-- The request that expires first among those not withheld expires (R158; log entries 2 and 19). While a block is SENDING
only a request whose age has come does: the row may be that of a request which a seal of the same moment has served, and
then nothing expires. -/
def fetchExpiry (s : State) : State :=
  match nextExpiry s with
  | some r =>
    if s.recs.sending.isSome ∧ s.age < r.expiry then s
    else expireRequest r (advanceTo r.expiry s)
  | none => s

/-- FETCH_REQUEST_EXPIRY (R158). -/
def execFetchRequestExpiry (s : State) : Host.Outcome State Fault Refusal :=
  .next (whenRunning fetchExpiry s)

end Sys2Proof.Machine
end

