-- ==== Sys2Proof/Machine/MemberEvents.lean ====
section
/-! DEFINITION. The meanings of the commands that bring news of other frame stations: their telegrams, the expiry of a
peer record and of the pump window (chapters 2, 5, 6 and 8). -/
namespace Sys2Proof.Machine

open Sys2Proof

/-- A telegram of another frame station, taken by a running station (R5, R6; log entry 23). -/
def fromPeer (sender : Nat) (f : State → State) (s : State) : State :=
  if isRunning s ∧ isFrameStation sender ∧ sender ≠ ownStation s then f s else s

/-- A STATUS of another frame station (R18); a DUMP edge ends a command in progress. -/
def statusReceivedEvent (sender : Nat) (report : StatusReport) (s : State) : State :=
  startCommands (fromPeer sender (takePeerStatus sender report) s)

/-- An ALARM of another frame station (R137). -/
def alarmHeardEvent (sender : Nat) (report : AlarmReport) (s : State) : State :=
  startCommands (fromPeer sender (alarmHeard sender report) s)

/-- A CHARGE of another frame station, whatever its purpose (R88). -/
def chargeHeardEvent (sender : Nat) (s : State) : State :=
  fromPeer sender (appendCharge sender) s

/-- A SHUNT_CLAIM of another frame station; one of another group is discarded (R108). -/
def shuntClaimHeardEvent (sender group : Nat) (s : State) : State :=
  fromPeer sender (fun s => if ownGroup group s then claimCompletes sender s else s) s

/-- A SHUNT_DONE of another frame station; one of another group is discarded (R108). -/
def shuntDoneHeardEvent (sender group : Nat) (s : State) : State :=
  fromPeer sender (fun s => if ownGroup group s then doneCompletes sender s else s) s

/-- STATUS_RECEIVED (R18). -/
def execStatusReceived (sender : Nat) (report : StatusReport) (s : State) : Host.Outcome State Fault Refusal :=
  .next (statusReceivedEvent sender report s)

/-- A peer record expires (R19); the record of the own station number is not aged (R17). -/
def recordExpiry (station : Nat) (s : State) : State :=
  if station = ownStation s then s else timerEvent (peerAt station s).expiry (peerExpires station) s

/-- PEER_RECORD_EXPIRY (R19). -/
def execPeerRecordExpiry (station : Nat) (s : State) : Host.Outcome State Fault Refusal :=
  .next (recordExpiry station s)

/-- ALARM_HEARD (R137). -/
def execAlarmHeard (sender : Nat) (report : AlarmReport) (s : State) : Host.Outcome State Fault Refusal :=
  .next (alarmHeardEvent sender report s)

/-- CHARGE_HEARD (R88): whatever its purpose code. -/
def execChargeHeard (sender _purposeCode : Nat) (s : State) : Host.Outcome State Fault Refusal :=
  .next (chargeHeardEvent sender s)

/-- WINDOW_TIMER_EXPIRY (R88, R89). -/
def execWindowTimerExpiry (s : State) : Host.Outcome State Fault Refusal :=
  .next (timerEvent (windowDue s) windowExpires s)

/-- SHUNT_CLAIM_HEARD (R108). -/
def execShuntClaimHeard (sender group : Nat) (s : State) : Host.Outcome State Fault Refusal :=
  .next (shuntClaimHeardEvent sender group s)

/-- SHUNT_DONE_HEARD (R108, R111). -/
def execShuntDoneHeard (sender group : Nat) (s : State) : Host.Outcome State Fault Refusal :=
  .next (shuntDoneHeardEvent sender group s)

end Sys2Proof.Machine
end

