-- ==== Sys2Proof/Machine/Reception.lean ====
section
/-! DEFINITION. What the line unit does with the bytes it has heard: it discards what R4 and R5 discard, and hands the
rest on to its owner (R6). -/
namespace Sys2Proof.Machine

open Sys2Proof

/-- Hand a telegram on to its owner (R6, Table 1-B). Commands that no telegram spells are not handed on. -/
def handOn (c : Instr) (s : State) : State :=
  match c with
  | .statusReceived sender report => statusReceivedEvent sender report s
  | .alarmHeard sender report => alarmHeardEvent sender report s
  | .chargeHeard sender _ => chargeHeardEvent sender s
  | .shuntClaimHeard sender group => shuntClaimHeardEvent sender group s
  | .shuntDoneHeard sender group => shuntDoneHeardEvent sender group s
  | .commandUnknownKind head kind => unknownKindEvent head kind s
  | .program head request => programEvent head request s
  | .clearprog head => clearprogEvent head s
  | .run head => runEvent head s
  | .hold head => holdEvent head s
  | .unload head => unloadEvent head s
  | .resume head => resumeEvent head s
  | .ack head all source kind channel => ackEvent head all source kind channel s
  | .accept head loop => acceptEvent head loop s
  | .fetch head which wait => fetchEvent head which wait s
  | .free head block => freeEvent head block s
  | .cut head => cutEvent head s
  | .timeset head tag => timesetEvent head tag s
  | .queryCrack head loop => queryCrackEvent head loop s
  | .queryAlarms head start => queryAlarmsEvent head start s
  | .queryStrain head half => queryStrainEvent head half s
  | .queryPeer head station => queryPeerEvent head station s
  | .queryOtherSubject head subject _ => queryOtherEvent head subject s
  | .charge head => takeQueued head .charge s
  | .vent head => takeQueued head .vent s
  | .lock head => takeQueued head .lock s
  | .unlock head => takeQueued head .unlock s
  | .cleartrip head => takeQueued head .cleartrip s
  | .zero head => takeQueued head .zero s
  | .shunt head => takeQueued head .shunt s
  | _ => s

/-- The command that bytes heard up to their closing mark hand on: a telegram completes only at its end mark, and what
an abort mark ends is discarded however whole it is (R3 to R5). -/
def heardCommand (heard : HeardTelegram) (s : State) : Option Instr :=
  match heard.mark with
  | .endMark => decodeTelegram (ownStation s) heard.bytes
  | .abortMark => none

/-- A telegram heard as bytes (R3 to R6, log entry 7). -/
def receiveBytes (heard : HeardTelegram) (s : State) : State :=
  match heardCommand heard s with
  | some c => handOn c s
  | none => s

/-- RECEIVED_TELEGRAM_DISCARD (R3 to R5): what an abort mark ends and what R4 or R5 discards changes nothing; a whole
telegram is handed on. -/
def execReceivedTelegramDiscard (heard : HeardTelegram) (s : State) : Host.Outcome State Fault Refusal :=
  .next (receiveBytes heard s)

end Sys2Proof.Machine
end

