-- ==== Sys2Proof/Machine/ScannerEvents.lean ====
section
/-! DEFINITION. The meanings of the strain scanner's commands (chapter 6). The rows for events inside a scan assert,
taken alone, that the count concerned reaches its end (log entry 4). -/
namespace Sys2Proof.Machine

open Sys2Proof

/-- The scan timer expires: it is reloaded and the scan taken (R96). -/
def scanTimerExpires (codes : List Int) (loadCode : Int) (s : State) : State :=
  scanEvent codes loadCode { s with scan.timer := some (s.age + ms s.cfg.scanPeriod) }

/-- The channel counts an exceed run (R100). -/
def countsExceed (c : Nat) (s : State) : Bool :=
  decide ((channelAt c s).state = .ok) && decide (0 < (channelAt c s).exceed)

/-- The ZERO that runs has taken a scan and reaches its end (R107). -/
def endZero (s : State) : State :=
  match s.scan.zero with
  | some z => if 0 < z.count then zeroCompletes z s else s
  | none => s

/-- The span that runs has taken a scan (R112). -/
def spanUnderWay (s : State) : Bool :=
  match s.scan.shunt with
  | .before => decide (1 ≤ s.scan.shuntScans)
  | .onSettle => decide (17 ≤ s.scan.shuntScans)
  | .on => decide (21 ≤ s.scan.shuntScans)
  | _ => false

/-- The last span has taken a scan (R112, R114). -/
def judgementUnderWay (s : State) : Bool :=
  decide (s.scan.shunt = .offSettle) && decide (37 ≤ s.scan.shuntScans)

/-- SCAN (R96). -/
def execScan (codes : List Int) (loadCode : Int) (s : State) : Host.Outcome State Fault Refusal :=
  .next (startCommands (timerEvent s.scan.timer (scanTimerExpires codes loadCode) s))

/-- AVERAGING_RUN_COMPLETE (R98, R99). -/
def execAveragingRunComplete (s : State) : Host.Outcome State Fault Refusal :=
  .next (startCommands (whenRunning (fun s => if 0 < s.scan.runTaken then completeRun s else s) s))

/-- EXCEED_RUN_REACHES_M (R100). -/
def execExceedRunReachesM (channel : Nat) (s : State) : Host.Outcome State Fault Refusal :=
  .next (startCommands (whenRunning (fun s => if countsExceed channel s then exceedReached channel s else s) s))

/-- SETTLE_WINDOW_EXPIRY (R103). -/
def execSettleWindowExpiry (s : State) : Host.Outcome State Fault Refusal :=
  .next (timerEvent s.scan.settleTimer settleWindowEnds s)

/-- ZERO_COMPLETE (R107). -/
def execZeroComplete (s : State) : Host.Outcome State Fault Refusal :=
  .next (startCommands (whenRunning endZero s))

/-- SHUNT_SPAN_END (R112). -/
def execShuntSpanEnd (s : State) : Host.Outcome State Fault Refusal :=
  .next (whenRunning (fun s => if spanUnderWay s then spanEnds s else s) s)

/-- SHUNT_JUDGEMENT (R114). -/
def execShuntJudgement (s : State) : Host.Outcome State Fault Refusal :=
  .next (startCommands (whenRunning (fun s => if judgementUnderWay s then shuntEnds s else s) s))

end Sys2Proof.Machine
end

