-- ==== Sys2Proof/Machine/Servo.lean ====
section
/-! DEFINITION. The force servo (chapter 4): the clear order, the eight stages of a tick, and what the tick hands on. -/
namespace Sys2Proof.Machine

open Sys2Proof

/-! ### Moving the level (section 4.2) -/

/-- Carry out a pending clear order (R57). -/
def carryClear (v : Servo) : Servo :=
  if v.clearOrder then { v with lam := 0, acc := 0, integral := 0, clearOrder := false } else v

/-- The permission of the sequencer to move: target and rate (R53). -/
def permission (s : State) : Option (Nat × Nat) :=
  match s.seq.state, s.seq.phase, s.seq.work with
  | .run, some .ramp, some w => some (w.target, w.rate)
  | .unloading, _, _ => some (0, s.cfg.unloadRate)
  | _, _, _ => none

/-- Stage 2, moving up: the target clamp, then the lead clamp (R59, R60). -/
def clampUp (lam target bound candidate : Nat) : Nat :=
  let c := min candidate target
  if c ≤ bound then c else if lam ≤ bound then bound else lam

/-- Stage 2, moving down: the target clamp, then the lead clamp (R59, R60). -/
def clampDown (lam target : Nat) (bound candidate : Int) : Nat :=
  let c := max candidate (target : Int)
  if bound ≤ c then c.toNat else if bound ≤ (lam : Int) then bound.toNat else lam

/-- Stages 1 and 2 of a moving servo: the new level and accumulator (R58 to R60). A keeps its remainder where neither
clamp replaced the candidate; the lead clamp replaces one beyond its bound also where the replacement is the level held. -/
def moveLevel (lam acc target rate lead floor ceiling : Nat) : Nat × Nat :=
  let steps := (acc + rate) / 1000
  let kept := (acc + rate) % 1000
  if lam < target then
    let bound := floor + lead
    (clampUp lam target bound (lam + steps), if lam + steps ≤ target ∧ lam + steps ≤ bound then kept else 0)
  else
    let candidate : Int := (lam : Int) - steps
    let bound : Int := (ceiling : Int) - lead
    (clampDown lam target bound candidate, if (target : Int) ≤ candidate ∧ bound ≤ candidate then kept else 0)

/-- Stages 1 and 2 (R58 to R60). -/
def rampStage (floor ceiling : Nat) (s : State) : State :=
  match permission s with
  | some (target, rate) =>
    if s.act.state = .live ∧ s.servo.lagging = false then
      let moved := moveLevel s.servo.lam s.servo.acc target rate s.cfg.lead floor ceiling
      { s with servo.lam := moved.1, servo.acc := moved.2 }
    else s
  | none => s

/-! ### Setpoint, measured force, error, PI and output (sections 4.3 to 4.5) -/

/-- The setpoint (R61). -/
def setpoint (fDesign lam : Nat) : Int :=
  ((fDesign * lam / 10000 : Nat) : Int)

/-- The measured force (R62). -/
def measuredForce (code zero : Int) (gain : Nat) : Int :=
  clampTo (-Config.forceMax) Config.forceMax (truncDiv ((code - zero) * gain) 1000)

/-- The clamped error (R63). -/
def clampedError (fSet fMeas : Int) : Int :=
  clampTo (-Config.errorMax) Config.errorMax (fSet - fMeas)

/-- Stages 3 to 5 (R61 to R63). -/
def measureStage (code : Int) (s : State) : State :=
  let fSet := setpoint s.cfg.fDesign s.servo.lam
  let fMeas := measuredForce code s.servo.loadZero s.cfg.gain
  { s with servo.fSet := fSet, servo.fMeas := fMeas, servo.error := clampedError fSet fMeas }

/-- The integral candidate (R64). -/
def integralCandidate (ki : Nat) (integral error : Int) : Int :=
  clampTo (-Config.integralMax) Config.integralMax (integral + ki * error)

/-- The quotient q (R64). -/
def piQuotient (kp ki : Nat) (integral error : Int) : Int :=
  truncDiv (kp * error + integralCandidate ki integral error) 65536

/-- The drive u and the new integral (R64, R65). -/
def piLaw (kp ki : Nat) (integral error : Int) : Int × Int :=
  let q := piQuotient kp ki integral error
  (clampTo (-Config.driveMax) Config.driveMax q,
    if (Config.driveMax < q ∧ 0 < error) ∨ (q < -Config.driveMax ∧ error < 0) then integral
    else integralCandidate ki integral error)

/-- Stages 6 and 7: the PI law where the state passes the drive, else u = 0 and I kept (R64 to R67). -/
def driveStage (s : State) : State :=
  if passesDrive s.act.state then
    let r := piLaw s.cfg.kp s.cfg.ki s.servo.integral s.servo.error
    { s with servo.drive := r.1, servo.integral := r.2, pins.drive := r.1 }
  else { s with servo.drive := 0, pins.drive := 0 }

/-! ### Bands and trips (section 4.6) -/

/-- LAGGING and the LIVE trip band are evaluated: LIVE with the reacquire timer stopped (R68 to R70). -/
def bandsChecked (s : State) : Bool :=
  decide (s.act.state = .live) && s.servo.reacquire.isNone

/-- LAGGING as the tick leaves it (R69). -/
def laggingAfter (s : State) : Bool :=
  bandsChecked s && decide (s.cfg.bTrack < s.servo.error.natAbs)

/-- The trip count as the tick leaves it, before a raise (R70). -/
def tripCountAfter (s : State) : Nat :=
  if (bandsChecked s || decide (s.act.state = .locking)) && decide (s.cfg.bTrip < s.servo.error.natAbs) then
    s.servo.tripCount + 1
  else 0

/-- The over-limit flag as the tick leaves it (R71). -/
def overLimitAfter (s : State) : Bool :=
  decide (s.act.state ≠ .vented) && decide ((s.cfg.fLimit : Int) < s.servo.fMeas)

/-- The trip count has reached T_trip (R70). -/
def tripCountReached (s : State) : State :=
  raiseOwn .trackingLoss 0 .dump { s with servo.tripCount := 0 }

/-- What a change of the over-limit flag tells the alarm unit (R71). -/
def overLimitChanged (was now : Bool) (s : State) : State :=
  match was, now with
  | false, true => causeOn .overLimit (raiseOwn .overload 0 .dump s)
  | true, false => causeOff .overLimit s
  | _, _ => s

/-- A tick that finds the actuator other than LIVE stops the reacquire timer (R68). -/
def stopReacquire (s : State) : State :=
  if s.act.state = .live then s else { s with servo.reacquire := none }

/-- Stage 8: the flags and counts first, from the state taken at the tick, then the raises (R69 to R71). Where one tick
raises both, TRACKING_LOSS is taken before OVERLOAD: section 8.1 allows either order, and this one is the model's
(DESIGN CHOICE, log entry 33). -/
def bandStage (s : State) : State :=
  let was := s.servo.overLimit
  let now := overLimitAfter s
  let count := tripCountAfter s
  let s1 := { s with servo.lagging := laggingAfter s, servo.tripCount := count, servo.overLimit := now }
  let s2 := if 0 < count ∧ s.cfg.tTrip ≤ count then tripCountReached s1 else s1
  overLimitChanged was now s2

/-! ### The tick (R56) -/

/-- The eight stages. The floor and ceiling are those of the λ the servo holds before the tick changes it; a clear
order comes before stage 1 (R56, R57). -/
def servoStages (code : Int) (s : State) : State :=
  let floor := lambdaFloor s
  let ceiling := lambdaCeiling s
  let s1 := stopReacquire { s with servo := carryClear s.servo, pins.loadCode := code }
  bandStage (driveStage (measureStage code (rampStage floor ceiling s1)))

/-- One servo tick (R56), with what it hands on: the first F_lockref of a LOCKED start (R94), λ to the sequencer
(R72), and the acquisition test (R82). -/
def servoTickEvent (code : Int) (s : State) : State :=
  acquisitionTest (sequencerOnLevel (firstLockRef (servoStages code s)))

end Sys2Proof.Machine
end

