-- ==== Sys2Proof/Machine/ServoEvents.lean ====
section
/-! DEFINITION. The meanings of the force servo's and the level sequencer's timed commands (chapters 3 and 4). -/
namespace Sys2Proof.Machine

open Sys2Proof

/-- The servo timer expires: it is reloaded and the tick taken (R56). -/
def servoTimerExpires (code : Int) (s : State) : State :=
  servoTickEvent code { s with servo.timer := some (s.age + ms 1) }

/-- The trip count is kept at this moment: LIVE without the reacquire timer, or LOCKING (R70). -/
def tripCountKept (s : State) : Bool :=
  (bandsChecked s || decide (s.act.state = .locking)) && decide (0 < s.servo.tripCount)

/-- The expiry of a hold or extension timer, if it runs. -/
def runningDue : HoldTimer → Option Nat
  | .running due => some due
  | _ => none

/-- A dwell timer expires; outside DWELL none runs (R39, R40). -/
def dwellExpiry (t : HoldTimer) (f : State → State) (s : State) : State :=
  if inDwell s then timerEvent (runningDue t) f s else s

/-- The mismatch timer expires: PROGRAM_MISMATCH (R43). -/
def mismatchExpires (s : State) : State :=
  raiseOwn .programMismatch 0 .hold { s with seq.mismatch := none }

/-- SERVO_TICK (R56 to R72). -/
def execServoTick (code : Int) (s : State) : Host.Outcome State Fault Refusal :=
  .next (startCommands (timerEvent s.servo.timer (servoTimerExpires code) s))

/-- TRIP_COUNT_REACHED (R70): where a count is kept, it has reached T_trip (log entry 4). -/
def execTripCountReached (s : State) : Host.Outcome State Fault Refusal :=
  .next (startCommands (whenRunning (fun s => if tripCountKept s then tripCountReached s else s) s))

/-- REACQUIRE_TIMER_EXPIRY (R68). -/
def execReacquireTimerExpiry (s : State) : Host.Outcome State Fault Refusal :=
  .next (timerEvent s.servo.reacquire (fun s => { s with servo.reacquire := none }) s)

/-- HOLD_TIMER_EXPIRY (R39). -/
def execHoldTimerExpiry (s : State) : Host.Outcome State Fault Refusal :=
  .next (startCommands (dwellExpiry s.seq.hold judgeSettle s))

/-- EXTENSION_TIMER_EXPIRY (R40). -/
def execExtensionTimerExpiry (s : State) : Host.Outcome State Fault Refusal :=
  .next (startCommands (dwellExpiry s.seq.extension extensionExpired s))

/-- MISMATCH_TIMER_EXPIRY (R43). -/
def execMismatchTimerExpiry (s : State) : Host.Outcome State Fault Refusal :=
  .next (timerEvent s.seq.mismatch mismatchExpires s)

end Sys2Proof.Machine
end

