-- ==== Sys2Proof/Machine/Startup.lean ====
section
/-! DEFINITION. The start-up loader (chapter 11): the configuration image and its verification, the distribution of the
settings, CONFIG_FAULT, and the states in which power rises or the reset pin is held. -/
namespace Sys2Proof.Machine

open Sys2Proof

/-! ### The image (section 11.5) -/

/-- The length of the image (Table 11-1). -/
def imageLength : Nat := 411

/-- An unsigned field of the image. -/
def imageNat (image : List Byte) (offset width : Nat) : Nat :=
  leNat (fieldAt image offset width)

/-- A signed field of the image. -/
def imageInt (image : List Byte) (offset width : Nat) : Int :=
  leInt (fieldAt image offset width)

/-- A Nat field lies in its range. -/
def inRange (lo hi v : Nat) : Bool :=
  decide (lo ≤ v ∧ v ≤ hi)

/-- A strain field lies within ±320000 tµε (Table 11-2). -/
def strainInRange (v : Int) : Bool :=
  decide (-Config.strainMax ≤ v ∧ v ≤ Config.strainMax)

/-- An action field; `.none` for a code of no action, which fails verification. -/
def imageAction (image : List Byte) (offset : Nat) : Latch :=
  (actionOfCode (imageNat image offset 1)).getD .none

/-- The offset of a channel entry (Table 11-1). -/
def channelOffset (c : Nat) : Nat :=
  65 + 18 * c

/-- The offset of a loop entry (Table 11-1). -/
def loopOffset (l : Nat) : Nat :=
  353 + 4 * l

/-- The offset of an AE entry (Table 11-1). -/
def aeOffset (i : Nat) : Nat :=
  385 + 6 * i

/-- A channel entry as read (Table 11-2). -/
def channelEntry (image : List Byte) (c : Nat) : ChannelCfg where
  enable := (imageNat image (channelOffset c) 1).testBit 0
  settleChecked := (imageNat image (channelOffset c) 1).testBit 1
  action := imageAction image (channelOffset c + 1)
  exceedCount := imageNat image (channelOffset c + 2) 1
  scale := imageNat image (channelOffset c + 3) 3
  zero := imageInt image (channelOffset c + 6) 3
  high := imageInt image (channelOffset c + 9) 3
  low := imageInt image (channelOffset c + 12) 3
  shuntStep := imageInt image (channelOffset c + 15) 3

/-- A loop entry as read (Table 11-3). -/
def loopEntry (image : List Byte) (l : Nat) : LoopCfg where
  enable := decide (imageNat image (loopOffset l) 1 = 1)
  action := imageAction image (loopOffset l + 1)
  debounce := imageNat image (loopOffset l + 2) 2

/-- An AE entry as read (Table 11-3). -/
def aeEntry (image : List Byte) (i : Nat) : AeCfg where
  deadTime := imageNat image (aeOffset i) 1
  window := imageNat image (aeOffset i + 1) 2
  nElev := imageNat image (aeOffset i + 3) 1
  nBurst := imageNat image (aeOffset i + 4) 1
  action := imageAction image (aeOffset i + 5)

/-- The settings of an image (Tables 11-1 to 11-3). -/
def settingsOf (image : List Byte) : Settings where
  peerTimeout := imageNat image 3 1
  memberSet := BitVec.ofNat 32 (imageNat image 5 4)
  fDesign := imageNat image 9 4
  fLimit := imageNat image 13 4
  loadZero := imageInt image 17 3
  gain := imageNat image 20 3
  kp := imageNat image 23 2
  ki := imageNat image 25 2
  bTrack := imageNat image 27 3
  bTrip := imageNat image 30 3
  tTrip := imageNat image 33 2
  lead := imageNat image 35 2
  unloadRate := imageNat image 37 2
  tChg := imageNat image 39 2
  tLock := imageNat image 41 2
  tAcq := imageNat image 43 2
  wPump := imageNat image 45 2
  lockInterval := imageNat image 47 2
  lockBand := imageNat image 49 3
  driftAction := imageAction image 52
  noSettleAction := imageAction image 53
  scanPeriod := imageNat image 54 2
  dBase := imageNat image 56 1
  blockPages := imageNat image 57 1
  captureLength := imageNat image 58 2
  excitation := imageNat image 60 1
  settleWindow := imageNat image 61 2
  driftLimit := imageNat image 63 2
  channels := (List.range 16).map (channelEntry image)
  loops := (List.range 8).map (loopEntry image)
  aeInputs := (List.range 4).map (aeEntry image)

/-- The bit rate field (Table 11-1). -/
def imageBitRate (image : List Byte) : Nat := imageNat image 1 1
/-- The status period field (Table 11-1). -/
def imageStatusPeriod (image : List Byte) : Nat := imageNat image 2 1
/-- The load group field (Table 11-1). -/
def imageLoadGroup (image : List Byte) : Nat := imageNat image 4 1

/-! ### Checks and verification (R170, R171) -/

/-- The image was read whole and its check passes (R170, steps 3 and 4). -/
def checkPasses (image : List Byte) : Bool :=
  decide (image.length = imageLength) && decide ((crc16 (image.take 409)).toNat = imageNat image 409 2)

/-- The action field of an offset holds an action, 1 to 4. -/
def actionInRange (image : List Byte) (offset : Nat) : Bool :=
  inRange 1 4 (imageNat image offset 1)

/-- A channel entry passes (Table 11-2, R171). -/
def channelVerifies (image : List Byte) (c : Nat) : Bool :=
  let e := channelEntry image c
  inRange 0 3 (imageNat image (channelOffset c) 1) && actionInRange image (channelOffset c + 1) &&
    inRange 1 255 e.exceedCount && inRange 1 4194303 e.scale && strainInRange e.high && strainInRange e.low &&
    decide (e.low < e.high) && strainInRange e.shuntStep

/-- A loop entry passes (Table 11-3). -/
def loopVerifies (image : List Byte) (l : Nat) : Bool :=
  inRange 0 1 (imageNat image (loopOffset l) 1) && actionInRange image (loopOffset l + 1) &&
    inRange 10 1000 (loopEntry image l).debounce

/-- An AE entry passes (Table 11-3, R171). -/
def aeVerifies (image : List Byte) (i : Nat) : Bool :=
  let e := aeEntry image i
  inRange 1 100 e.deadTime && inRange 10 10000 e.window && inRange 1 31 e.nElev && inRange 2 32 e.nBurst &&
    decide (e.nElev < e.nBurst) && actionInRange image (aeOffset i + 5)

/-- The number of stations in a member set. -/
def memberCount (set : BitVec 32) : Nat :=
  (List.range 32).countP (fun n => set.getLsbD n)

/-- The member set passes for a strap number (R171). -/
def membersVerify (straps : Nat) (set : BitVec 32) : Bool :=
  (List.range 32).all (fun n => !set.getLsbD n || isFrameStation n) && set.getLsbD straps &&
    inRange 2 27 (memberCount set)

/-- The decimation factor field holds one of its values (Table 11-1). -/
def decimationInRange (d : Nat) : Bool :=
  [1, 2, 4, 8, 16, 32, 64].contains d

/-- The fields of the line unit, the peer table and the servo pass (Table 11-1, R171). -/
def drivesVerify (image : List Byte) : Bool :=
  let c := settingsOf image
  decide (imageNat image 0 1 = 1) && inRange 0 2 (imageBitRate image) && inRange 10 200 (imageStatusPeriod image) &&
    inRange 3 10 c.peerTimeout && inRange 1 4 (imageLoadGroup image) && inRange 1000 8000000 c.fDesign &&
    inRange c.fDesign 16000000 c.fLimit && inRange 1 1000000 c.gain && inRange 1 1000000 c.bTrack &&
    inRange (c.bTrack + 1) 8388607 c.bTrip && inRange 1 1000 c.tTrip && inRange 5 500 c.lead &&
    inRange 1 2000 c.unloadRate

/-- The fields of the actuator unit, the scanner and the record memory pass (Table 11-1). -/
def unitsVerify (image : List Byte) : Bool :=
  let c := settingsOf image
  inRange 500 5000 c.tChg && inRange 100 10000 c.tLock && inRange 50 5000 c.tAcq && inRange 1000 10000 c.wPump &&
    inRange 1 600 c.lockInterval && inRange 1 1000000 c.lockBand && actionInRange image 52 && actionInRange image 53 &&
    inRange 5 1000 c.scanPeriod && decimationInRange c.dBase && inRange 1 8 c.blockPages &&
    inRange 0 4000 c.captureLength && inRange 0 8 c.excitation && inRange 1 600 c.settleWindow

/-- Every field and combination passes for a valid strap number (R171). -/
def imageVerifies (straps : Nat) (image : List Byte) : Bool :=
  drivesVerify image && unitsVerify image && membersVerify straps (settingsOf image).memberSet &&
    (List.range 16).all (channelVerifies image) && (List.range 8).all (loopVerifies image) &&
    (List.range 4).all (aeVerifies image)

/-- None of the four faults has occurred (R170). -/
def noFault (straps : Nat) (image : List Byte) : Bool :=
  isFrameStation straps && checkPasses image && imageVerifies straps image

/-! ### Distribution (R172) -/

/-- The line unit begins: rate, period, load group, status timer and the first STATUS (R15). -/
def beginLine (image : List Byte) (s : State) : State :=
  { s with
    line.bitRate := imageBitRate image
    line.statusPeriod := imageStatusPeriod image
    line.loadGroup := imageLoadGroup image
    line.statusTimer := some (s.age + ms (imageStatusPeriod image))
    line.statusSlot := .waiting }

/-- A channel at the start of the scanner's work (R95, R117). -/
def startChannel (cfg : ChannelCfg) : Channel :=
  { Channel.reset with state := if cfg.enable then .ok else .disabled, zero := cfg.zero }

/-- The servo, the scanner and the monitor take their settings and start their timers (R73, R117, R130). D is read as
D_base, before an ESTOP found active is raised and orders a capture: R117, R154 and R172 give no order of the two
(DESIGN CHOICE, log entry 34). -/
def beginUnits (s : State) : State :=
  { s with
    servo.loadZero := s.cfg.loadZero
    servo.timer := some (s.age + ms 1)
    scan.channels := s.cfg.channels.map startChannel
    scan.runLength := s.cfg.dBase
    scan.timer := some (s.age + ms s.cfg.scanPeriod)
    crack.timer := some (s.age + ms 10) }

/-- ESTOP found active is raised (R94). -/
def startEstop (s : State) : State :=
  if s.pins.estop then raiseEstop s else s

/-- The settings are distributed in one event, and the station runs (R172). The blocks begin, and the scanner reads D,
before the raises of the event (DESIGN CHOICE, log entry 34); ESTOP is raised before the loops are read (log entry 25). -/
def distribute (loops : List LoopReading) (s : State) : State :=
  let s1 := { s with loader.phase := .running, cfg := settingsOf s.loader.image }
  let s2 := beginUnits (beginLine s.loader.image s1)
  startReadLoops 0 (loops.take 8) (startEstop { s2 with pins.loopReadings := loops.take 8 })

/-! ### CONFIG_FAULT (R173) -/

/-- A field of the image counts: the check passed and it is in range (R15, R173). -/
def fieldOr (image : List Byte) (lo hi default v : Nat) : Nat :=
  if checkPasses image && inRange lo hi v then v else default

/-- The station enters CONFIG_FAULT; with valid straps its status timer starts (R15, R173; log entry 14). -/
def enterConfigFault (s : State) : State :=
  let image := s.loader.image
  let period := fieldOr image 10 200 50 (imageStatusPeriod image)
  { s with
    loader.phase := .configFault
    line.bitRate := fieldOr image 0 2 0 (imageBitRate image)
    line.statusPeriod := period
    line.loadGroup := fieldOr image 1 4 0 (imageLoadGroup image)
    line.statusTimer := if isFrameStation s.loader.straps then some (s.age + ms period) else none }

/-- The loader has read straps and image (R170): the settings are distributed, or CONFIG_FAULT is entered. -/
def readingEnds (straps : Nat) (image : List Byte) (loops : List LoopReading) (s : State) : State :=
  let s1 := { s with loader.straps := straps, loader.image := image }
  if noFault straps image then distribute loops s1 else enterConfigFault s1

/-! ### Power and the reset pin (R170) -/

/-- The station as the pin holds it: no event is taken, outputs safe; what it held is abandoned (R170). -/
def holdPin (s : State) : State :=
  let levels : StartLevels := { pressOk := s.pins.pressOk, lockEngaged := s.pins.lockEngaged, estop := s.pins.estop }
  let fresh := State.start .pin levels s.pending
  { fresh with
    loader.phase := .held
    pins.iso := false
    pins.dump := false
    pins.lockCmd := false }

end Sys2Proof.Machine
end

