-- ==== Sys2Proof/Machine/StartEvents.lean ====
section
/-! DEFINITION. The meanings of the start commands: POWER_UP, RESET_PIN_ASSERT, RESET_PIN_RELEASE, READING_END
(chapter 11). -/
namespace Sys2Proof.Machine

open Sys2Proof

/-- POWER_UP (R170): a start with cause POWER, the age clock from 0. -/
def execPowerUp (levels : StartLevels) (s : State) : Host.Outcome State Fault Refusal :=
  .next (State.start .power levels s.pending)

/-- RESET_PIN_ASSERT (R170): the start or the running state is abandoned, the outputs stand safe. -/
def execResetPinAssert (s : State) : Host.Outcome State Fault Refusal :=
  .next (holdPin s)

/-- RESET_PIN_RELEASE (R170): a start with cause PIN follows an asserted pin. -/
def execResetPinRelease (levels : StartLevels) (s : State) : Host.Outcome State Fault Refusal :=
  .next (if s.loader.phase = .held then State.start .pin levels s.pending else s)

/-- READING_END (R170 to R173): the loader has read straps and image. -/
def execReadingEnd (straps : Nat) (image : List Byte) (loops : List LoopReading) (s : State) :
    Host.Outcome State Fault Refusal :=
  .next (if s.loader.phase = .reading then readingEnds straps image loops s else s)

end Sys2Proof.Machine
end

