-- ==== Sys2Proof/Machine/Clock.lean ====
section
/-! DEFINITION. The age clock while no command waits (section 4.5 of the introduction): one step of 0.1 ms, which puts
the expiries that fall due into the queue (log entries 1 to 3). -/
namespace Sys2Proof.Machine

open Sys2Proof

/-- A running timer has reached its moment. -/
def isDue (now : Nat) (due : Option Nat) : Bool :=
  match due with
  | some t => decide (t ≤ now)
  | none => false

/-- A command, where its timer is due. -/
def ifDue (now : Nat) (due : Option Nat) (c : Instr) : List Instr :=
  if isDue now due then [c] else []

/-- The expiries of the line unit and the peer table that are due. -/
def dueLine (s : State) : List Instr :=
  ifDue s.age s.line.statusTimer .statusTimerExpiry ++
    ((List.range 28).filter (fun n => n != ownStation s && isDue s.age (peerAt n s).expiry)).map Instr.peerRecordExpiry ++
    ifDue s.age (windowDue s) .windowTimerExpiry

/-- The expiries of the servo, the sequencer and the actuator unit that are due; a tick takes the latest code. -/
def dueDrive (s : State) : List Instr :=
  ifDue s.age s.servo.timer (.servoTick s.pins.loadCode) ++
    ifDue s.age s.servo.reacquire .reacquireTimerExpiry ++
    ifDue s.age (runningDue s.seq.hold) .holdTimerExpiry ++
    ifDue s.age (runningDue s.seq.extension) .extensionTimerExpiry ++
    ifDue s.age s.seq.mismatch .mismatchTimerExpiry ++
    ifDue s.age s.act.chargeTimer .chargeTimerExpiry ++
    ifDue s.age s.act.lockTimer .lockTimerExpiry ++
    ifDue s.age s.act.acquisition .acquisitionTimerExpiry ++
    ifDue s.age s.act.deadline .unlockDeadlineExpiry ++
    ifDue s.age s.act.lockCheck .lockCheckTimerExpiry

/-- The expiries of the scanner, the crack monitor and the record memory that are due; scans take the latest codes and
readings. -/
def dueMeasure (s : State) : List Instr :=
  ifDue s.age s.scan.timer (.scan s.pins.bridgeCodes s.pins.loadCode) ++
    ifDue s.age s.scan.settleTimer .settleWindowExpiry ++
    ifDue s.age s.crack.timer (.loopScan s.pins.loopReadings) ++
    ((List.range 4).filter (fun i => isDue s.age (aeAt i s).dead)).map Instr.deadTimeExpiry ++
    (s.recs.fetchQ.filter (fun r => !withheld s r && decide (r.expiry ≤ s.age))).map (fun _ => Instr.fetchRequestExpiry)

/-- The expiries that are due. -/
def dueExpiries (s : State) : List Instr :=
  dueLine s ++ dueDrive s ++ dueMeasure s

/-- One step of the age clock. While the pin is held no time is counted (R170). -/
def tick (s : State) : State :=
  if takesEvents s then
    let s1 := advanceTo (s.age + 1) s
    { s1 with pending := s1.pending ++ dueExpiries s1 }
  else s

end Sys2Proof.Machine
end

