-- ==== Sys2Proof/Machine/Dispatch.lean ====
section
/-! DEFINITION. One arm per command: its meaning. -/
namespace Sys2Proof.Machine

open Sys2Proof

def exec (i : Instr) (s : State) : Host.Outcome State Fault Refusal :=
  match i with
  | .powerUp levels => Sys2Proof.Machine.execPowerUp levels s
  | .resetPinAssert => Sys2Proof.Machine.execResetPinAssert s
  | .resetPinRelease levels => Sys2Proof.Machine.execResetPinRelease levels s
  | .readingEnd straps image loops => Sys2Proof.Machine.execReadingEnd straps image loops s
  | .arbitrationOpportunity => Sys2Proof.Machine.execArbitrationOpportunity s
  | .arbitrationLoss => Sys2Proof.Machine.execArbitrationLoss s
  | .telegramAbandon => Sys2Proof.Machine.execTelegramAbandon s
  | .receivedTelegramDiscard heard => Sys2Proof.Machine.execReceivedTelegramDiscard heard s
  | .statusTimerExpiry => Sys2Proof.Machine.execStatusTimerExpiry s
  | .statusOwnCompletion => Sys2Proof.Machine.execStatusOwnCompletion s
  | .alarmOwnCompletion => Sys2Proof.Machine.execAlarmOwnCompletion s
  | .replyOwnCompletion => Sys2Proof.Machine.execReplyOwnCompletion s
  | .dataOwnCompletion => Sys2Proof.Machine.execDataOwnCompletion s
  | .statusReceived sender report => Sys2Proof.Machine.execStatusReceived sender report s
  | .peerRecordExpiry station => Sys2Proof.Machine.execPeerRecordExpiry station s
  | .alarmHeard sender report => Sys2Proof.Machine.execAlarmHeard sender report s
  | .chargeHeard sender purposeCode => Sys2Proof.Machine.execChargeHeard sender purposeCode s
  | .chargeOwnCompletion => Sys2Proof.Machine.execChargeOwnCompletion s
  | .windowTimerExpiry => Sys2Proof.Machine.execWindowTimerExpiry s
  | .shuntClaimHeard sender group => Sys2Proof.Machine.execShuntClaimHeard sender group s
  | .shuntDoneHeard sender group => Sys2Proof.Machine.execShuntDoneHeard sender group s
  | .shuntClaimOwnCompletion => Sys2Proof.Machine.execShuntClaimOwnCompletion s
  | .shuntDoneOwnCompletion => Sys2Proof.Machine.execShuntDoneOwnCompletion s
  | .servoTick code => Sys2Proof.Machine.execServoTick code s
  | .tripCountReached => Sys2Proof.Machine.execTripCountReached s
  | .reacquireTimerExpiry => Sys2Proof.Machine.execReacquireTimerExpiry s
  | .holdTimerExpiry => Sys2Proof.Machine.execHoldTimerExpiry s
  | .extensionTimerExpiry => Sys2Proof.Machine.execExtensionTimerExpiry s
  | .mismatchTimerExpiry => Sys2Proof.Machine.execMismatchTimerExpiry s
  | .pressOkChange level => Sys2Proof.Machine.execPressOkChange level s
  | .lockEngagedChange level => Sys2Proof.Machine.execLockEngagedChange level s
  | .estopActive => Sys2Proof.Machine.execEstopActive s
  | .estopInactive => Sys2Proof.Machine.execEstopInactive s
  | .chargeTimerExpiry => Sys2Proof.Machine.execChargeTimerExpiry s
  | .lockTimerExpiry => Sys2Proof.Machine.execLockTimerExpiry s
  | .acquisitionTimerExpiry => Sys2Proof.Machine.execAcquisitionTimerExpiry s
  | .unlockDeadlineExpiry => Sys2Proof.Machine.execUnlockDeadlineExpiry s
  | .lockCheckTimerExpiry => Sys2Proof.Machine.execLockCheckTimerExpiry s
  | .scan codes loadCode => Sys2Proof.Machine.execScan codes loadCode s
  | .averagingRunComplete => Sys2Proof.Machine.execAveragingRunComplete s
  | .exceedRunReachesM channel => Sys2Proof.Machine.execExceedRunReachesM channel s
  | .settleWindowExpiry => Sys2Proof.Machine.execSettleWindowExpiry s
  | .zeroComplete => Sys2Proof.Machine.execZeroComplete s
  | .shuntSpanEnd => Sys2Proof.Machine.execShuntSpanEnd s
  | .shuntJudgement => Sys2Proof.Machine.execShuntJudgement s
  | .loopScan readings => Sys2Proof.Machine.execLoopScan readings s
  | .loopReadingTaken loop => Sys2Proof.Machine.execLoopReadingTaken loop s
  | .aeHit input => Sys2Proof.Machine.execAeHit input s
  | .deadTimeExpiry input => Sys2Proof.Machine.execDeadTimeExpiry input s
  | .captureEnd => Sys2Proof.Machine.execCaptureEnd s
  | .fetchRequestExpiry => Sys2Proof.Machine.execFetchRequestExpiry s
  | .commandUnknownKind head kindCode => Sys2Proof.Machine.execCommandUnknownKind head kindCode s
  | .program head request => Sys2Proof.Machine.execProgram head request s
  | .clearprog head => Sys2Proof.Machine.execClearprog head s
  | .run head => Sys2Proof.Machine.execRun head s
  | .hold head => Sys2Proof.Machine.execHold head s
  | .unload head => Sys2Proof.Machine.execUnload head s
  | .resume head => Sys2Proof.Machine.execResume head s
  | .ack head all source kindCode channel => Sys2Proof.Machine.execAck head all source kindCode channel s
  | .accept head loop => Sys2Proof.Machine.execAccept head loop s
  | .fetch head which wait => Sys2Proof.Machine.execFetch head which wait s
  | .free head block => Sys2Proof.Machine.execFree head block s
  | .cut head => Sys2Proof.Machine.execCut head s
  | .timeset head tag => Sys2Proof.Machine.execTimeset head tag s
  | .queryCrack head loop => Sys2Proof.Machine.execQueryCrack head loop s
  | .queryAlarms head start => Sys2Proof.Machine.execQueryAlarms head start s
  | .queryStrain head half => Sys2Proof.Machine.execQueryStrain head half s
  | .queryPeer head station => Sys2Proof.Machine.execQueryPeer head station s
  | .charge head => Sys2Proof.Machine.execCharge head s
  | .vent head => Sys2Proof.Machine.execVent head s
  | .lock head => Sys2Proof.Machine.execLock head s
  | .unlock head => Sys2Proof.Machine.execUnlock head s
  | .cleartrip head => Sys2Proof.Machine.execCleartrip head s
  | .zero head => Sys2Proof.Machine.execZero head s
  | .shunt head => Sys2Proof.Machine.execShunt head s
  | .queryOtherSubject head subject argument => Sys2Proof.Machine.execQueryOtherSubject head subject argument s

end Sys2Proof.Machine
end

