-- ==== Sys2Proof/Safety.lean ====
section
/-! DEFINITION. What every state of a run satisfies: bounds, exclusions and agreements between fields that the manual
states, gathered block by block. Statements about every step rest on these. -/
namespace Sys2Proof.Machine

open Sys2Proof

/-- λ and every target lie from 0 to 10000 (R31, R32, R59). -/
def LevelBounded (s : State) : Prop :=
  s.servo.lam ≤ 10000 ∧ (∀ w ∈ s.seq.work, w.target ≤ 10000) ∧
    ∀ e ∈ s.seq.table, ∀ g ∈ e, g.target ≤ 10000

/-- The integral and the drive stay in their bounds, and the drive output is 0 in a state without drive (R64 to R67). -/
def DriveBounded (s : State) : Prop :=
  (-Config.integralMax ≤ s.servo.integral ∧ s.servo.integral ≤ Config.integralMax) ∧
    (-Config.driveMax ≤ s.servo.drive ∧ s.servo.drive ≤ Config.driveMax) ∧
    (-Config.driveMax ≤ s.pins.drive ∧ s.pins.drive ≤ Config.driveMax) ∧
    (passesDrive s.act.state = false → s.pins.drive = 0)

/-- The three valve and nut lines: ISO, DUMP, LOCK_CMD. -/
def valveLines (s : State) : Bool × Bool × Bool :=
  (s.pins.iso, s.pins.dump, s.pins.lockCmd)

/-- The lines Table 5-4 gives for the state, the purpose of a wait and the unlock sub-phase. -/
def tableLines (s : State) : Option (Bool × Bool × Bool) :=
  match s.act.state with
  | .vented => some (false, true, false)
  | .waitWindow =>
    match s.act.purpose with
    | some .charge => some (false, true, false)
    | some .unlock => some (false, false, true)
    | none => none
  | .charging => some (true, false, false)
  | .live => some (true, false, false)
  | .locking => some (true, false, true)
  | .locked => some (false, false, true)
  | .unlockCharge => some (true, false, !s.act.releasing)
  | .tripped => some (false, true, false)

/-- The lines follow Table 5-4, or stand safe while the pin is held (R74, R170). -/
def LinesFollow (s : State) : Prop :=
  if s.loader.phase = .held then valveLines s = (false, false, false) else tableLines s = some (valveLines s)

/-- While ESTOP is active the actuator is TRIPPED or LOCKED (R85). -/
def EstopHeld (s : State) : Prop :=
  s.loader.phase ≠ .held → s.pins.estop = true → s.act.state = .tripped ∨ s.act.state = .locked

/-- RUN and UNLOADING stand only with the actuator LIVE (R50). -/
def RunNeedsLive (s : State) : Prop :=
  s.seq.state = .run ∨ s.seq.state = .unloading → s.act.state = .live

/-- With a latch of HOLD or above the sequencer is not in RUN (R46 to R49). -/
def LatchHolds (s : State) : Prop :=
  latchAtLeast s.alarm.latch .hold = true → s.seq.state ≠ .run

/-- A timer of a dwell runs. -/
def timerRuns : HoldTimer → Bool
  | .running _ => true
  | _ => false

/-- The hold and extension timers run only in DWELL, the mismatch timer only in DONE (R38 to R43, R46). -/
def DwellTimers (s : State) : Prop :=
  (timerRuns s.seq.hold = true ∨ timerRuns s.seq.extension = true → inDwell s = true) ∧
    (s.seq.mismatch.isSome = true → s.seq.state = .run ∧ s.seq.phase = some .done)

/-- SETTLED is clear and the settle window stopped outside DWELL (R104). -/
def SettleInDwell (s : State) : Prop :=
  s.scan.settled = true ∨ s.scan.settleTimer.isSome = true → inDwell s = true

/-- Two alarm records have one key (R132). -/
def keyOf (a : AlarmRecord) : Nat × AlarmKind × Nat :=
  (a.source, a.kind, a.channel)

/-- At most 24 records, no two with the same key (R132); no cause is entered twice (R140). -/
def AlarmListOk (s : State) : Prop :=
  s.alarm.records.length ≤ Config.alarmListSize ∧ (s.alarm.records.map keyOf).Nodup ∧ s.alarm.causes.Nodup

/-- No queue or list is longer than its capacity (R7, R88, R127, R157, R164). -/
def QueuesBounded (s : State) : Prop :=
  s.line.alarmQ.length ≤ Config.alarmQueueSize ∧ s.line.replyQ.length ≤ Config.replyQueueSize ∧
    s.line.dataQ.length ≤ Config.dataQueueSize ∧ s.act.chargeList.length ≤ Config.chargeListSize ∧
    s.recs.fetchQ.length ≤ Config.fetchQueueSize ∧ s.cmd.queue.length ≤ Config.commandQueueSize ∧
    ∀ i ∈ s.crack.inputs, i.hits.length ≤ Config.hitListSize

/-- A command waits only while one is in progress (R165), and none of either before the station runs (R169). -/
def CommandsFlow (s : State) : Prop :=
  (s.cmd.current = none → s.cmd.queue = []) ∧ (s.loader.phase ≠ .running → s.cmd.current = none)

/-- The STATUS slot is taken exactly while a STATUS is on offer or in transmission (R9), and a station that does not
send has nothing on offer (R15). -/
def TakeMatches (s : State) : Prop :=
  statusTaken s = onOffer .status s ∧ (lineSends s = false → s.line.tx = none)

/-- The SHUNT slot holds no claim of a shunt that runs: it is empty, holds a SHUNT_DONE, or holds a claim in
transmission that a SHUNT_DONE waits behind (R7, R115). -/
def slotLeftOver (s : State) : Bool :=
  match s.line.shuntSlot with
  | none => !s.line.shuntDoneBehind
  | some t => t.isDone != s.line.shuntDoneBehind

/-- The SHUNT slot is empty and nothing waits for it. -/
def slotClear (s : State) : Bool :=
  s.line.shuntSlot.isNone && !s.line.shuntDoneBehind && !s.scan.claimHeld

/-- The slot by the shunt state (R110, R111, R114, R115). -/
def slotMatches (s : State) : Bool :=
  match s.scan.shunt with
  | .none => slotLeftOver s && !s.scan.claimHeld
  | .claiming =>
    if s.scan.claimHeld then slotLeftOver s && s.line.shuntSlot.isSome
    else s.line.shuntSlot == some { isDone := false, group := s.cfg.excitation } && !s.line.shuntDoneBehind
  | _ => slotClear s

/-- The shunt state, SHUNT_ACTIVE, the switches, the slot and the claim holder agree (Table 6-3, R110 to R115). -/
def ShuntGuarded (s : State) : Prop :=
  s.scan.shuntActive = shuntStateActive s.scan.shunt ∧
    (s.scan.shunt ≠ .none → s.cmd.current.map (fun q => q.kind) = some .shunt) ∧
    (s.pins.shunts ≠ 0 → s.scan.shunt = .onSettle ∨ s.scan.shunt = .on) ∧
    (shuntStateActive s.scan.shunt = true → s.cfg.excitation = 0 ∨ isHolder (ownStation s) s = true) ∧
    slotMatches s = true ∧
    (s.line.shuntDoneBehind = true → inTransmission .shunt s = true) ∧
    (s.cfg.excitation = 0 → s.line.shuntSlot = none ∧ s.scan.shunt ≠ .claiming ∧ s.scan.shunt ≠ .waiting) ∧
    (s.loader.phase ≠ .running →
      s.scan.shunt = .none ∧ s.scan.holder = none ∧ s.line.shuntSlot = none ∧ s.cmd.queue = [])

/-- The record pool is in canonical form (R147, log entry 13). -/
def PoolCanonical (s : State) : Prop :=
  Memory.wf s.recs.pool = true

/-- The pages and entries of the record memory add up (R147). -/
def PagesAddUp (s : State) : Prop :=
  s.recs.table.length = 64 ∧
    (∀ e ∈ s.recs.table, e.pages.length = if e.state = .free then 0 else s.cfg.blockPages) ∧
    (heldPages s).Nodup ∧ (∀ p ∈ heldPages s, p < Config.poolPages) ∧
    s.recs.freePages + (heldPages s).length = Config.poolPages ∧
    s.recs.table.countP (fun e => decide (e.state = .filling)) ≤ 1 ∧
    (s.loader.phase ≠ .running → ∀ e ∈ s.recs.table, e.state = .free)

/-- The sealed queue holds the SEALED blocks, each once, and the sending names the one SENDING block (R151, R159). -/
def BlocksMatch (s : State) : Prop :=
  s.recs.sealedQ.Nodup ∧
    (∀ n < 64, n ∈ s.recs.sealedQ ↔ (blockAt n s).state = .sealed) ∧ (∀ n ∈ s.recs.sealedQ, n < 64) ∧
    (∀ n < 64, (s.recs.sending.map (fun d => d.block)) = some n ↔ (blockAt n s).state = .sending) ∧
    (∀ d ∈ s.recs.sending, d.block < 64) ∧
    s.recs.table.length = 64 ∧ s.recs.table.countP (fun e => decide (e.state = .filling)) ≤ 1

/-- A filled crack table entry belongs to a loop past INTACT, and no loop is sensed before the station runs (R123,
R130). -/
def CrackKept (s : State) : Prop :=
  (∀ l < 8, (s.crack.entries.getD l none).isSome = true →
      (loopAt l s).state ≠ .intact ∧ (loopAt l s).state ≠ .disabled) ∧
    (s.loader.phase ≠ .running →
      (∀ r ∈ s.crack.loops, r.state = .disabled) ∧ ∀ e ∈ s.crack.entries, e = none)

end Sys2Proof.Machine
end

