-- ==== Sys2Proof/Certificates/Slice0/Obligations.lean ====
section
/-! DEFINITION. The statements about the machine, for the provers. Each is a `def Obligations.<Name> : Prop`; the
definitions before them say what several statements share: when a command telegram is taken, what an own completion
does to the line-fault watch, what a start leaves, and the tables of the manual that a statement reads. -/
namespace Sys2Proof.Machine

open Sys2Proof

/-! ### What several statements share -/

/-- A console command telegram of length `len` is taken: from a console, to this station or to all, with a REPLY entry
free and no reply held, in a station that runs (R5, R13, R163). -/
def Taken (head : CommandHead) (len : Nat) (s : State) : Prop :=
  s.loader.phase = .running ∧ (28 ≤ head.sender ∧ head.sender ≤ 31) ∧ (head.dest = 0 ∨ head.dest = ownStation s) ∧
    s.line.replyQ.length < 4 ∧ s.line.heldReplies = [] ∧ head.len = len

/-- The station with one more REPLY at the tail of its REPLY queue, and nothing else changed (R163, R166). -/
def replied (head : CommandHead) (code : Nat) (result : ReplyResult) (reason : Reason) (data : List Byte) (s : State) :
    State :=
  { s with line.replyQ := s.line.replyQ ++
      [{ dest := head.sender, kindCode := code, result := result, reason := reason, data := data }] }

/-- A telegram of class `c` is on offer or in transmission. -/
def OnOffer (c : TxClass) (s : State) : Prop :=
  ∃ bytes won, s.line.tx = some { cls := c, bytes := bytes, won := won }

/-- What the completion of any own telegram does first: it leaves transmission, and the line-fault watch starts again
with its cause gone (R14). -/
def completed (s : State) : State :=
  { s with
    line.tx := none
    line.ownCompleted := true
    line.faultCount := 0
    line.lineFault := false
    alarm.causes := s.alarm.causes.filter (fun c => decide (c ≠ .lineFault)) }

/-- Another frame station that a running station hears. -/
def Hears (sender : Nat) (s : State) : Prop :=
  s.loader.phase = .running ∧ 1 ≤ sender ∧ sender ≤ 27 ∧ sender ≠ ownStation s

/-- The entries of the charge list that are in window (R88). -/
def inWindow (s : State) : List ChargeEntry :=
  s.act.chargeList.filter (fun e => decide (s.age - e.age < 10 * s.cfg.wPump))

/-- The charge list with an own completion of this moment appended, the oldest of 8 removed first (R88). -/
def withOwnCharge (s : State) : List ChargeEntry :=
  (if 8 ≤ s.act.chargeList.length then s.act.chargeList.drop 1 else s.act.chargeList) ++
    [{ station := ownStation s, age := s.age }]

/-- The station has no own CHARGE telegram for the current wait, placed or held (R89). -/
def NoOwnCharge (s : State) : Prop :=
  s.act.ownPlaced ≠ some true ∧ s.act.ownHeld = false

/-- The event of Table 1-5 is in the events-since-STATUS set. -/
def HasEvent (bit : Nat) (s : State) : Prop :=
  s.line.events.getLsbD bit = true

/-- The station with the telegram of class `c` on offer, or in transmission where its arbitration is won, and nothing
else changed. -/
def offering (c : TxClass) (won : Bool) (bytes : List Byte) (s : State) : State :=
  { s with line.tx := some { cls := c, bytes := bytes, won := won } }

/-- A telegram is pending (R14): some transmit queue is non-empty or a telegram is in transmission. -/
abbrev TelegramPending (s : State) : Prop :=
  s.line.alarmQ ≠ [] ∨ s.line.chargeSlot ≠ none ∨ s.line.shuntSlot ≠ none ∨ s.line.statusSlot ≠ .empty ∨
    s.line.replyQ ≠ [] ∨ s.line.dataQ ≠ [] ∨ s.line.tx ≠ none

/-! ### Late replies, timers that stop, the choice of the next segment -/

/-- A late REPLY to a console: at the tail of the REPLY queue, or of the held replies where four wait (R13, R165). -/
def LateReply (console code : Nat) (result : ReplyResult) (reason : Reason) (s t : State) : Prop :=
  let reply : Reply := { dest := console, kindCode := code, result := result, reason := reason, data := [] }
  (s.line.replyQ.length < 4 → t.line.replyQ = s.line.replyQ ++ [reply] ∧ t.line.heldReplies = s.line.heldReplies) ∧
    (4 ≤ s.line.replyQ.length → t.line.replyQ = s.line.replyQ ∧ t.line.heldReplies = s.line.heldReplies ++ [reply])

/-- A timer stopped with the time it has left; one that does not run stays as it is (R46). -/
def stoppedWithRest (now : Nat) : HoldTimer → HoldTimer
  | .running due => .paused (due - now)
  | timer => timer

/-- The sequencer of a state in RUN as its entry into HELD leaves it (R46): phase, step, segment, working copy,
counters and choice kept, the timers of a dwell stopped with what they have left, the mismatch timer stopped. -/
def heldOf (s : State) : Sequencer :=
  { s.seq with
    state := .held
    hold := stoppedWithRest s.age s.seq.hold
    extension := stoppedWithRest s.age s.seq.extension
    mismatch := none }

/-- The next-segment choice of R41 for the segment just completed: the pass counter's new value and the chosen index.
-/
def choiceOf (q : Sequencer) : Nat × Nat :=
  match q.table.getD q.segment none with
  | none => (0, q.segment + 1)
  | some g =>
    match g.loopTo with
    | none => (0, q.segment + 1)
    | some target =>
      if q.counters.getD q.segment 0 < g.loopCount then (q.counters.getD q.segment 0 + 1, target)
      else (0, q.segment + 1)

/-! ### Raises: the ALARM telegram, the order to the record memory, the asking of a member's news -/

/-- A record of the own station's alarm of this kind and channel field stands in the list, unacknowledged (R132,
R133). -/
def Listed (kind : AlarmKind) (channel : Nat) (s t : State) : Prop :=
  ∃ a ∈ t.alarm.records, keyOf a = (ownStation s, kind, channel) ∧ a.acked = false

/-- The alarm list has room for `n` raises more, whatever their keys (R133). -/
def RoomFor (n : Nat) (s : State) : Prop :=
  s.alarm.records.length + n ≤ 24

/-- The ALARM queue after a raise that sends a telegram, which is lost where four wait (R12, R136). -/
def withTelegram (a : AlarmTelegram) (s : State) : List AlarmTelegram :=
  if s.line.alarmQ.length < 4 then s.line.alarmQ ++ [a] else s.line.alarmQ

/-- What the cut-and-capture order of an alarm kind leaves, with no request waiting for the block it seals: the
capture begun or begun again, and the FILLING block sealed with cause ALARM and the kind (R139, R151, R155). -/
def CaptureOrdered (kind : AlarmKind) (s t : State) : Prop :=
  (0 < s.cfg.captureLength →
    t.recs.capture = true ∧ t.recs.scansLeft = s.cfg.captureLength ∧ t.recs.captureKind = some kind) ∧
  (s.cfg.captureLength = 0 → t.recs.capture = s.recs.capture ∧ t.recs.scansLeft = s.recs.scansLeft ∧
    t.recs.captureKind = s.recs.captureKind) ∧
  ∀ n, (blockAt n s).state = .filling → PagesAddUp s → PoolCanonical s → 1 ≤ s.cfg.blockPages → s.recs.fetchQ = [] →
    blockAt n t = { blockAt n s with state := .sealed } ∧ t.recs.sealedQ = s.recs.sealedQ ++ [n] ∧ HasEvent 0 t ∧
      blockRead (blockAt n s).pages 17 1 t.recs.pool = [3] ∧
      blockRead (blockAt n s).pages 19 1 t.recs.pool = leBytes 1 (kindCode kind)

/-- A raise's record at its first-arrival values (Table 8-2), for a heard ALARM (R137). -/
def heardRecord (n : Nat) (k : AlarmKind) (a : Latch) (r : AlarmReport) : AlarmRecord :=
  { source := n, kind := k, channel := r.channel, action := a, count := 1, firstTag := r.timeTag, lastTag := r.timeTag
    lam := r.lam, step := r.step, acked := false }

/-- A member other than the own station whose record is present. -/
def PresentMember (n : Nat) (s : State) : Prop :=
  1 ≤ n ∧ n ≤ 27 ∧ n ≠ ownStation s ∧ isMember n s = true ∧ (peerAt n s).present = true

/-- The gate answer for a step is yes: every present member reports a step above it, or that step with phase DONE
(R27). -/
def GateOpen (step : Nat) (s : State) : Prop :=
  ∀ n, PresentMember n s → step < (peerAt n s).step ∨ ((peerAt n s).step = step ∧ (peerAt n s).phase = some .done)

/-- The digest answer is yes: every present member's digest is the own one (R26). -/
def DigestsAgree (s : State) : Prop :=
  ∀ n, PresentMember n s → (peerAt n s).digest = s.seq.digest

/-- What a sequencer waiting in DONE with the choice `c` does when it asks (R37, R42 to R44): both answers as the
records of `t` stand; both yes, the segment is entered, or at the last step number the run is ENDED where it stands;
else it waits on, the mismatch timer running while the digests differ. -/
def AsksInDone (c : Nat) (g : Segment) (s t : State) : Prop :=
  (GateOpen s.seq.step t → (∀ n, PresentMember n t → (peerAt n t).digest = s.seq.digest) →
    (s.seq.step < 4294967295 →
      t.seq =
        { s.seq with
          phase := some .ramp
          step := s.seq.step + 1
          segment := c
          work := some
            { target := g.target, rate := g.rate, hold := g.hold, settle := g.settle, extension := g.extension }
          hold := .paused (1000 * g.hold)
          extension := .stopped
          extensionUsed := false
          mismatch := none
          choice := none }) ∧
    (4294967295 ≤ s.seq.step →
      t.seq = { s.seq with state := .ended, phase := none, mismatch := none, choice := none })) ∧
  (¬ GateOpen s.seq.step t → (∀ n, PresentMember n t → (peerAt n t).digest = s.seq.digest) →
    t.seq = { s.seq with mismatch := none }) ∧
  (¬ (∀ n, PresentMember n t → (peerAt n t).digest = s.seq.digest) →
    t.seq =
      { s.seq with
        mismatch := some (match s.seq.mismatch with
          | some due => due
          | none => s.age + 100 * s.line.statusPeriod) })

/-- The sequencer `q` in RUN with its timers stopped, the phase DONE and the pass counter of R41 stored. -/
def doneOf (q : Sequencer) : Sequencer :=
  { q with
    phase := some .done, hold := .stopped, extension := .stopped
    counters := setAt q.segment (choiceOf q).1 q.counters }

/-- The phase DONE from the sequencer `q` in DWELL (R41): DWELL is left; a choice that names an EMPTY entry ends the
run in ENDED, and with any other the gate and digest questions are asked at once (R42 to R44, R54). -/
def DoneReached (q : Sequencer) (s t : State) : Prop :=
  t.scan.settled = false ∧ t.scan.settleTimer = none ∧
    (q.table.getD (choiceOf q).2 none = none →
      t.seq = { doneOf q with state := .ended, phase := none, mismatch := none, choice := none }) ∧
    ∀ g, q.table.getD (choiceOf q).2 none = some g →
      AsksInDone (choiceOf q).2 g { s with seq := { doneOf q with choice := some (choiceOf q).2 } } t

/-- The raise of NO_SETTLE at the sequencer `q` in RUN and DWELL whose extension is spent, under a latch that its
action exceeds, a NOTE aside (R40): with NOTE the phase is DONE; with HOLD the sequencer is HELD with its time left
(R46); with UNLOAD it is UNLOADING (R47); with DUMP the actuator trips and it is IDLE (R49, R84, R86). -/
def NoSettleRaised (q : Sequencer) (s t : State) : Prop :=
  HasEvent 5 t ∧ (RoomFor 1 s → Listed .noSettle 0 s t) ∧ t.scan.settled = false ∧ t.scan.settleTimer = none ∧
    (s.cfg.noSettleAction = .note → DoneReached q s t ∧ t.act = s.act) ∧
    (s.cfg.noSettleAction = .hold → t.act = s.act ∧
      t.seq = { q with state := .held, hold := stoppedWithRest s.age q.hold, mismatch := none }) ∧
    (s.cfg.noSettleAction = .unload → t.act = s.act ∧
      t.seq = { q with
        state := .unloading, phase := none, hold := .stopped, extension := .stopped, mismatch := none
        choice := none }) ∧
    (s.cfg.noSettleAction = .dump →
      t.act.state = .tripped ∧ valveLines t = (false, true, false) ∧ t.pins.drive = 0 ∧ HasEvent 10 t ∧
        t.servo.clearOrder = true ∧
        t.seq = { q with
          state := .idle, phase := none, step := 0, segment := 0, work := none, counters := List.replicate 32 0
          hold := .stopped, extension := .stopped, extensionUsed := false, mismatch := none, choice := none })

/-- The claim holder `n` of the group released (R109): a WAITING scanner claims again, with the slot empty. -/
def HolderReleased (s t : State) : Prop :=
  t.scan.holder = none ∧
    (s.scan.shunt = .waiting → s.line.shuntSlot = none →
      t.scan.shunt = .claiming ∧ t.line.shuntSlot = some { isDone := false, group := s.cfg.excitation }) ∧
    (s.scan.shunt ≠ .waiting → t.scan.shunt = s.scan.shunt ∧ t.line.shuntSlot = s.line.shuntSlot)

/-! ### A start -/

/-- An unsigned field of the image lies in its range. -/
def FieldIn (image : List Byte) (offset width lo hi : Nat) : Prop :=
  lo ≤ imageNat image offset width ∧ imageNat image offset width ≤ hi

/-- The fields of Table 11-1 but for the entries and the member set lie in their ranges (R171). -/
def StationFieldsPass (image : List Byte) : Prop :=
  (FieldIn image 0 1 1 1 ∧ FieldIn image 1 1 0 2 ∧ FieldIn image 2 1 10 200 ∧ FieldIn image 3 1 3 10 ∧
    FieldIn image 4 1 1 4 ∧ FieldIn image 9 4 1000 8000000 ∧ FieldIn image 13 4 (imageNat image 9 4) 16000000 ∧
    FieldIn image 20 3 1 1000000 ∧ FieldIn image 27 3 1 1000000 ∧ FieldIn image 30 3 (imageNat image 27 3 + 1) 8388607 ∧
    FieldIn image 33 2 1 1000 ∧ FieldIn image 35 2 5 500 ∧ FieldIn image 37 2 1 2000) ∧
  FieldIn image 39 2 500 5000 ∧ FieldIn image 41 2 100 10000 ∧ FieldIn image 43 2 50 5000 ∧
    FieldIn image 45 2 1000 10000 ∧ FieldIn image 47 2 1 600 ∧ FieldIn image 49 3 1 1000000 ∧ FieldIn image 52 1 1 4 ∧
    FieldIn image 53 1 1 4 ∧ FieldIn image 54 2 5 1000 ∧
    (imageNat image 56 1 = 1 ∨ imageNat image 56 1 = 2 ∨ imageNat image 56 1 = 4 ∨ imageNat image 56 1 = 8 ∨
      imageNat image 56 1 = 16 ∨ imageNat image 56 1 = 32 ∨ imageNat image 56 1 = 64) ∧
    FieldIn image 57 1 1 8 ∧ FieldIn image 58 2 0 4000 ∧ FieldIn image 60 1 0 8 ∧ FieldIn image 61 2 1 600

/-- The member set names the own station and one more at least, and no number but 1 to 27 (R171). -/
def MembersPass (straps : Nat) (image : List Byte) : Prop :=
  (∀ n, n < 32 → (imageNat image 5 4).testBit n = true → 1 ≤ n ∧ n ≤ 27) ∧
    (imageNat image 5 4).testBit straps = true ∧
    ∃ n, n < 32 ∧ n ≠ straps ∧ (imageNat image 5 4).testBit n = true

/-- A channel entry at an offset lies in the ranges of Table 11-2 (R171). -/
def ChannelPasses (image : List Byte) (o : Nat) : Prop :=
  FieldIn image o 1 0 3 ∧ FieldIn image (o + 1) 1 1 4 ∧ FieldIn image (o + 2) 1 1 255 ∧
    FieldIn image (o + 3) 3 1 4194303 ∧ -320000 ≤ imageInt image (o + 12) 3 ∧
    imageInt image (o + 12) 3 < imageInt image (o + 9) 3 ∧ imageInt image (o + 9) 3 ≤ 320000 ∧
    -320000 ≤ imageInt image (o + 15) 3 ∧ imageInt image (o + 15) 3 ≤ 320000

/-- A loop entry at an offset lies in the ranges of Table 11-3 (R171). -/
def LoopPasses (image : List Byte) (o : Nat) : Prop :=
  FieldIn image o 1 0 1 ∧ FieldIn image (o + 1) 1 1 4 ∧ FieldIn image (o + 2) 2 10 1000

/-- An AE entry at an offset lies in the ranges of Table 11-3 (R171). -/
def InputPasses (image : List Byte) (o : Nat) : Prop :=
  FieldIn image o 1 1 100 ∧ FieldIn image (o + 1) 2 10 10000 ∧ FieldIn image (o + 3) 1 1 31 ∧
    FieldIn image (o + 4) 1 (imageNat image (o + 3) 1 + 1) 32 ∧ FieldIn image (o + 5) 1 1 4

/-- None of the four faults: straps 1 to 27, the image whole with a good check, and every field of Tables 11-1 to 11-3
in its range (R170, R171). -/
def StartPasses (straps : Nat) (image : List Byte) : Prop :=
  (1 ≤ straps ∧ straps ≤ 27) ∧ (image.length = 411 ∧ (crc16 (image.take 409)).toNat = imageNat image 409 2) ∧
    StationFieldsPass image ∧ MembersPass straps image ∧ (∀ c, c < 16 → ChannelPasses image (65 + 18 * c)) ∧
    (∀ l, l < 8 → LoopPasses image (353 + 4 * l)) ∧ ∀ i, i < 4 → InputPasses image (385 + 6 * i)

/-- R94: the actuator unit's lists, timers and marks after a start. -/
def ActuatorCleared (t : State) : Prop :=
  t.act.purpose = none ∧ t.act.chargeList = [] ∧ t.act.ownPlaced = none ∧ t.act.ownHeld = false ∧
    t.act.chargeTimer = none ∧ t.act.lockTimer = none ∧ t.act.deadline = none ∧ t.act.acquisition = none ∧
    t.act.releasing = false ∧ t.act.lockCheck = none ∧ t.act.lockRef = none

/-- R94: the start state and its lines by the two inputs read. -/
def ActuatorStart (levels : StartLevels) (t : State) : Prop :=
  t.act.state = (if levels.lockEngaged then .locked else if levels.estop then .tripped else .vented) ∧
    valveLines t = (if levels.lockEngaged then (false, false, true) else (false, true, false)) ∧ t.pins.drive = 0 ∧
    ActuatorCleared t

/-- R16: the line unit after a start. -/
def LineStart (t : State) : Prop :=
  t.line.alarmQ = [] ∧ t.line.chargeSlot = none ∧ t.line.shuntSlot = none ∧ t.line.statusSlot = .empty ∧
    t.line.replyQ = [] ∧ t.line.dataQ = [] ∧ t.line.heldReplies = [] ∧ t.line.events = 0 ∧ t.line.afterTake = 0 ∧
    t.line.tx = none ∧ t.line.faultCount = 0 ∧ t.line.lineFault = false ∧ t.line.statusTimer = none ∧
    t.line.shuntDoneBehind = false ∧ t.line.ownCompleted = false

/-- R29: the peer table after a start. -/
def PeersStart (t : State) : Prop :=
  t.peers.records.length = 27 ∧
    (∀ p ∈ t.peers.records, p.present = false ∧ p.lastHeard = none ∧ p.expiry = none ∧ p.loadGroup = 0 ∧
      p.seqState = .idle ∧ p.phase = none ∧ p.step = 0 ∧ p.segment = 0 ∧ p.lam = 0 ∧ p.fMeas = 0 ∧
      p.actuator = .vented ∧ p.latch = .none ∧ p.flags = 0 ∧ p.digest = 0 ∧ p.lastSeen = .none ∧ p.lost = false) ∧
    t.peers.memberAbsent = true ∧ t.peers.digestMismatch = false

/-- R55 and R73: the sequencer and the servo after a start. -/
def DriveStart (t : State) : Prop :=
  t.seq.state = .idle ∧ t.seq.phase = none ∧ t.seq.step = 0 ∧ t.seq.segment = 0 ∧ t.seq.table = List.replicate 32 none ∧
    t.seq.digest = crc16 (List.replicate 384 255) ∧ t.seq.counters = List.replicate 32 0 ∧ t.seq.work = none ∧
    t.seq.choice = none ∧ t.seq.hold = .stopped ∧ t.seq.extension = .stopped ∧ t.seq.extensionUsed = false ∧
    t.seq.mismatch = none ∧ t.servo.lam = 0 ∧ t.servo.acc = 0 ∧ t.servo.integral = 0 ∧ t.servo.drive = 0 ∧
    t.servo.fSet = 0 ∧
    t.servo.fMeas = 0 ∧ t.servo.error = 0 ∧ t.servo.lagging = false ∧ t.servo.overLimit = false ∧
    t.servo.tripCount = 0 ∧ t.servo.reacquire = none ∧ t.servo.clearOrder = false ∧ t.servo.timer = none

/-- R117 and R130: the scanner and the crack monitor after a start; until the image is read every channel is DISABLED
with a zero of 0 (log entry 11). -/
def MeasureStart (t : State) : Prop :=
  t.scan.timer = none ∧ t.scan.runTaken = 0 ∧ t.scan.settled = false ∧ t.scan.settleTimer = none ∧
    t.scan.zero = none ∧ t.scan.shunt = .none ∧ t.scan.shuntScans = 0 ∧ t.scan.shuntActive = false ∧
    t.scan.claimHeld = false ∧ t.scan.holder = none ∧ t.pins.shunts = 0 ∧ t.scan.channels.length = 16 ∧
    (∀ c ∈ t.scan.channels, c.state = .disabled ∧ c.zero = 0 ∧ c.sum = 0 ∧ c.overMark = false ∧ c.shuntMark = false ∧
      c.latest = 0 ∧ c.latestOver = false ∧ c.latestShunt = false ∧ c.exceed = 0 ∧ c.cause = false ∧ c.ref = none ∧
      c.rawSum = 0 ∧ c.beforeSum = 0 ∧ c.onSum = 0) ∧
    t.crack.timer = none ∧ t.crack.loops = List.replicate 8 { state := .disabled, taken := none, candidate := none } ∧
    t.crack.entries = List.replicate 8 none ∧
    t.crack.inputs = List.replicate 4 { hits := [], dead := none, band := .normal, count := 0 }

/-- R146, R162 and R169: the alarm unit, the record memory and the command unit after a start; the pool reads 0
throughout (log entry 13). -/
def UnitsStart (t : State) : Prop :=
  t.alarm.records = [] ∧ t.alarm.overfull = false ∧ t.alarm.latch = .none ∧ t.alarm.causes = [] ∧
    t.recs.table.length = 64 ∧ (∀ e ∈ t.recs.table, e.state = .free) ∧ t.recs.freePages = 256 ∧ t.recs.sealedQ = [] ∧
    t.recs.fetchQ = [] ∧ t.recs.sending = none ∧ t.recs.pressure = false ∧ t.recs.capture = false ∧
    t.recs.scansLeft = 0 ∧ t.recs.captureKind = none ∧ t.recs.gap = 0 ∧ t.recs.serial = 0 ∧ t.recs.pool = [] ∧
    t.cmd.queue = [] ∧ t.cmd.current = none ∧ t.cmd.timeTag = 0

/-- Every block at the reset values its chapter gives, the loader READING with the cause, the age clock at 0 (R170).
-/
def FreshStart (cause : StartCause) (levels : StartLevels) (t : State) : Prop :=
  t.age = 0 ∧ t.loader.phase = .reading ∧ t.loader.cause = cause ∧ ActuatorStart levels t ∧ LineStart t ∧
    PeersStart t ∧ DriveStart t ∧ MeasureStart t ∧ UnitsStart t

/-! ### Measurement: the arithmetic and the tables that statements read -/

/-- The converted value of a code before its clamp (R97). -/
def converted (code : Int) (c : Nat) (s : State) : Int :=
  roundDiv ((code - (channelAt c s).zero) * (channelCfg c s).scale) 1048576

/-- The sample of a code, clamped to ±320000 tenth-microstrain (R97). -/
def sampleValue (code : Int) (c : Nat) (s : State) : Int :=
  clampTo (-320000) 320000 (converted code c s)

/-- The clamp changed the sample: it is marked OVER (R97). -/
def sampleOver (code : Int) (c : Nat) (s : State) : Bool :=
  decide (converted code c s < -320000 ∨ 320000 < converted code c s)

/-- A channel that the settle judgement looks at (R103). -/
def SettleChecked (c : Nat) (s : State) : Prop :=
  (channelAt c s).state = .ok ∧ (channelCfg c s).settleChecked = true

/-- A channel holds: its latest average is neither OVER nor shunt-marked and lies within the drift limit of its
reference (R103). -/
def HoldsStill (c : Nat) (s : State) : Prop :=
  (channelAt c s).latestOver = false ∧ (channelAt c s).latestShunt = false ∧
    ∃ r, (channelAt c s).ref = some r ∧ ((channelAt c s).latest - r).natAbs ≤ s.cfg.driftLimit

/-- The measured step of a channel lies within 2 % of its expected step E: 50 × |m − E| ≤ |E| (R114). -/
def StepWithin (c : Nat) (s : State) : Prop :=
  50 * (roundDiv (channelAt c s).onSum 16 - roundDiv (channelAt c s).beforeSum 16 - (channelCfg c s).shuntStep).natAbs ≤
    (channelCfg c s).shuntStep.natAbs

/-- The debounce of a loop in scans of 10 ms, rounded up (R119). -/
def debounceOf (l : Nat) (s : State) : Nat :=
  ((loopCfg l s).debounce + 9) / 10

/-- The count of consecutive scans a loop has then sensed a reading that is not the taken one (R119). -/
def candidateCount (r : LoopReading) (rec : LoopRecord) : Nat :=
  match rec.candidate with
  | some (q, n) => if q = r then n + 1 else 1
  | none => 1

/-- The state of a loop after it takes a reading (Tables 7-4 and 7-5). -/
def loopStateAfter : LoopState → LoopReading → LoopState
  | .intact, .opened => .broken
  | .intact, .shorted => .fault
  | .broken, .intact => .fault
  | .accepted, .intact => .fault
  | st, _ => st

/-- A taken reading that makes a loop FAULT (Table 7-5). -/
def FaultReading (st : LoopState) (r : LoopReading) : Prop :=
  (st = .intact ∧ r = .shorted) ∨ ((st = .broken ∨ st = .accepted) ∧ r = .intact)

/-! ### Record memory and console: what several statements share -/

/-- Block `b` chosen for a console: SENDING, out of the sealed queue, its first parts placed (R159). -/
def sendStarted (b console : Nat) (s : State) : State :=
  { s with
    recs.sealedQ := s.recs.sealedQ.filter (fun n => decide (n ≠ b))
    recs.table := modifyAt (fun e => { e with state := .sending }) b s.recs.table
    recs.sending := some
      { block := b, console := console, next := min (16 - s.line.dataQ.length) (4 * s.cfg.blockPages) }
    line.dataQ := s.line.dataQ ++
      (List.range (min (16 - s.line.dataQ.length) (4 * s.cfg.blockPages))).map (fun i =>
        { dest := console, block := b, part := i
          data := blockRead (blockAt b s).pages (64 * i) 64 s.recs.pool }) }

/-- A console command telegram as a command: its head and its kind code (Table 1-6). -/
def telegramOf : Instr → Option (CommandHead × Nat)
  | .commandUnknownKind head kind => some (head, kind)
  | .program head _ => some (head, 0x40)
  | .clearprog head => some (head, 0x41)
  | .run head => some (head, 0x42)
  | .hold head => some (head, 0x43)
  | .resume head => some (head, 0x44)
  | .unload head => some (head, 0x45)
  | .ack head _ _ _ _ => some (head, 0x46)
  | .accept head _ => some (head, 0x47)
  | .fetch head _ _ => some (head, 0x48)
  | .free head _ => some (head, 0x49)
  | .cut head => some (head, 0x4A)
  | .timeset head _ => some (head, 0x4B)
  | .queryCrack head _ => some (head, 0x4C)
  | .queryAlarms head _ => some (head, 0x4C)
  | .queryStrain head _ => some (head, 0x4C)
  | .queryPeer head _ => some (head, 0x4C)
  | .queryOtherSubject head _ _ => some (head, 0x4C)
  | .charge head => some (head, 0x4D)
  | .vent head => some (head, 0x4E)
  | .lock head => some (head, 0x4F)
  | .unlock head => some (head, 0x50)
  | .cleartrip head => some (head, 0x51)
  | .zero head => some (head, 0x52)
  | .shunt head => some (head, 0x53)
  | _ => none

/-- The command is one of the table's own rows: a kind outside Table 1-6, a subject outside 1 to 4 (log entry 31). -/
def RowOfItsOwn (c : Instr) : Prop :=
  (∀ head kind, c = .commandUnknownKind head kind → kind < 0x40 ∨ 0x53 < kind) ∧
    ∀ head subject argument, c = .queryOtherSubject head subject argument → subject = 0 ∨ 4 < subject

/-- A kind of a class other than 2 with the length of its payload (Table 1-2); those of classes 5 and 6, which no
other station takes, are left out. -/
def KindOfClass (cls kind len : Nat) : Prop :=
  (cls = 0 ∧ kind = 0x01 ∧ len = 17) ∨ (cls = 1 ∧ kind = 0x02 ∧ len = 1) ∨
    (cls = 3 ∧ (kind = 0x03 ∨ kind = 0x04) ∧ len = 1) ∨ (cls = 4 ∧ kind = 0x05 ∧ len = 24)

/-- The telegram is for this station, from a console, and there is room for its REPLY (R5, R13). -/
def Answerable (head : CommandHead) (s : State) : Prop :=
  (28 ≤ head.sender ∧ head.sender ≤ 31) ∧ (head.dest = 0 ∨ head.dest = ownStation s) ∧
    s.line.replyQ.length < 4 ∧ s.line.heldReplies = []

/-- The queued commands by kind (section 10.2). -/
def queuedOf : Instr → Option (CommandHead × QueuedKind)
  | .charge head => some (head, .charge)
  | .vent head => some (head, .vent)
  | .lock head => some (head, .lock)
  | .unlock head => some (head, .unlock)
  | .cleartrip head => some (head, .cleartrip)
  | .zero head => some (head, .zero)
  | .shunt head => some (head, .shunt)
  | _ => none

/-- The command queue and the command in progress are both empty. -/
def QueueIdle (s : State) : Prop :=
  s.cmd.queue = [] ∧ s.cmd.current = none

/-- The end of a queued command with an idle queue behind it: its REPLY and COMMAND_DONE (R165). -/
def concluded (head : CommandHead) (code : Nat) (result : ReplyResult) (reason : Reason) (s : State) : State :=
  setEvent .commandDone (replied head code result reason [] s)

/-- A segment program of `n` entries is valid: entries 0 to n − 1 filled, n at least 1, all others EMPTY (R31). -/
def ValidProgram (n : Nat) (s : State) : Prop :=
  1 ≤ n ∧ (∀ i, i < n → (s.seq.table.getD i none).isSome = true) ∧ ∀ i, n ≤ i → s.seq.table.getD i none = none

/-- The first condition of R36 that fails, in its order; `none` for an accepted RUN. -/
def RunRefusedFor (s : State) : Reason → Prop
  | .state => ¬ (s.seq.state = .idle ∨ s.seq.state = .ended)
  | .actuator => (s.seq.state = .idle ∨ s.seq.state = .ended) ∧ s.act.state ≠ .live
  | .programInvalid =>
    (s.seq.state = .idle ∨ s.seq.state = .ended) ∧ s.act.state = .live ∧ ¬ ∃ n, ValidProgram n s
  | .absentMember =>
    (s.seq.state = .idle ∨ s.seq.state = .ended) ∧ s.act.state = .live ∧ (∃ n, ValidProgram n s) ∧
      s.peers.memberAbsent = true
  | .programMismatch =>
    (s.seq.state = .idle ∨ s.seq.state = .ended) ∧ s.act.state = .live ∧ (∃ n, ValidProgram n s) ∧
      s.peers.memberAbsent = false ∧ ¬ DigestsAgree s
  | .action =>
    (s.seq.state = .idle ∨ s.seq.state = .ended) ∧ s.act.state = .live ∧ (∃ n, ValidProgram n s) ∧
      s.peers.memberAbsent = false ∧ DigestsAgree s ∧ s.alarm.latch ≠ .none
  | _ => False

/-- A record that an accepted RESUME keeps: one whose source, or for PEER_ACTION whose channel, is an absent member
(R144, Table 8-4). -/
def KeptRecord (s : State) (a : AlarmRecord) : Bool :=
  if a.source = ownStation s then decide (a.kind = .peerAction) && !(peerAt a.channel s).present
  else !(peerAt a.source s).present

/-- The first condition of R143 that fails, in its order. -/
def resumeReason (s : State) : Option Reason :=
  if s.alarm.records.any (fun a => !a.acked) then some .unacked
  else if s.alarm.causes ≠ [] then some .causePresent
  else if (presentPeers s).any (fun p => p.flags.getLsbD 2) then some .peerCause
  else if s.act.state = .tripped then some .tripped
  else if s.scan.shunt ≠ .none then some .busyShunt
  else none

/-- A block that holds its record: SEALED, SENDING or SENT (R147, R151). -/
def HoldsRecord (n : Nat) (s : State) : Prop :=
  (blockAt n s).state = .sealed ∨ (blockAt n s).state = .sending ∨ (blockAt n s).state = .sent

/-- The command is a start, the release of a held pin aside: power comes up or the reset pin changes. -/
def IsStart (c : Instr) : Prop :=
  (∃ levels, c = .powerUp levels) ∨ c = .resetPinAssert ∨ ∃ levels, c = .resetPinRelease levels

/-- The command hands on bytes that may spell any telegram (log entry 7). -/
def IsRawBytes (c : Instr) : Prop :=
  ∃ bytes, c = .receivedTelegramDiscard { bytes := bytes, mark := .endMark }

end Sys2Proof.Machine

open Sys2Proof Sys2Proof.Machine

/-! ### The step and the start -/

/-- A step takes the command at the front of the queue and is `exec` of it on the station with the queue's rest. -/
def Obligations.StepRunsFrontCommand : Prop :=
  ∀ (c : Instr) (rest : List Instr) (s : State),
    step { s with pending := c :: rest } = exec c { s with pending := rest }

/-- With no command waiting, a step is one step of 0.1 ms of the age clock; each tenth raises the time tag (R168), and
the expiries that fall due are queued. While the pin is held nothing changes. The step on an empty queue is the
model's choice (log entries 1 and 3). -/
def Obligations.EmptyQueueStepsTheAgeClock : Prop :=
  ∀ s : State, s.pending = [] →
    (s.loader.phase = .held → step s = .next s) ∧
    (s.loader.phase ≠ .held → ∃ t, step s = .next t ∧ t.age = s.age + 1 ∧
      t.cmd.timeTag = (if (s.age + 1) % 10 = 0 then s.cmd.timeTag + 1 else s.cmd.timeTag) ∧
      t.pending = dueExpiries t ∧
      { t with age := s.age, pending := [], cmd.timeTag := s.cmd.timeTag } = s)

/-- The station after reset satisfies every invariant the statements below keep. -/
def Obligations.ResetSatisfiesTheInvariants : Prop :=
  LevelBounded State.reset ∧ DriveBounded State.reset ∧ LinesFollow State.reset ∧ EstopHeld State.reset ∧
    RunNeedsLive State.reset ∧ LatchHolds State.reset ∧ DwellTimers State.reset ∧ SettleInDwell State.reset ∧
    AlarmListOk State.reset ∧ QueuesBounded State.reset ∧ CommandsFlow State.reset ∧ TakeMatches State.reset ∧
    ShuntGuarded State.reset ∧ PoolCanonical State.reset ∧ PagesAddUp State.reset ∧ BlocksMatch State.reset ∧
    CrackKept State.reset

/-- POWER_UP, RESET_PIN_RELEASE after an asserted pin, and RESET_PIN_ASSERT: a start puts every block at its reset
values with the cause of the start (R170, R94, R16, R29, R55, R73, R117, R130, R146, R162, R169), the channels
DISABLED with zeros of 0 until the image is read (log entry 11) and the record pool reading 0 (log entry 13); an
asserted pin leaves the four outputs safe. That a held station shows the reset values at once, and that the commands
that wait are kept, is the model's choice (log entry 24). -/
def Obligations.StartLeavesEveryBlockAtReset : Prop :=
  (∀ (levels : StartLevels) (s : State),
    ∃ t, exec (.powerUp levels) s = .next t ∧ FreshStart .power levels t ∧ t.pending = s.pending) ∧
  (∀ (levels : StartLevels) (s : State), s.loader.phase = .held →
    ∃ t, exec (.resetPinRelease levels) s = .next t ∧ FreshStart .pin levels t ∧ t.pending = s.pending) ∧
  ∀ s : State, ∃ t, exec .resetPinAssert s = .next t ∧ t.loader.phase = .held ∧
    valveLines t = (false, false, false) ∧ t.pins.drive = 0 ∧ t.pins.shunts = 0 ∧ t.pending = s.pending ∧ t.age = 0 ∧
    t.loader.cause = .pin ∧ ActuatorCleared t ∧ LineStart t ∧ PeersStart t ∧ DriveStart t ∧ MeasureStart t ∧
    UnitsStart t

/-- While power rises or the pin is held, no event is taken: every command but the three of a start leaves the station
exactly as it was (R170). -/
def Obligations.HeldStationTakesNoEvent : Prop :=
  ∀ (c : Instr) (s : State), s.loader.phase = .held → (∀ levels, c ≠ .powerUp levels) →
    (∀ levels, c ≠ .resetPinRelease levels) → c ≠ .resetPinAssert → exec c s = .next s

/-- READING_END: with none of the four faults the settings are distributed in one event (R172); with a fault the
station enters CONFIG_FAULT with the bit rate, period and load group that a good check and range allow, and sends only
with valid straps (R15, R173). That the status timer starts there with one period to its first expiry is the model's
choice (log entry 14), and so is D_base as the length of the first averaging run where ESTOP is active (log entry 34).
The faults are those of R170 and R171: straps outside 1 to 27, a short image, a bad check, a field outside its range
in Tables 11-1 to 11-3. At the distribution each enabled loop is read once: INTACT makes it INTACT, OPEN and SHORT
make it FAULT with a LOOP_FAULT of action NOTE and no crack table entry; a loop not enabled stays DISABLED (R120). -/
def Obligations.ReadingEndDistributesOrFaults : Prop :=
  (∀ (straps : Nat) (image : List Byte), noFault straps image = true ↔ StartPasses straps image) ∧
  (∀ (straps : Nat) (image : List Byte) (loops : List LoopReading) (s : State), s.loader.phase = .reading →
    StartPasses straps image → s.crack = CrackMonitor.reset →
    ∃ t, exec (.readingEnd straps image loops) s = .next t ∧ t.crack.entries = List.replicate 8 none ∧
      ∀ (l : Nat) (r : LoopReading), l < 8 → loops[l]? = some r →
        (imageNat image (353 + 4 * l) 1 = 0 →
          loopAt l t = { state := .disabled, taken := none, candidate := none }) ∧
        (imageNat image (353 + 4 * l) 1 = 1 → r = .intact →
          loopAt l t = { state := .intact, taken := some .intact, candidate := none }) ∧
        (imageNat image (353 + 4 * l) 1 = 1 → r ≠ .intact →
          loopAt l t = { state := .fault, taken := some r, candidate := none } ∧ HasEvent 5 t ∧
            (s.alarm.records = [] → ∃ a ∈ t.alarm.records, keyOf a = (straps, .loopFault, l) ∧ a.action = .note ∧
              a.acked = false))) ∧
  (∀ (straps : Nat) (image : List Byte) (loops : List LoopReading) (s : State), s.loader.phase = .reading →
    noFault straps image = true →
    ∃ t, exec (.readingEnd straps image loops) s = .next t ∧ t.loader.phase = .running ∧ t.loader.straps = straps ∧
      t.cfg = settingsOf image ∧ t.line.bitRate = imageNat image 1 1 ∧ t.line.statusPeriod = imageNat image 2 1 ∧
      t.line.loadGroup = imageNat image 4 1 ∧ t.line.statusTimer = some (s.age + 10 * imageNat image 2 1) ∧
      t.line.statusSlot = .waiting ∧ t.servo.timer = some (s.age + 10) ∧ t.servo.loadZero = imageInt image 17 3 ∧
      t.scan.timer = some (s.age + 10 * imageNat image 54 2) ∧ t.scan.runLength = imageNat image 56 1 ∧
      t.crack.timer = some (s.age + 100) ∧
      (s.pins.estop = true → Cause.estop ∈ t.alarm.causes ∧ t.alarm.latch = .dump)) ∧
  ∀ (straps : Nat) (image : List Byte) (loops : List LoopReading) (s : State), s.loader.phase = .reading →
    noFault straps image = false →
    exec (.readingEnd straps image loops) s = .next
      { s with
        loader.phase := .configFault
        loader.straps := straps
        loader.image := image
        line.bitRate :=
          if checkPasses image = true ∧ imageNat image 1 1 ≤ 2 then imageNat image 1 1 else 0
        line.statusPeriod :=
          if checkPasses image = true ∧ 10 ≤ imageNat image 2 1 ∧ imageNat image 2 1 ≤ 200 then imageNat image 2 1
          else 50
        line.loadGroup :=
          if checkPasses image = true ∧ 1 ≤ imageNat image 4 1 ∧ imageNat image 4 1 ≤ 4 then imageNat image 4 1 else 0
        line.statusTimer :=
          if 1 ≤ straps ∧ straps ≤ 27 then
            some (s.age + 10 *
              (if checkPasses image = true ∧ 10 ≤ imageNat image 2 1 ∧ imageNat image 2 1 ≤ 200 then imageNat image 2 1
                else 50))
          else none }

/-! ### The line unit -/

/-- ARBITRATION_OPPORTUNITY: with nothing on offer the head of the first non-empty class is offered, in the order
ALARM, CHARGE, SHUNT, STATUS, REPLY, DATA, as the bytes of R1; the STATUS is taken at its offer (R8 to R10); with
every queue empty nothing is offered, and a station that does not send offers nothing (R15). That a further row, with
a telegram on offer, brings the end of its arbitration field without a loss is the model's reading of it (log entry
6): from then on the telegram is in transmission (R2). -/
def Obligations.OpportunityOffersTheFirstClass : Prop :=
  (∀ s : State, lineSends s = true → s.line.tx = none →
    exec .arbitrationOpportunity s = .next
      (match s.line.alarmQ, s.line.chargeSlot, s.line.shuntSlot, s.line.statusSlot, s.line.replyQ, s.line.dataQ with
        | a :: _, _, _, _, _, _ => offering .alarm false (frame 0 (ownStation s) 0 0x01 (alarmPayload a)) s
        | [], some p, _, _, _, _ =>
          offering .charge false (frame 1 (ownStation s) 0 0x02 [BitVec.ofNat 8 (purposeCode p)]) s
        | [], none, some g, _, _, _ =>
          offering .shunt false
            (frame 3 (ownStation s) 0 (if g.isDone then 0x04 else 0x03) [BitVec.ofNat 8 g.group]) s
        | [], none, none, .empty, r :: _, _ =>
          offering .reply false (frame 5 (ownStation s) r.dest 0x06 (replyPayload r)) s
        | [], none, none, .empty, [], p :: _ =>
          offering .data false
            (frame 6 (ownStation s) p.dest 0x07 (BitVec.ofNat 8 p.block :: BitVec.ofNat 8 p.part :: p.data)) s
        | [], none, none, .empty, [], [] => s
        | [], none, none, _, _, _ =>
          { offering .status false (frame 4 (ownStation s) 0 0x05 (statusPayload s)) s with
            line.statusSlot := .taken s.line.events false
            line.afterTake := 0 })) ∧
  (∀ (t : Transmission) (s : State), lineSends s = true → s.line.tx = some t →
    exec .arbitrationOpportunity s = .next (offering t.cls true t.bytes s)) ∧
  ∀ s : State, lineSends s = false → exec .arbitrationOpportunity s = .next s

/-- ARBITRATION_LOSS and TELEGRAM_ABANDON leave the telegram in its queue and change nothing else, but that a STATUS
waits again with its mark dropped (R9), the events set as it is (R11), and that a SHUNT_DONE which waited behind a
claim takes the slot (R7). Where the claim loses its arbitration the model takes R7 as for an abandon (log entry 6).
-/
def Obligations.WithdrawnTelegramStaysQueued : Prop :=
  ∀ (c : Instr) (t : Transmission) (s : State), (c = .arbitrationLoss ∨ c = .telegramAbandon) → lineSends s = true →
    s.line.tx = some t →
    exec c s = .next
      (match t.cls with
        | .status => { s with line.tx := none, line.statusSlot := .waiting, line.afterTake := 0 }
        | .shunt =>
          if s.line.shuntDoneBehind then
            { s with
              line.tx := none
              line.shuntSlot := some { isDone := true, group := s.cfg.excitation }
              line.shuntDoneBehind := false }
          else { s with line.tx := none }
        | _ => { s with line.tx := none })

/-- Own completions restart the line-fault watch (R14). STATUS_OWN_COMPLETION: the events set becomes the after-take
set and the slot holds a fresh STATUS exactly when an expiry marked it requested-again (R9, R11). ALARM_OWN_COMPLETION
and REPLY_OWN_COMPLETION take the head from their queue, and the oldest held reply moves in (R6, R13).
DATA_OWN_COMPLETION: while parts remain the next ones are placed as far as the DATA queue has room; at the last part
the block is SENT, and with no request waiting nothing else follows (R159). With a request waiting and a block SEALED
the oldest request is then answered DONE and sent the head of the sealed queue; with none SEALED the requests that
reached their expiry during the sending are answered EMPTY, and the others wait on (R158). A station in CONFIG_FAULT,
which sends its STATUS and its REPLYs only, does the same at theirs, with no cause to report gone (R15, R173). -/
def Obligations.OwnCompletionsEmptyTheirQueues : Prop :=
  ((∀ (s : State) (snapshot : Half) (again : Bool), s.loader.phase = .configFault → 1 ≤ ownStation s →
    ownStation s ≤ 27 → OnOffer .status s → s.line.statusSlot = .taken snapshot again →
    exec .statusOwnCompletion s = .next
      { s with
        line.tx := none
        line.ownCompleted := true
        line.faultCount := 0
        line.lineFault := false
        line.statusSlot := if again then .waiting else .empty
        line.events := s.line.afterTake
        line.afterTake := 0 }) ∧
  ∀ (s : State) (r : Reply) (rest : List Reply), s.loader.phase = .configFault → 1 ≤ ownStation s →
    ownStation s ≤ 27 → OnOffer .reply s → s.line.replyQ = r :: rest →
    exec .replyOwnCompletion s = .next
      { s with
        line.tx := none
        line.ownCompleted := true
        line.faultCount := 0
        line.lineFault := false
        line.replyQ := rest ++ s.line.heldReplies.take 1
        line.heldReplies := s.line.heldReplies.drop 1 }) ∧
  (∀ (s : State) (snapshot : Half) (again : Bool), s.loader.phase = .running → OnOffer .status s →
    s.line.statusSlot = .taken snapshot again →
    exec .statusOwnCompletion s = .next
      { completed s with
        line.statusSlot := if again then .waiting else .empty
        line.events := s.line.afterTake
        line.afterTake := 0 }) ∧
  ((∀ (s : State) (a : AlarmTelegram) (rest : List AlarmTelegram), s.loader.phase = .running → OnOffer .alarm s →
    s.line.alarmQ = a :: rest → exec .alarmOwnCompletion s = .next { completed s with line.alarmQ := rest }) ∧
  (∀ (s : State) (r : Reply) (rest : List Reply), s.loader.phase = .running → OnOffer .reply s →
    s.line.replyQ = r :: rest → s.line.heldReplies = [] →
    exec .replyOwnCompletion s = .next { completed s with line.replyQ := rest }) ∧
  ∀ (s : State) (r h : Reply) (rest held : List Reply), s.loader.phase = .running → OnOffer .reply s →
    s.line.replyQ = r :: rest → s.line.heldReplies = h :: held →
    exec .replyOwnCompletion s = .next
      { completed s with line.replyQ := rest ++ [h], line.heldReplies := held }) ∧
  ((∀ (s : State) (p : DataPart) (rest : List DataPart) (d : Sending), s.loader.phase = .running → OnOffer .data s →
    s.line.dataQ = p :: rest → s.recs.sending = some d → p.part + 1 < 4 * s.cfg.blockPages →
    exec .dataOwnCompletion s = .next
      { completed s with
        line.dataQ := rest ++
          (List.range (min (16 - rest.length) (4 * s.cfg.blockPages - d.next))).map (fun i =>
            { dest := d.console, block := d.block, part := d.next + i
              data := blockRead (blockAt d.block s).pages (64 * (d.next + i)) 64 s.recs.pool })
        recs.sending := some
          { d with next := d.next + min (16 - rest.length) (4 * s.cfg.blockPages - d.next) } }) ∧
  ∀ (s : State) (p : DataPart) (rest : List DataPart) (d : Sending), s.loader.phase = .running → OnOffer .data s →
    s.line.dataQ = p :: rest → s.recs.sending = some d → 4 * s.cfg.blockPages ≤ p.part + 1 → s.recs.fetchQ = [] →
    exec .dataOwnCompletion s = .next
      { completed s with
        line.dataQ := rest
        recs.sending := none
        recs.table := modifyAt (fun e => { e with state := .sent }) d.block s.recs.table }) ∧
  (∀ (s : State) (p : DataPart) (rest : List DataPart) (d : Sending) (b : Nat) (queue : List Nat) (r : FetchRequest)
    (waiting : List FetchRequest), s.loader.phase = .running → OnOffer .data s → s.line.dataQ = p :: rest →
    s.recs.sending = some d → 4 * s.cfg.blockPages ≤ p.part + 1 → s.recs.sealedQ = b :: queue →
    s.recs.fetchQ = r :: waiting → (∀ q ∈ waiting, s.age < q.expiry) → s.line.replyQ.length < 4 →
    exec .dataOwnCompletion s = .next (sendStarted b r.console
      { completed s with
        line.dataQ := rest
        line.replyQ := s.line.replyQ ++
          [{ dest := r.console, kindCode := 0x48, result := .done, reason := .none, data := [] }]
        recs.sending := none
        recs.fetchQ := waiting.map (fun q => { q with joinedSending := false })
        recs.table := modifyAt (fun e => { e with state := .sent }) d.block s.recs.table })) ∧
  ∀ (s : State) (p : DataPart) (rest : List DataPart) (d : Sending), s.loader.phase = .running → OnOffer .data s →
    s.line.dataQ = p :: rest → s.recs.sending = some d → 4 * s.cfg.blockPages ≤ p.part + 1 → s.recs.sealedQ = [] →
    (∀ q ∈ s.recs.fetchQ, q.joinedSending = true) → s.line.replyQ.length + s.recs.fetchQ.length ≤ 4 →
    exec .dataOwnCompletion s = .next
      { completed s with
        line.dataQ := rest
        line.replyQ := s.line.replyQ ++ (s.recs.fetchQ.filter (fun q => decide (q.expiry ≤ s.age))).map (fun q =>
          { dest := q.console, kindCode := 0x48, result := .empty, reason := .none, data := [] })
        recs.sending := none
        recs.fetchQ := (s.recs.fetchQ.filter (fun q => decide (s.age < q.expiry))).map (fun q =>
          { q with joinedSending := false })
        recs.table := modifyAt (fun e => { e with state := .sent }) d.block s.recs.table }

/-- CHARGE_OWN_COMPLETION takes the decision of the pump window (R90): the entries out of window are removed, those
left are counted, the own entry is appended; with a count below 4 the pressurisation starts, with 4 or more the
station goes on waiting with no telegram of its own placed. A CHARGING entered with PRESS_OK true is LIVE at once and
answers DONE (R77, R165). An own telegram left over from an ended wait is appended like any other and starts nothing
(R91); with the slot empty again a station that waits then places the telegram of its wait where fewer than 4 entries
are in window (R89). And only that decision, with that count, takes a station out of the wait into a pressurisation.
-/
def Obligations.PumpWindowDecidesTheStart : Prop :=
  (∀ (s : State) (q : QueuedCommand), s.loader.phase = .running → OnOffer .charge s → s.act.state = .waitWindow →
    s.act.ownPlaced = some true → s.cmd.current = some q → s.act.purpose = some .charge → (inWindow s).length < 4 →
    s.pins.pressOk = false →
    ∃ t, exec .chargeOwnCompletion s = .next t ∧ t.act.state = .charging ∧ valveLines t = (true, false, false) ∧
      t.act.chargeTimer = some (s.age + 10 * s.cfg.tChg) ∧ t.act.purpose = none ∧
      t.act.chargeList = inWindow s ++ [{ station := ownStation s, age := s.age }] ∧ t.act.ownPlaced = none ∧
      t.line.chargeSlot = none ∧ t.cmd = s.cmd) ∧
  (∀ (s : State) (console : Nat), s.loader.phase = .running → OnOffer .charge s → s.act.state = .waitWindow →
    s.act.ownPlaced = some true → s.cmd.current = some { kind := .charge, console := console } →
    s.act.purpose = some .charge → (inWindow s).length < 4 → s.pins.pressOk = true →
    ∃ t, exec .chargeOwnCompletion s = .next (startCommands t) ∧ t.act.state = .live ∧
      valveLines t = (true, false, false) ∧ t.act.chargeTimer = none ∧ t.act.purpose = none ∧
      t.act.chargeList = inWindow s ++ [{ station := ownStation s, age := s.age }] ∧ t.act.ownPlaced = none ∧
      t.line.chargeSlot = none ∧ t.cmd.current = none ∧ HasEvent 9 t ∧
      (s.recs.fetchQ = [] → LateReply console 0x4D .done .none s t)) ∧
  (∀ (s : State) (q : QueuedCommand), s.loader.phase = .running → OnOffer .charge s → s.act.state = .waitWindow →
    s.act.ownPlaced = some true → s.cmd.current = some q → s.act.purpose = some .unlock → (inWindow s).length < 4 →
    ∃ t, exec .chargeOwnCompletion s = .next t ∧ t.act.state = .unlockCharge ∧ t.act.releasing = false ∧
      valveLines t = (true, false, true) ∧ t.servo.integral = 0 ∧ t.act.lockCheck = none ∧
      t.act.deadline = some (s.age + 10 * (s.cfg.tChg + s.cfg.tAcq + s.cfg.tLock)) ∧ t.act.purpose = none ∧
      t.act.chargeList = inWindow s ++ [{ station := ownStation s, age := s.age }] ∧ t.act.ownPlaced = none ∧
      t.line.chargeSlot = none ∧ t.cmd = s.cmd) ∧
  (∀ (s : State) (q : QueuedCommand), s.loader.phase = .running → OnOffer .charge s → s.act.state = .waitWindow →
    s.act.ownPlaced = some true → s.cmd.current = some q → 4 ≤ (inWindow s).length →
    exec .chargeOwnCompletion s = .next
      { completed s with
        line.chargeSlot := none
        act.ownPlaced := none
        act.ownHeld := false
        act.chargeList :=
          (if 8 ≤ (inWindow s).length then (inWindow s).drop 1 else inWindow s) ++
            [{ station := ownStation s, age := s.age }] }) ∧
  (∀ s : State, s.loader.phase = .running → OnOffer .charge s → s.act.state ≠ .waitWindow →
    exec .chargeOwnCompletion s = .next (startCommands
      { completed s with line.chargeSlot := none, act.ownPlaced := none, act.chargeList := withOwnCharge s })) ∧
  (∀ (s : State) (q : QueuedCommand) (p : ChargePurpose), s.loader.phase = .running → OnOffer .charge s →
    s.act.state = .waitWindow → s.act.ownPlaced ≠ some true → s.cmd.current = some q → s.act.purpose = some p →
    exec .chargeOwnCompletion s = .next
      (let kept := (withOwnCharge s).filter (fun e => decide (s.age - e.age < 10 * s.cfg.wPump))
       { completed s with
        line.chargeSlot := if kept.length < 4 then some p else none
        act.ownPlaced := if kept.length < 4 then some true else none
        act.ownHeld := false
        act.chargeList := kept })) ∧
  ∀ (c : Instr) (s t : State), exec c s = .next t → s.act.state = .waitWindow →
    (t.act.state = .charging ∨ t.act.state = .live ∨ t.act.state = .unlockCharge) →
    c = .chargeOwnCompletion ∧ s.act.ownPlaced = some true ∧ (inWindow s).length < 4

/-- SHUNT_CLAIM_OWN_COMPLETION in CLAIMING: the claim goes to the claim holder as any other, and the scanner enters
BEFORE when it holds the group and WAITING when another station does (R108, R111). SHUNT_DONE_OWN_COMPLETION empties
the slot, releases the group where the own station holds it, and places a claim held for the slot (R7, R108, R110). -/
def Obligations.OwnShuntTelegramsReachTheHolder : Prop :=
  (∀ (s : State), s.loader.phase = .running → OnOffer .shunt s → s.cfg.excitation ≠ 0 →
    s.line.shuntSlot = some { isDone := false, group := s.cfg.excitation } → s.line.shuntDoneBehind = false →
    s.scan.shunt = .claiming → s.scan.claimHeld = false →
    (s.scan.holder = none → exec .shuntClaimOwnCompletion s = .next
      { completed s with
        line.shuntSlot := none
        scan.holder := some { station := ownStation s, age := s.age }
        scan.shunt := .before
        scan.shuntActive := true
        scan.shuntScans := 0
        scan.channels := s.scan.channels.map (fun ch => { ch with beforeSum := 0, onSum := 0 }) }) ∧
    (∀ h, s.scan.holder = some h → h.station ≠ ownStation s → exec .shuntClaimOwnCompletion s = .next
      { completed s with line.shuntSlot := none, scan.shunt := .waiting })) ∧
  (∀ (s : State), s.loader.phase = .running → OnOffer .shunt s → s.cfg.excitation ≠ 0 →
    s.line.shuntSlot = some { isDone := true, group := s.cfg.excitation } → s.line.shuntDoneBehind = false →
    s.scan.shunt ≠ .waiting →
    exec .shuntDoneOwnCompletion s = .next
      { completed s with
        line.shuntSlot := if s.scan.claimHeld then some { isDone := false, group := s.cfg.excitation } else none
        scan.claimHeld := false
        scan.holder :=
          match s.scan.holder with
          | some h => if h.station = ownStation s then none else some h
          | none => none })

/-- STATUS_TIMER_EXPIRY reloads the timer, counts the period where a telegram is pending and none of the own has
completed, else returns the count to 0, and places, merges or marks the STATUS; at the fifth such period LINE_FAULT is
set, and a running station raises it with HOLD and reports the cause (R9, R14, R15): an own raise, which places its
ALARM telegram with the values of the moment, lost where four wait (R12, R136), and orders a cut and capture (R139,
R155). -/
def Obligations.StatusTimerPlacesAndWatches : Prop :=
  (∀ (s : State) (due : Nat), lineSends s = true → s.line.statusTimer = some due → due ≤ s.age →
    (¬ TelegramPending s ∨ s.line.ownCompleted = true ∨ s.line.faultCount < 4 ∨ s.line.lineFault = true) →
    exec .statusTimerExpiry s = .next
      { s with
        line.statusTimer := some (s.age + 10 * s.line.statusPeriod)
        line.ownCompleted := false
        line.faultCount :=
          if TelegramPending s ∧ s.line.ownCompleted = false then min (s.line.faultCount + 1) 5 else 0
        line.statusSlot :=
          match s.line.statusSlot with
          | .empty => .waiting
          | .waiting => .waiting
          | .taken snapshot _ => .taken snapshot true }) ∧
  (∀ (s : State) (due : Nat), s.loader.phase = .configFault → 1 ≤ ownStation s → ownStation s ≤ 27 →
    s.line.statusTimer = some due → due ≤ s.age → TelegramPending s → s.line.ownCompleted = false →
    4 ≤ s.line.faultCount → s.line.lineFault = false →
    ∃ t, exec .statusTimerExpiry s = .next t ∧ t.line.faultCount = 5 ∧ t.line.lineFault = true ∧ t.alarm = s.alarm ∧
      t.line.statusTimer = some (s.age + 10 * s.line.statusPeriod) ∧ t.line.statusSlot ≠ .empty) ∧
  ∀ (s : State) (due : Nat), s.loader.phase = .running → s.line.statusTimer = some due → due ≤ s.age →
    TelegramPending s → s.line.ownCompleted = false → 4 ≤ s.line.faultCount → s.line.lineFault = false →
    ∃ t, exec .statusTimerExpiry s = .next t ∧ t.line.faultCount = 5 ∧ t.line.lineFault = true ∧
      Cause.lineFault ∈ t.alarm.causes ∧ t.alarm.latch = latchMax s.alarm.latch .hold ∧ HasEvent 5 t ∧
      t.line.statusTimer = some (s.age + 10 * s.line.statusPeriod) ∧ t.line.statusSlot ≠ .empty ∧
      t.line.alarmQ = withTelegram
        { kind := .lineFault, channel := 0, action := .hold, lam := s.servo.lam, step := s.seq.step
          fMeas := s.servo.fMeas, timeTag := s.cmd.timeTag } s ∧
      CaptureOrdered .lineFault s t

/-- RECEIVED_TELEGRAM_DISCARD: bytes that an abort mark ends change nothing, whatever they are (R3, R4); nor do bytes
that are not a whole telegram, or that no class, kind, length, sender or destination of R5 admits; bytes up to an end
mark that are a telegram of the tables are the command they spell. A telegram as sent is discarded when it is of class
5, 6 or 7, when its destination byte has an upper bit set, when class 0, 1, 3 or 4 carries a kind or a length that
Table 1-2 does not give it or a sender outside 1 to 27, and when class 2 carries a sender outside 28 to 31 or a
destination that is neither 0 nor the own number (R5). That one command brings all of these, and carries the mark, is
the model's reading of the row (log entry 7). -/
def Obligations.ReceivedBytesAreDiscardedOrHandedOn : Prop :=
  (∀ (own cls sender dest kind : Nat) (payload : List Byte), cls < 8 → sender < 32 → dest < 256 → kind < 256 →
    (cls = 7 ∨ 32 ≤ dest ∨ (cls ≠ 2 ∧ ¬ KindOfClass cls kind payload.length) ∨
      ((cls = 0 ∨ cls = 1 ∨ cls = 3 ∨ cls = 4) ∧ (sender = 0 ∨ 27 < sender)) ∨ (cls = 2 ∧ sender < 28) ∨
      (cls = 2 ∧ dest ≠ 0 ∧ dest ≠ own) ∨ cls = 5 ∨ cls = 6) →
    decodeTelegram own (frame cls sender dest kind payload) = none) ∧
  (∀ (bytes : List Byte) (s : State), exec (.receivedTelegramDiscard { bytes := bytes, mark := .abortMark }) s = .next s) ∧
  (∀ (bytes : List Byte) (mark : ClosingMark) (s : State), telegramWhole bytes = false →
    exec (.receivedTelegramDiscard { bytes := bytes, mark := mark }) s = .next s) ∧
  (∀ (bytes : List Byte) (mark : ClosingMark) (s : State), decodeTelegram (ownStation s) bytes = none →
    exec (.receivedTelegramDiscard { bytes := bytes, mark := mark }) s = .next s) ∧
  ∀ (bytes : List Byte) (s : State) (c : Instr), decodeTelegram (ownStation s) bytes = some c →
    exec (.receivedTelegramDiscard { bytes := bytes, mark := .endMark }) s = exec c s

/-- What a station sends is what another takes: the bytes of every ALARM, CHARGE, SHUNT_CLAIM, SHUNT_DONE and STATUS
that the arbiter offers, with any field values their widths carry, are read by any station as that telegram, from that
sender, with the same fields (R1, R4, R5, R10, Tables 1-1 to 1-5). A console's telegram to this station or to all,
framed in the same way, is read as the command of Table 1-6 that its kind names, with its payload's fields; of
whatever kind and length it is handed on with that kind and length, for the command unit to refuse (R5, Table 1-6). -/
def Obligations.SentTelegramsAreReadAsSent : Prop :=
  (∀ (own sender dest : Nat), 28 ≤ sender → sender ≤ 31 → (dest = 0 ∨ dest = own) → dest < 32 →
    let head : Nat → CommandHead := fun n => { sender := sender, dest := dest, len := n }
    let read : Nat → List Byte → Option Instr := fun kind payload =>
      decodeTelegram own (frame 2 sender dest kind payload)
    (read 0x41 [] = some (.clearprog (head 0)) ∧ read 0x42 [] = some (.run (head 0)) ∧
      read 0x43 [] = some (.hold (head 0)) ∧ read 0x44 [] = some (.resume (head 0)) ∧
      read 0x45 [] = some (.unload (head 0)) ∧ read 0x4A [] = some (.cut (head 0)) ∧
      read 0x4D [] = some (.charge (head 0)) ∧ read 0x4E [] = some (.vent (head 0)) ∧
      read 0x4F [] = some (.lock (head 0)) ∧ read 0x50 [] = some (.unlock (head 0)) ∧
      read 0x51 [] = some (.cleartrip (head 0)) ∧ read 0x52 [] = some (.zero (head 0)) ∧
      read 0x53 [] = some (.shunt (head 0))) ∧
    (∀ q : SegmentRequest, q.index < 256 → q.target < 65536 → q.rate < 65536 → q.hold < 65536 → q.settle < 256 →
      q.extension < 65536 → q.loopTo < 256 → q.loopCount < 65536 →
      read 0x40 (leBytes 1 q.index ++ leBytes 2 q.target ++ leBytes 2 q.rate ++ leBytes 2 q.hold ++
        leBytes 1 q.settle ++ leBytes 2 q.extension ++ leBytes 1 q.loopTo ++ leBytes 2 q.loopCount) =
          some (.program (head 13) q)) ∧
    (∀ all source kind channel : Nat, all < 256 → source < 256 → kind < 256 → channel < 256 →
      read 0x46 (leBytes 1 all ++ leBytes 1 source ++ leBytes 1 kind ++ leBytes 1 channel) =
        some (.ack (head 4) all source kind channel)) ∧
    (∀ n wait : Nat, n < 256 → wait < 65536 →
      read 0x47 (leBytes 1 n) = some (.accept (head 1) n) ∧ read 0x49 (leBytes 1 n) = some (.free (head 1) n) ∧
        read 0x48 (leBytes 1 n ++ leBytes 2 wait) = some (.fetch (head 3) n wait)) ∧
    (∀ tag : Tag, read 0x4B (leBytes 4 tag.toNat) = some (.timeset (head 4) tag)) ∧
    (∀ subject n : Nat, subject < 256 → n < 256 →
      read 0x4C (leBytes 1 subject ++ leBytes 1 n) =
        some (match subject with
          | 1 => .queryCrack (head 2) n
          | 2 => .queryAlarms (head 2) n
          | 3 => .queryStrain (head 2) n
          | 4 => .queryPeer (head 2) n
          | _ => .queryOtherSubject (head 2) subject n)) ∧
    ∀ (kind : Nat) (payload : List Byte), kind < 256 → payload.length ≤ 66 →
      ∃ c, read kind payload = some c ∧ telegramOf c = some (head payload.length, kind) ∧ RowOfItsOwn c) ∧
  (∀ (own : Nat) (s : State) (a : AlarmTelegram) (rest : List AlarmTelegram),
    1 ≤ ownStation s → ownStation s ≤ 27 → s.line.alarmQ = a :: rest → a.channel < 256 → a.lam < 65536 →
    a.step < 4294967296 → -2147483648 ≤ a.fMeas → a.fMeas < 2147483648 →
    decodeTelegram own (headTelegram .alarm s) = some (.alarmHeard (ownStation s)
      { kindCode := kindCode a.kind, channel := a.channel, actionCode := latchCode a.action, lam := a.lam, step := a.step
        fMeas := a.fMeas, timeTag := a.timeTag })) ∧
  (∀ (own : Nat) (s : State) (p : ChargePurpose), 1 ≤ ownStation s → ownStation s ≤ 27 → s.line.chargeSlot = some p →
    decodeTelegram own (headTelegram .charge s) = some (.chargeHeard (ownStation s) (purposeCode p))) ∧
  (∀ (own : Nat) (s : State) (group : Nat), 1 ≤ ownStation s → ownStation s ≤ 27 → group < 256 →
    s.line.shuntSlot = some { isDone := false, group := group } →
    decodeTelegram own (headTelegram .shunt s) = some (.shuntClaimHeard (ownStation s) group)) ∧
  (∀ (own : Nat) (s : State) (group : Nat), 1 ≤ ownStation s → ownStation s ≤ 27 → group < 256 →
    s.line.shuntSlot = some { isDone := true, group := group } →
    decodeTelegram own (headTelegram .shunt s) = some (.shuntDoneHeard (ownStation s) group)) ∧
  ∀ (own : Nat) (s : State), 1 ≤ ownStation s → ownStation s ≤ 27 → s.seq.step < 4294967296 → s.seq.segment < 256 →
    s.servo.lam < 65536 → -2147483648 ≤ s.servo.fMeas → s.servo.fMeas < 2147483648 → s.line.loadGroup < 8 →
    s.recs.freePages < 65536 →
    decodeTelegram own (headTelegram .status s) = some (.statusReceived (ownStation s)
      { seqState := s.seq.state, phase := reportedPhase s.seq, step := s.seq.step, segment := s.seq.segment
        lam := s.servo.lam, fMeas := s.servo.fMeas, actuator := s.act.state, latch := s.alarm.latch
        flags := BitVec.ofNat 9 (statusFlags s), loadGroup := s.line.loadGroup, digest := s.seq.digest
        events := s.line.events, freePages := s.recs.freePages, startCause := causeCode (reportedCause s) })

/-! ### News of other stations -/

/-- STATUS_RECEIVED: the sender's record takes every reported field, is present, heard now, and expires k × P later;
its lost mark is clear and its last-seen latch the reported one (R18, R19, R22, R24). No other record changes. The
PEER_LOST cause of the station is reported gone where the record carried the lost mark, and no other cause changes
(R22). For a member MEMBER_ABSENT and DIGEST_MISMATCH_SEEN are what the records then show (R20, R26). Where it brings
no action edge: a sequencer waiting in DONE asks the gate and the digest again at a member's STATUS, and enters its
segment when both answers are yes (R27, R42 to R44); no other STATUS moves the sequencer; and the claim holder whose
STATUS shows SHUNT_ACTIVE clear is released, any other stays (R109). -/
def Obligations.StatusFillsThePeerRecord : Prop :=
  ∀ (n : Nat) (r : StatusReport) (s : State), Hears n s → s.peers.records.length = 27 →
    ∃ t, exec (.statusReceived n r) s = .next t ∧
      peerAt n t =
        { present := true, lastHeard := some s.age
          expiry := some (s.age + 10 * (s.cfg.peerTimeout * s.line.statusPeriod)), loadGroup := r.loadGroup
          seqState := r.seqState, phase := r.phase, step := r.step, segment := r.segment, lam := r.lam, fMeas := r.fMeas
          actuator := r.actuator, latch := r.latch, flags := r.flags, digest := r.digest, lastSeen := r.latch
          lost := false } ∧
      (∀ m, m ≠ n → peerAt m t = peerAt m s) ∧
      t.alarm.causes =
        (if (peerAt n s).lost then s.alarm.causes.filter (fun c => decide (c ≠ .peerLost n)) else s.alarm.causes) ∧
      (isMember n s = true →
        (t.peers.memberAbsent = true ↔
          ∃ m, 1 ≤ m ∧ m ≤ 27 ∧ m ≠ ownStation s ∧ isMember m s = true ∧ (peerAt m t).present = false) ∧
        (t.peers.digestMismatch = true ↔
          ∃ m, 1 ≤ m ∧ m ≤ 27 ∧ m ≠ ownStation s ∧ isMember m s = true ∧ (peerAt m t).present = true ∧
            (peerAt m t).digest ≠ t.seq.digest)) ∧
      (isMember n s = false ∨ latchCode r.latch ≤ latchCode (peerAt n s).lastSeen → CommandsFlow s →
        (isMember n s = true → s.seq.state = .run → s.seq.phase = some .done →
          ∀ c g, s.seq.choice = some c → s.seq.table.getD c none = some g → AsksInDone c g s t) ∧
        (isMember n s = false ∨ ¬ (s.seq.state = .run ∧ s.seq.phase = some .done) → t.seq = s.seq) ∧
        (∀ h, s.scan.holder = some h → h.station = n → r.flags.getLsbD 3 = false → HolderReleased s t) ∧
        (r.flags.getLsbD 3 = true ∨ (∀ h, s.scan.holder = some h → h.station ≠ n) →
          t.scan = s.scan ∧ t.line.shuntSlot = s.line.shuntSlot))

/-- A STATUS of a member with a latch above the last-seen one is a peer action edge: PEER_ACTION of that member is
raised with the reported latch as action, with no ALARM telegram (R136), and from HOLD up with the order of a cut and
capture (R139, R155); a latch at or below it, or a non-member's, raises nothing; the reported latch is the last-seen
one either way (R24, R138). -/
def Obligations.LatchRiseOfAMemberIsAnEdge : Prop :=
  (∀ (n : Nat) (r : StatusReport) (s : State), Hears n s → s.peers.records.length = 27 → isMember n s = true →
    latchCode (peerAt n s).lastSeen < latchCode r.latch →
    ∃ t, exec (.statusReceived n r) s = .next t ∧ t.alarm.latch = latchMax s.alarm.latch r.latch ∧ HasEvent 5 t ∧
      t.line.alarmQ = s.line.alarmQ ∧ (peerAt n t).lastSeen = r.latch ∧
      (latchAtLeast r.latch .hold = true → CaptureOrdered .peerAction s t) ∧
      (latchAtLeast r.latch .hold = false → t.recs.capture = s.recs.capture ∧ t.recs.scansLeft = s.recs.scansLeft ∧
        t.recs.captureKind = s.recs.captureKind) ∧
      (s.alarm.records.length < 24 →
        ∃ a ∈ t.alarm.records, keyOf a = (ownStation s, .peerAction, n) ∧ a.acked = false)) ∧
  ∀ (n : Nat) (r : StatusReport) (s : State), Hears n s → s.peers.records.length = 27 →
    (isMember n s = false ∨ latchCode r.latch ≤ latchCode (peerAt n s).lastSeen) →
    ∃ t, exec (.statusReceived n r) s = .next t ∧ t.alarm.latch = s.alarm.latch ∧ t.alarm.records = s.alarm.records ∧
      t.line.alarmQ = s.line.alarmQ ∧ (peerAt n t).lastSeen = r.latch

/-- PEER_RECORD_EXPIRY: the record becomes absent and keeps its reported fields; a member's absence sets
MEMBER_ABSENT, and in RUN, HELD or UNLOADING it sets the lost mark, raises PEER_LOST with HOLD and reports the cause
(R19 to R21), so that a sequencer in RUN is HELD with what it remembers, its timers stopped with what they have left,
the question it waits on in DONE with it (R42, R46). A claim holder whose record becomes absent is released, any other
stays (R109). -/
def Obligations.ExpiredRecordIsAbsent : Prop :=
  ∀ (n due : Nat) (s : State), Hears n s → s.peers.records.length = 27 → (peerAt n s).expiry = some due → due ≤ s.age →
    ∃ t, exec (.peerRecordExpiry n) s = .next t ∧
      peerAt n t =
        { peerAt n s with
          present := false
          expiry := none
          lost := (peerAt n s).lost ||
            (isMember n s &&
              decide (s.seq.state = .run ∨ s.seq.state = .held ∨ s.seq.state = .unloading)) } ∧
      (∀ m, m ≠ n → peerAt m t = peerAt m s) ∧
      (isMember n s = true → t.peers.memberAbsent = true) ∧
      (isMember n s = true → (s.seq.state = .run ∨ s.seq.state = .held ∨ s.seq.state = .unloading) →
        Cause.peerLost n ∈ t.alarm.causes ∧ t.alarm.latch = latchMax s.alarm.latch .hold ∧
          (RoomFor 1 s → Listed .peerLost n s t)) ∧
      (isMember n s = false ∨ s.seq.state = .idle ∨ s.seq.state = .ended → t.alarm = s.alarm) ∧
      (isMember n s = true → s.seq.state = .run → latchAtLeast s.alarm.latch .hold = false →
        t.seq = heldOf s) ∧
      (isMember n s = false ∨ s.seq.state ≠ .run → t.seq = s.seq) ∧
      (∀ h, s.scan.holder = some h → h.station = n → HolderReleased s t) ∧
      ((∀ h, s.scan.holder = some h → h.station ≠ n) → t.scan.holder = s.scan.holder ∧
        t.scan.shunt = s.scan.shunt ∧ t.line.shuntSlot = s.line.shuntSlot)

/-- ALARM_HEARD: a member's ALARM with a kind and an action of the tables is a raise with the sender as source; it
adds no cause and places no ALARM telegram; any other ALARM is discarded (R137). The list takes it as R133 gives:
merged into the record of its key, which keeps its place and its first values; else at the tail; at 24 records in the
room of the oldest acknowledged one, OVERFULL cleared; and with none acknowledged it is not stored and OVERFULL is
set. From HOLD up it orders a cut and capture, a NOTE none (R139, R155). -/
def Obligations.HeardAlarmIsRaisedOrDiscarded : Prop :=
  (∀ (n : Nat) (r : AlarmReport) (s : State) (k : AlarmKind) (a : Latch), Hears n s → isMember n s = true →
    kindOfCode r.kindCode = some k → actionOfCode r.actionCode = some a →
    ∃ t, exec (.alarmHeard n r) s = .next t ∧ t.alarm.latch = latchMax s.alarm.latch a ∧ HasEvent 5 t ∧
      t.alarm.causes = s.alarm.causes ∧ t.line.alarmQ = s.line.alarmQ ∧
      (s.alarm.records.length < 24 → ∃ b ∈ t.alarm.records, keyOf b = (n, k, r.channel) ∧ b.acked = false) ∧
      ((∃ b ∈ s.alarm.records, keyOf b = (n, k, r.channel)) →
        t.alarm.overfull = s.alarm.overfull ∧
        t.alarm.records = s.alarm.records.map (fun b =>
          if keyOf b = (n, k, r.channel) then
            { b with
              count := if b.count < 65535 then b.count + 1 else b.count
              lastTag := r.timeTag
              action := latchMax b.action a
              acked := false }
          else b)) ∧
      ((∀ b ∈ s.alarm.records, keyOf b ≠ (n, k, r.channel)) →
        (s.alarm.records.length < 24 →
          t.alarm.records = s.alarm.records ++ [heardRecord n k a r] ∧ t.alarm.overfull = s.alarm.overfull) ∧
        (∀ before b after, 24 ≤ s.alarm.records.length → s.alarm.records = before ++ b :: after →
          (∀ x ∈ before, x.acked = false) → b.acked = true →
          t.alarm.records = before ++ after ++ [heardRecord n k a r] ∧ t.alarm.overfull = false) ∧
        (24 ≤ s.alarm.records.length → (∀ x ∈ s.alarm.records, x.acked = false) →
          t.alarm.records = s.alarm.records ∧ t.alarm.overfull = true)) ∧
      (latchAtLeast a .hold = true → CaptureOrdered k s t) ∧
      (latchAtLeast a .hold = false → t.recs = s.recs)) ∧
  ∀ (n : Nat) (r : AlarmReport) (s : State), Hears n s →
    (isMember n s = false ∨ kindOfCode r.kindCode = none ∨ actionOfCode r.actionCode = none) →
    exec (.alarmHeard n r) s = .next (startCommands s)

/-- CHARGE_HEARD appends its sender and age whatever its purpose, with 8 held after removing the oldest (R88);
WINDOW_TIMER_EXPIRY removes what has left the window, and a waiting station without a telegram for its wait then
places one when fewer than 4 are left and the slot is empty (R88, R89). -/
def Obligations.ChargeListHoldsTheWindow : Prop :=
  (∀ (n purpose : Nat) (s : State), Hears n s →
    exec (.chargeHeard n purpose) s = .next
      { s with act.chargeList :=
          (if 8 ≤ s.act.chargeList.length then s.act.chargeList.drop 1 else s.act.chargeList) ++
            [{ station := n, age := s.age }] }) ∧
  (∀ (s : State) (e : ChargeEntry) (rest : List ChargeEntry) (p : ChargePurpose), s.loader.phase = .running →
    s.act.chargeList = e :: rest → e.age + 10 * s.cfg.wPump ≤ s.age → s.act.state = .waitWindow → NoOwnCharge s →
    s.act.purpose = some p → s.line.chargeSlot = none → (inWindow s).length < 4 →
    exec .windowTimerExpiry s = .next
      { s with act.chargeList := inWindow s, line.chargeSlot := some p, act.ownPlaced := some true }) ∧
  ∀ (s : State) (e : ChargeEntry) (rest : List ChargeEntry), s.loader.phase = .running →
    s.act.chargeList = e :: rest → e.age + 10 * s.cfg.wPump ≤ s.age →
    (s.act.state ≠ .waitWindow ∨ ¬ NoOwnCharge s ∨ 4 ≤ (inWindow s).length) →
    exec .windowTimerExpiry s = .next { s with act.chargeList := inWindow s }

/-- SHUNT_CLAIM_HEARD and SHUNT_DONE_HEARD act on the claim holder as the table of R108 gives, and a WAITING scanner
whose group is released claims again (R111); another group's telegram, or any at group 0, is discarded. -/
def Obligations.ClaimHolderFollowsTheTelegrams : Prop :=
  (∀ (n group : Nat) (s : State), Hears n s → (group ≠ s.cfg.excitation ∨ s.cfg.excitation = 0) →
    exec (.shuntClaimHeard n group) s = .next s ∧ exec (.shuntDoneHeard n group) s = .next s) ∧
  (∀ (n : Nat) (s : State), Hears n s → s.cfg.excitation ≠ 0 → s.scan.holder = none →
    exec (.shuntClaimHeard n s.cfg.excitation) s = .next
        { s with scan.holder := some { station := n, age := s.age } } ∧
      exec (.shuntDoneHeard n s.cfg.excitation) s = .next s) ∧
  ∀ (n : Nat) (s : State) (h : Holder), Hears n s → s.cfg.excitation ≠ 0 → s.scan.holder = some h →
    exec (.shuntClaimHeard n s.cfg.excitation) s = .next s ∧
    (h.station ≠ n → exec (.shuntDoneHeard n s.cfg.excitation) s = .next s) ∧
    (h.station = n → s.scan.shunt ≠ .waiting →
      exec (.shuntDoneHeard n s.cfg.excitation) s = .next { s with scan.holder := none }) ∧
    (h.station = n → s.scan.shunt = .waiting → s.line.shuntSlot = none →
      exec (.shuntDoneHeard n s.cfg.excitation) s = .next
        { s with
          scan.holder := none
          scan.shunt := .claiming
          scan.claimHeld := false
          line.shuntSlot := some { isDone := false, group := s.cfg.excitation } })

/-! ### The force servo and the level sequencer -/

/-- SERVO_TICK, stages 3 to 7 (R61 to R67): setpoint, measured force and error of the tick; in a state with drive the
PI law with its clamped candidate, its truncated quotient and the integral kept in a saturated output that the error
still pushes, and u on the drive output after a tick that leaves the state; in a state without drive u is 0 and I
keeps its value. A pending clear order has put I to 0 before the stages (R57). What the tick hands to the actuator
unit: a LOCKED start takes its first F_lockref from the tick's F_meas and loads the lock-check timer (R94); an
acquiring unlock makes the acquisition test on PRESS_OK and the tick's error (R82), and goes on unless the tick raises
OVERLOAD. -/
def Obligations.ServoTickFormsForceAndDrive : Prop :=
  (∀ (s : State) (code : Int) (due : Nat), s.loader.phase = .running → s.servo.timer = some due → due ≤ s.age →
    ∃ t, exec (.servoTick code) s = .next t ∧ t.servo.timer = some (s.age + 10) ∧ t.pins.loadCode = code ∧
      t.servo.fSet = ((s.cfg.fDesign * t.servo.lam / 10000 : Nat) : Int) ∧
      t.servo.fMeas = clampTo (-16000000) 16000000 (Int.tdiv ((code - s.servo.loadZero) * s.cfg.gain) 1000) ∧
      t.servo.error = clampTo (-8388607) 8388607 (t.servo.fSet - t.servo.fMeas) ∧
      (passesDrive s.act.state = true →
        let held := if s.servo.clearOrder then 0 else s.servo.integral
        let cand := clampTo (-2147418112) 2147418112 (held + s.cfg.ki * t.servo.error)
        let q := Int.tdiv (s.cfg.kp * t.servo.error + cand) 65536
        t.servo.drive = clampTo (-32767) 32767 q ∧
          t.servo.integral =
            (if (32767 < q ∧ 0 < t.servo.error) ∨ (q < -32767 ∧ t.servo.error < 0) then held else cand) ∧
          (t.act.state = s.act.state → t.pins.drive = t.servo.drive)) ∧
      (passesDrive s.act.state = false → t.servo.drive = 0 ∧ t.pins.drive = 0 ∧
        t.servo.integral = if s.servo.clearOrder then 0 else s.servo.integral)) ∧
  (∀ (s : State) (code : Int) (due : Nat), s.loader.phase = .running → s.servo.timer = some due → due ≤ s.age →
    s.act.state = .locked →
    ∃ t, exec (.servoTick code) s = .next t ∧
      (s.act.lockRefDue = true → t.act.lockRef = some t.servo.fMeas ∧ t.act.lockRefDue = false ∧
        t.act.lockCheck = some (s.age + (if aeQuiet s then 10000 else 5000) * s.cfg.lockInterval)) ∧
      (s.act.lockRefDue = false → t.act.lockRef = s.act.lockRef ∧ t.act.lockCheck = s.act.lockCheck)) ∧
  ∀ (s : State) (code : Int) (due : Nat), s.loader.phase = .running → s.servo.timer = some due → due ≤ s.age →
    s.act.state = .unlockCharge → s.act.releasing = false →
    ∃ t, exec (.servoTick code) s = .next t ∧
      (t.act.state = .unlockCharge → s.pins.pressOk = true → t.servo.error.natAbs ≤ s.cfg.bTrack →
        t.act.acquisition = some (match s.act.acquisition with
          | some running => running
          | none => s.age + 10 * s.cfg.tAcq)) ∧
      (t.act.state = .unlockCharge → s.pins.pressOk = false ∨ s.cfg.bTrack < t.servo.error.natAbs →
        t.act.acquisition = none) ∧
      (RunNeedsLive s → s.servo.overLimit = true ∨ t.servo.fMeas ≤ (s.cfg.fLimit : Int) ∨ s.alarm.latch = .dump →
        t.act.state = .unlockCharge)

/-- λ_floor and λ_ceiling are the least and the greatest of the own λ and the λ of the present, untripped members
(R23). -/
def Obligations.FloorAndCeilingBoundTheGroup : Prop :=
  ∀ s : State, lambdaFloor s ≤ s.servo.lam ∧ s.servo.lam ≤ lambdaCeiling s ∧
    (∀ n, isMember n s = true → n ≠ ownStation s → (peerAt n s).present = true → (peerAt n s).actuator ≠ .tripped →
      lambdaFloor s ≤ (peerAt n s).lam ∧ (peerAt n s).lam ≤ lambdaCeiling s) ∧
    (lambdaFloor s = s.servo.lam ∨ ∃ n, isMember n s = true ∧ n ≠ ownStation s ∧ (peerAt n s).present = true ∧
      (peerAt n s).actuator ≠ .tripped ∧ (peerAt n s).lam = lambdaFloor s) ∧
    (lambdaCeiling s = s.servo.lam ∨ ∃ n, isMember n s = true ∧ n ≠ ownStation s ∧ (peerAt n s).present = true ∧
      (peerAt n s).actuator ≠ .tripped ∧ (peerAt n s).lam = lambdaCeiling s)

/-- SERVO_TICK, stages 1 and 2 (R58 to R60), with no clear order pending: in LIVE without LAGGING, under a permission
to move, λ takes the candidate that the accumulator earns, clamped at the target and then at the lead bound, and A
keeps the remainder unless a clamp replaced the candidate; in every other case λ and A stay. A pending clear order
puts λ, A and I to 0 first (R57). A rise never passes λ_floor plus the lead, a fall never λ_ceiling minus it, and
under a latch of HOLD or above, where the sequencer is not in RUN, a tick does not increase λ. What a tick that does
not raise the latch hands to the sequencer: a RAMP whose λ is its working target is DWELL with the hold time running,
SETTLED clear, the references taken of the channels OK and settle-checked and the settle window started (R38, R102);
an UNLOADING at λ 0 is IDLE at step 0 (R48); in every other case nothing of the sequencer changes. -/
def Obligations.ServoTickMovesTheLevel : Prop :=
  (∀ (s t : State) (code : Int) (due : Nat) (w : WorkingCopy), s.loader.phase = .running → s.servo.timer = some due →
    due ≤ s.age → s.servo.clearOrder = false → s.act.state = .live → s.servo.lagging = false → s.seq.state = .run →
    s.seq.phase = some .ramp → s.seq.work = some w → s.servo.lam < w.target → exec (.servoTick code) s = .next t →
    let cand := s.servo.lam + (s.servo.acc + w.rate) / 1000
    let bound := lambdaFloor s + s.cfg.lead
    t.servo.lam =
        (if min cand w.target ≤ bound then min cand w.target else if s.servo.lam ≤ bound then bound
          else s.servo.lam) ∧
      t.servo.acc = if cand ≤ w.target ∧ cand ≤ bound then (s.servo.acc + w.rate) % 1000 else 0) ∧
  (∀ (s t : State) (code : Int) (due target rate : Nat), s.loader.phase = .running → s.servo.timer = some due →
    due ≤ s.age → s.servo.clearOrder = false → s.act.state = .live → s.servo.lagging = false →
    (s.seq.state = .unloading ∧ target = 0 ∧ rate = s.cfg.unloadRate ∨
      s.seq.state = .run ∧ s.seq.phase = some .ramp ∧
        ∃ w, s.seq.work = some w ∧ w.target = target ∧ w.rate = rate) →
    target ≤ s.servo.lam → exec (.servoTick code) s = .next t →
    let cand : Int := s.servo.lam - ((s.servo.acc + rate) / 1000 : Nat)
    let bound : Int := lambdaCeiling s - s.cfg.lead
    (t.servo.lam : Int) =
        (if bound ≤ max cand target then max cand target else if bound ≤ s.servo.lam then bound
          else s.servo.lam) ∧
      t.servo.acc = if (target : Int) ≤ cand ∧ bound ≤ cand then (s.servo.acc + rate) % 1000 else 0) ∧
  (∀ (s t : State) (code : Int), s.loader.phase = .running → s.servo.clearOrder = false →
    (s.act.state ≠ .live ∨ s.servo.lagging = true ∨
      ¬ (s.seq.state = .run ∧ s.seq.phase = some .ramp) ∧ s.seq.state ≠ .unloading) →
    exec (.servoTick code) s = .next t → t.servo.lam = s.servo.lam ∧ t.servo.acc = s.servo.acc) ∧
  (∀ (s t : State) (code : Int) (due : Nat), s.loader.phase = .running → s.servo.timer = some due → due ≤ s.age →
    s.servo.clearOrder = true → s.act.state ≠ .live → exec (.servoTick code) s = .next t →
    t.servo.lam = 0 ∧ t.servo.acc = 0 ∧
      (passesDrive s.act.state = false → t.servo.integral = 0)) ∧
  (∀ (s t : State) (code : Int), exec (.servoTick code) s = .next t →
    (s.servo.lam < t.servo.lam → t.servo.lam ≤ lambdaFloor s + s.cfg.lead) ∧
      (t.servo.lam < s.servo.lam → s.servo.clearOrder = false → lambdaCeiling s ≤ t.servo.lam + s.cfg.lead)) ∧
  (∀ (s t : State) (code : Int), LatchHolds s → latchAtLeast s.alarm.latch .hold = true →
    exec (.servoTick code) s = .next t → t.servo.lam ≤ s.servo.lam) ∧
  (∀ (s t : State) (code : Int) (due left : Nat) (w : WorkingCopy), s.loader.phase = .running →
    s.servo.timer = some due → due ≤ s.age → CommandsFlow s → s.seq.state = .run → s.seq.phase = some .ramp →
    s.seq.work = some w → s.seq.hold = .paused left → 0 < left → exec (.servoTick code) s = .next t →
    t.alarm.latch = s.alarm.latch → t.servo.lam = w.target →
    t.seq = { s.seq with phase := some .dwell, hold := .running (s.age + left) } ∧ t.scan.settled = false ∧
      t.scan.settleTimer = some (s.age + 10000 * s.cfg.settleWindow) ∧
      (∀ c, SettleChecked c s → (channelAt c t).ref = some (channelAt c s).latest) ∧
      ∀ c, ¬ SettleChecked c s → (channelAt c t).ref = none) ∧
  (∀ (s t : State) (code : Int) (due : Nat), s.loader.phase = .running → s.servo.timer = some due → due ≤ s.age →
    CommandsFlow s → s.seq.state = .unloading → exec (.servoTick code) s = .next t → t.alarm.latch = s.alarm.latch →
    t.servo.lam = 0 →
    t.seq = { s.seq with
      state := .idle, phase := none, step := 0, segment := 0, counters := List.replicate 32 0 }) ∧
  ∀ (s t : State) (code : Int) (due : Nat), s.loader.phase = .running → s.servo.timer = some due → due ≤ s.age →
    CommandsFlow s → exec (.servoTick code) s = .next t → t.alarm.latch = s.alarm.latch →
    (s.seq.state = .unloading → t.servo.lam ≠ 0) →
    (s.seq.state = .run → s.seq.phase = some .ramp → ∀ w, s.seq.work = some w → t.servo.lam ≠ w.target) →
    t.seq = s.seq

/-- What a raise of TRACKING_LOSS or OVERLOAD in a tick leaves: the latch is DUMP, ALARM_RAISED is set, and with room
for both the record is listed, in whichever order the two of one tick are raised. -/
def BandTrip (kind : AlarmKind) (s t : State) : Prop :=
  t.alarm.latch = .dump ∧ HasEvent 5 t ∧ (RoomFor 2 s → Listed kind 0 s t)

/-- SERVO_TICK, stage 8, by Table 4-2. In LIVE with the reacquire timer stopped LAGGING follows |e| against B_track;
in every other case it is clear (R68, R69). There and in LOCKING the trip count rises by 1 beyond B_trip and is 0 at
or within it; at T_trip TRACKING_LOSS is raised with DUMP and the count is 0; in every other case the count is 0 (R68,
R70). In every state but VENTED a force above F_limit that was not above it raises OVERLOAD with DUMP and reports the
cause, and a fall back reports it gone; in VENTED the over-limit flag is clear and its cause gone (R71). The reacquire
timer runs on through a tick in LIVE and is stopped by a tick in any other state (R68). Nothing is said of the order
in which one tick raises both. -/
def Obligations.ServoTickJudgesTheBands : Prop :=
  ∀ (s : State) (code : Int) (due : Nat), s.loader.phase = .running → s.servo.timer = some due → due ≤ s.age →
    ∃ t, exec (.servoTick code) s = .next t ∧
      (s.act.state = .live → s.servo.reacquire = none →
        (t.servo.lagging = true ↔ s.cfg.bTrack < t.servo.error.natAbs)) ∧
      (s.act.state ≠ .live ∨ s.servo.reacquire ≠ none → t.servo.lagging = false) ∧
      (s.act.state = .live ∧ s.servo.reacquire = none ∨ s.act.state = .locking →
        (t.servo.error.natAbs ≤ s.cfg.bTrip → t.servo.tripCount = 0) ∧
        (s.cfg.bTrip < t.servo.error.natAbs → s.servo.tripCount + 1 < s.cfg.tTrip →
          t.servo.tripCount = s.servo.tripCount + 1) ∧
        (s.cfg.bTrip < t.servo.error.natAbs → s.cfg.tTrip ≤ s.servo.tripCount + 1 →
          t.servo.tripCount = 0 ∧ BandTrip .trackingLoss s t)) ∧
      (¬ (s.act.state = .live ∧ s.servo.reacquire = none ∨ s.act.state = .locking) → t.servo.tripCount = 0) ∧
      (s.act.state ≠ .vented → (t.servo.overLimit = true ↔ (s.cfg.fLimit : Int) < t.servo.fMeas)) ∧
      (s.act.state = .vented → t.servo.overLimit = false) ∧
      (s.servo.overLimit = false → t.servo.overLimit = true →
        Cause.overLimit ∈ t.alarm.causes ∧ BandTrip .overload s t) ∧
      (s.servo.overLimit = true → t.servo.overLimit = false → Cause.overLimit ∉ t.alarm.causes) ∧
      t.servo.reacquire = (if s.act.state = .live then s.servo.reacquire else none)

/-- TRIP_COUNT_REACHED, where the count kept has reached T_trip, raises TRACKING_LOSS with DUMP and sets the count to
0; from a latch below DUMP the actuator trips and the sequencer is IDLE with a clear order placed (R70, R84, R86,
R49). REACQUIRE_TIMER_EXPIRY stops the reacquire timer and changes nothing else (R68). MISMATCH_TIMER_EXPIRY raises
PROGRAM_MISMATCH with HOLD, which from a latch below HOLD takes RUN to HELD remembering its phase, step, segment,
working copy, counters and choice, and the time its timers have left (R43, R46). The trip count row taken alone is the
model's reading (log entry 4). -/
def Obligations.TripReacquireAndMismatchExpire : Prop :=
  (∀ s : State, s.loader.phase = .running → (s.act.state = .live ∧ s.servo.reacquire = none ∨ s.act.state = .locking) →
    0 < s.servo.tripCount → s.cfg.tTrip ≤ s.servo.tripCount → s.alarm.latch ≠ .dump →
    ∃ t, exec .tripCountReached s = .next (startCommands t) ∧ t.servo.tripCount = 0 ∧ t.alarm.latch = .dump ∧
      t.act.state = .tripped ∧ valveLines t = (false, true, false) ∧ t.pins.drive = 0 ∧ t.seq.state = .idle ∧
      t.seq.step = 0 ∧ t.seq.work = none ∧ t.servo.clearOrder = true ∧ t.servo.lam = s.servo.lam ∧ HasEvent 10 t ∧
      HasEvent 5 t ∧ (RoomFor 1 s → Listed .trackingLoss 0 s t)) ∧
  (∀ (s : State) (due : Nat), s.loader.phase = .running → s.servo.reacquire = some due → due ≤ s.age →
    exec .reacquireTimerExpiry s = .next { s with servo.reacquire := none }) ∧
  ∀ (s : State) (due : Nat), s.loader.phase = .running → s.seq.mismatch = some due → due ≤ s.age →
    s.seq.state = .run → s.seq.phase = some .done → latchAtLeast s.alarm.latch .hold = false →
    ∃ t, exec .mismatchTimerExpiry s = .next t ∧ t.alarm.latch = .hold ∧ t.seq = heldOf s ∧ t.servo = s.servo ∧
      HasEvent 5 t ∧ (RoomFor 1 s → Listed .programMismatch 0 s t)

/-- HOLD_TIMER_EXPIRY in DWELL (R39 to R44): settle required and not met begins the extension, for which the timer
runs, and with no extension time NO_SETTLE is raised at once (under a latch below its action); otherwise the phase is
DONE: DWELL is left, the pass counter and the choice are those of R41, a choice that names an EMPTY entry ends the run
in ENDED, and any other stands in DONE or, with both answers yes, is entered, but that a step beyond 4,294,967,295 is
not made: the run ends in ENDED at the current segment (R44). The gate answer is yes when every present member reports
a step above the own, or the own with phase DONE (R27). -/
def Obligations.HoldExpiryJudgesSettle : Prop :=
  (∀ (s : State) (due : Nat) (w : WorkingCopy), s.loader.phase = .running → s.seq.state = .run →
    s.seq.phase = some .dwell → s.seq.hold = .running due → due ≤ s.age → s.seq.work = some w → w.settle = true →
    s.scan.settled = false →
    (0 < w.extension → exec .holdTimerExpiry s = .next (startCommands
      { s with
        seq.hold := .stopped
        seq.extensionUsed := true
        seq.extension := .running (s.age + 1000 * w.extension) })) ∧
    (w.extension = 0 → s.cfg.noSettleAction ≠ .none →
      (s.cfg.noSettleAction = .unload ∨ s.cfg.noSettleAction = .dump → s.act.state = .live) →
      (s.cfg.noSettleAction = .note ∨ latchCode s.alarm.latch < latchCode s.cfg.noSettleAction) →
      ∃ t, exec .holdTimerExpiry s = .next (startCommands t) ∧
        t.alarm.latch = latchMax s.alarm.latch s.cfg.noSettleAction ∧
        NoSettleRaised { s.seq with hold := .stopped, extension := .stopped, extensionUsed := true } s t)) ∧
  ∀ (s : State) (due : Nat) (w : WorkingCopy), s.loader.phase = .running → s.seq.state = .run →
    s.seq.phase = some .dwell → s.seq.hold = .running due → due ≤ s.age → s.seq.work = some w →
    (w.settle = false ∨ s.scan.settled = true) →
    ∃ t, exec .holdTimerExpiry s = .next (startCommands t) ∧ DoneReached s.seq s t ∧ t.servo = s.servo ∧
      t.alarm = s.alarm ∧ t.act = s.act

/-- EXTENSION_TIMER_EXPIRY in DWELL raises NO_SETTLE with the configured action (R40): with NOTE the phase is DONE in
the same event; with HOLD, from a latch below HOLD, the sequencer is HELD remembering DWELL with the extension spent
(R46); with UNLOAD, from a latch below it, it is UNLOADING (R47); with DUMP, from a latch below it, the actuator trips
and the sequencer is IDLE with a clear order placed (R49, R84, R86). -/
def Obligations.ExtensionExpiryRaisesNoSettle : Prop :=
  ∀ (s : State) (due : Nat), s.loader.phase = .running → s.seq.state = .run → s.seq.phase = some .dwell →
    s.seq.extension = .running due → due ≤ s.age → s.cfg.noSettleAction ≠ .none →
    (s.cfg.noSettleAction = .unload ∨ s.cfg.noSettleAction = .dump → s.act.state = .live) →
    (s.cfg.noSettleAction = .note ∨ latchCode s.alarm.latch < latchCode s.cfg.noSettleAction) →
    ∃ t, exec .extensionTimerExpiry s = .next (startCommands t) ∧
      t.alarm.latch = latchMax s.alarm.latch s.cfg.noSettleAction ∧
      NoSettleRaised { s.seq with extension := .stopped } s t

/-! ### The actuator unit -/

/-- PRESS_OK_CHANGE and LOCK_ENGAGED_CHANGE act in the states of R75 only: a rise of PRESS_OK takes CHARGING to LIVE
(R77) and a fall stops the acquisition timer while acquiring (R82); a seated nut takes LOCKING to LOCKED with
F_lockref taken (R79, R80), a fall of LOCK_ENGAGED in LOCKED reloads the lock-check timer and makes a lock check,
where F_lockref has been taken, which raises LOCK_DRIFT outside its band (R80, R92 to R94), and a lifted nut takes the
releasing unlock to LIVE with the reacquire timer started (R68, R82). The command that ends so is answered DONE
(R165). An entry into LIVE under a latch of UNLOAD takes HELD and ENDED to UNLOADING (R47). Every other change, in any
state, is read and nothing else; before the station runs the level is read, while the pin is held it is not (R170),
and a level that is the present one is no change. -/
def Obligations.InputsActInTheirStates : Prop :=
  (∀ s : State, s.loader.phase = .running → s.act.state = .charging → s.pins.pressOk = false →
    ∃ t, exec (.pressOkChange true) s = .next (startCommands t) ∧ t.pins.pressOk = true ∧ t.act.state = .live ∧
      valveLines t = (true, false, false) ∧ t.pins.drive = s.pins.drive ∧ t.act.chargeTimer = none ∧
      t.servo.reacquire = s.servo.reacquire ∧
      (∀ console, s.cmd.current = some { kind := .charge, console := console } →
        t.cmd.current = none ∧ HasEvent 9 t ∧ (s.recs.fetchQ = [] → LateReply console 0x4D .done .none s t)) ∧
      ((s.seq.state = .held ∨ s.seq.state = .ended) → s.alarm.latch = .unload → t.seq.state = .unloading) ∧
      (¬ ((s.seq.state = .held ∨ s.seq.state = .ended) ∧ s.alarm.latch = .unload) → t.seq = s.seq)) ∧
  (∀ s : State, s.loader.phase = .running → s.act.state = .unlockCharge → s.act.releasing = false →
    s.pins.pressOk = true →
    exec (.pressOkChange false) s = .next (startCommands { s with pins.pressOk := false, act.acquisition := none })) ∧
  (∀ s : State, s.loader.phase = .running → s.act.state = .locking → s.pins.lockEngaged = false →
    ∃ t, exec (.lockEngagedChange true) s = .next (startCommands t) ∧ t.pins.lockEngaged = true ∧
      t.act.state = .locked ∧ valveLines t = (false, false, true) ∧ t.pins.drive = 0 ∧ t.act.lockTimer = none ∧
      t.act.lockRef = some s.servo.fMeas ∧
      t.act.lockCheck = some (s.age + (if aeQuiet s then 10000 else 5000) * s.cfg.lockInterval) ∧
      (∀ console, s.cmd.current = some { kind := .lock, console := console } →
        t.cmd.current = none ∧ HasEvent 9 t ∧ (s.recs.fetchQ = [] → LateReply console 0x4F .done .none s t))) ∧
  (∀ s : State, s.loader.phase = .running → s.act.state = .unlockCharge → s.act.releasing = true →
    s.pins.lockEngaged = true →
    ∃ t, exec (.lockEngagedChange false) s = .next (startCommands t) ∧ t.pins.lockEngaged = false ∧
      t.act.state = .live ∧ valveLines t = (true, false, false) ∧ t.act.deadline = none ∧
      t.servo.reacquire = some (s.age + 10 * s.cfg.tAcq) ∧
      (∀ console, s.cmd.current = some { kind := .unlock, console := console } →
        t.cmd.current = none ∧ HasEvent 9 t ∧ (s.recs.fetchQ = [] → LateReply console 0x50 .done .none s t)) ∧
      ((s.seq.state = .held ∨ s.seq.state = .ended) → s.alarm.latch = .unload → t.seq.state = .unloading) ∧
      (¬ ((s.seq.state = .held ∨ s.seq.state = .ended) ∧ s.alarm.latch = .unload) → t.seq = s.seq)) ∧
  (∀ s : State, s.loader.phase = .running → s.act.state = .locked → s.pins.lockEngaged = true →
    (s.act.lockRefDue = true →
      exec (.lockEngagedChange false) s = .next (startCommands { s with pins.lockEngaged := false })) ∧
    (∀ ref, s.act.lockRefDue = false → s.act.lockRef = some ref → (s.servo.fMeas - ref).natAbs ≤ s.cfg.lockBand →
      exec (.lockEngagedChange false) s = .next (startCommands
        { s with
          pins.lockEngaged := false
          act.lockCheck := some (s.age + (if aeQuiet s then 10000 else 5000) * s.cfg.lockInterval) })) ∧
    (∀ ref, s.act.lockRefDue = false → s.act.lockRef = some ref → s.cfg.lockBand < (s.servo.fMeas - ref).natAbs →
      ∃ t, exec (.lockEngagedChange false) s = .next (startCommands t) ∧ t.pins.lockEngaged = false ∧
        t.act = { s.act with
          lockCheck := some (s.age + (if aeQuiet s then 10000 else 5000) * s.cfg.lockInterval) } ∧
        t.alarm.latch = latchMax s.alarm.latch s.cfg.driftAction ∧ HasEvent 5 t ∧
        (RoomFor 1 s → Listed .lockDrift 0 s t))) ∧
  (∀ (s : State) (level : Bool), s.loader.phase = .running →
    (s.act.state = .vented ∨ s.act.state = .live ∨ s.act.state = .waitWindow ∨ s.act.state = .tripped) →
    (s.pins.pressOk ≠ level →
      exec (.pressOkChange level) s = .next (startCommands { s with pins.pressOk := level })) ∧
    (s.pins.lockEngaged ≠ level →
      exec (.lockEngagedChange level) s = .next (startCommands { s with pins.lockEngaged := level }))) ∧
  (∀ (s : State) (level : Bool), s.loader.phase = .running → s.pins.pressOk ≠ level →
    (s.act.state = .charging ∧ level = false ∨ s.act.state = .locking ∨ s.act.state = .locked ∨
      s.act.state = .unlockCharge ∧ (s.act.releasing = true ∨ level = true)) →
    exec (.pressOkChange level) s = .next (startCommands { s with pins.pressOk := level })) ∧
  (∀ (s : State) (level : Bool), s.loader.phase = .running → s.pins.lockEngaged ≠ level →
    (s.act.state = .charging ∨ s.act.state = .locking ∧ level = false ∨ s.act.state = .locked ∧ level = true ∨
      s.act.state = .unlockCharge ∧ (s.act.releasing = false ∨ level = true)) →
    exec (.lockEngagedChange level) s = .next (startCommands { s with pins.lockEngaged := level })) ∧
  ∀ (s : State) (level : Bool),
    (s.loader.phase = .reading ∨ s.loader.phase = .configFault →
      exec (.pressOkChange level) s = .next { s with pins.pressOk := level } ∧
        exec (.lockEngagedChange level) s = .next { s with pins.lockEngaged := level }) ∧
    (s.loader.phase = .held ∨ s.pins.pressOk = level → exec (.pressOkChange level) s = .next s) ∧
    (s.loader.phase = .held ∨ s.pins.lockEngaged = level → exec (.lockEngagedChange level) s = .next s)

/-- ESTOP_ACTIVE trips every state but LOCKED and TRIPPED, with a command in progress at the unit ended and the drive
at 0, and a running station then raises ESTOP with DUMP and reports the cause; ESTOP_INACTIVE removes the cause and
changes no state (R85, R86, R94). The rise of the latch to DUMP ends an own shunt that runs: the switches are off,
SHUNT_ACTIVE is clear, the command is REFUSED ACTION, and a SHUNT_DONE is placed (R115): it replaces a claim that is
not in transmission, on offer or not, which is never sent, and waits behind one that is (R7). That where the claim is
on offer and its arbitration not won the SHUNT_DONE goes on offer in its place, within the same arbitration, is the
model's choice (log entry 6). -/
def Obligations.EstopTripsAndItsEndChangesNoState : Prop :=
  (∀ s : State, s.loader.phase ≠ .held → s.pins.estop = false → s.act.state ≠ .locked → s.act.state ≠ .tripped →
    ∃ t, exec .estopActive s = .next (startCommands t) ∧ t.pins.estop = true ∧ t.act.state = .tripped ∧
      valveLines t = (false, true, false) ∧ t.pins.drive = 0 ∧ t.act.chargeTimer = none ∧ t.act.lockTimer = none ∧
      t.act.deadline = none ∧ t.act.acquisition = none ∧ t.act.lockCheck = none ∧ t.act.ownHeld = false ∧
      t.act.chargeList = s.act.chargeList ∧ t.seq.state = .idle ∧ t.seq.step = 0 ∧ t.servo.clearOrder = true ∧
      HasEvent 10 t ∧ (∀ q, s.cmd.current = some q → isActuatorCommand q.kind = true → t.cmd.current = none) ∧
      (s.loader.phase = .running → t.alarm.latch = .dump ∧ Cause.estop ∈ t.alarm.causes) ∧
      (s.loader.phase ≠ .running → t.alarm = s.alarm)) ∧
  (∀ s : State, s.loader.phase = .running → s.pins.estop = false →
    (s.act.state = .locked ∨ s.act.state = .tripped) →
    ∃ t, exec .estopActive s = .next (startCommands t) ∧ t.pins.estop = true ∧ t.act = s.act ∧
      valveLines t = valveLines s ∧ t.alarm.latch = .dump ∧ Cause.estop ∈ t.alarm.causes) ∧
  (∀ (s : State) (console : Nat), s.loader.phase = .running → s.pins.estop = false →
    (s.act.state = .locked ∨ s.act.state = .tripped) → s.alarm.latch ≠ .dump → s.scan.shunt ≠ .none →
    s.cmd.current = some { kind := .shunt, console := console } → s.line.replyQ.length < 4 → s.recs.fetchQ = [] →
    ∃ t, exec .estopActive s = .next (startCommands t) ∧ t.scan.shunt = .none ∧ t.scan.shuntActive = false ∧
      t.pins.shunts = 0 ∧ t.scan.claimHeld = (if s.cfg.excitation = 0 then s.scan.claimHeld else false) ∧
      HasEvent 6 t ∧ HasEvent 9 t ∧ t.cmd.current = none ∧
      t.line.replyQ = s.line.replyQ ++
        [{ dest := console, kindCode := 0x53, result := .refused, reason := .action, data := [] }] ∧
      (∀ c ∈ t.scan.channels, c.beforeSum = 0 ∧ c.onSum = 0) ∧
      (s.cfg.excitation = 0 → t.line.shuntSlot = s.line.shuntSlot ∧ t.line.tx = s.line.tx) ∧
      (s.cfg.excitation ≠ 0 → s.line.shuntSlot = none →
        t.line.shuntSlot = some { isDone := true, group := s.cfg.excitation } ∧ t.line.tx = s.line.tx) ∧
      (∀ g, s.cfg.excitation ≠ 0 → s.line.shuntSlot = some g → g.isDone = true →
        t.line.shuntSlot = some g ∧ t.line.tx = s.line.tx) ∧
      (∀ g, s.cfg.excitation ≠ 0 → s.line.shuntSlot = some g → g.isDone = false →
        (∀ bytes, s.line.tx = some { cls := .shunt, bytes := bytes, won := true } →
          t.line.shuntSlot = some g ∧ t.line.shuntDoneBehind = true ∧ t.line.tx = s.line.tx) ∧
        ((∀ x, s.line.tx = some x → x.cls = .shunt → x.won = false) →
          t.line.shuntSlot = some { isDone := true, group := s.cfg.excitation } ∧
          t.line.shuntDoneBehind = s.line.shuntDoneBehind ∧
          (∀ bytes, s.line.tx = some { cls := .shunt, bytes := bytes, won := false } →
            t.line.tx = some
              { cls := .shunt, won := false
                bytes := frame 3 (ownStation s) 0 0x04 [BitVec.ofNat 8 s.cfg.excitation] }) ∧
          ((∀ x, s.line.tx = some x → x.cls ≠ .shunt) → t.line.tx = s.line.tx)))) ∧
  ∀ s : State, s.loader.phase ≠ .held → s.pins.estop = true →
    exec .estopInactive s = .next
      (if s.loader.phase = .running then
        { s with
          pins.estop := false
          alarm.causes := s.alarm.causes.filter (fun c => decide (c ≠ .estop)) }
      else { s with pins.estop := false })

/-- The charge timer's expiry in CHARGING, the lock timer's in LOCKING and the unlock deadline's in UNLOCK_CHARGE each
raise their alarm with HOLD, CHARGE_FAIL, LOCK_FAIL or UNLOCK_FAIL, return the actuator to VENTED, LIVE or LOCKED with
that state's lines, and end the command in progress, answered REFUSED ACTUATOR (R77, R79, R83, R165). After
UNLOCK_FAIL the integral is 0 through LOCKED (R68, R83). -/
def Obligations.FailureTimersReturnTheActuator : Prop :=
  (∀ (s : State) (due : Nat), s.loader.phase = .running → s.act.state = .charging → s.act.chargeTimer = some due →
    due ≤ s.age →
    ∃ t, exec .chargeTimerExpiry s = .next (startCommands t) ∧ t.act.state = .vented ∧
      valveLines t = (false, true, false) ∧ t.pins.drive = 0 ∧ t.act.chargeTimer = none ∧
      t.alarm.latch = latchMax s.alarm.latch .hold ∧ HasEvent 5 t ∧
      (RoomFor 1 s → Listed .chargeFail 0 s t) ∧
      (∀ console, s.cmd.current = some { kind := .charge, console := console } →
        t.cmd.current = none ∧ HasEvent 9 t ∧
          (s.recs.fetchQ = [] → LateReply console 0x4D .refused .actuator s t))) ∧
  (∀ (s : State) (due : Nat), s.loader.phase = .running → s.act.state = .locking → s.act.lockTimer = some due →
    due ≤ s.age →
    ∃ t, exec .lockTimerExpiry s = .next (startCommands t) ∧ t.act.state = .live ∧
      valveLines t = (true, false, false) ∧ t.act.lockTimer = none ∧
      t.alarm.latch = latchMax s.alarm.latch .hold ∧ HasEvent 5 t ∧
      (RoomFor 1 s → Listed .lockFail 0 s t) ∧
      (∀ console, s.cmd.current = some { kind := .lock, console := console } →
        t.cmd.current = none ∧ HasEvent 9 t ∧
          (s.recs.fetchQ = [] → LateReply console 0x4F .refused .actuator s t))) ∧
  ∀ (s : State) (due : Nat), s.loader.phase = .running → s.act.state = .unlockCharge → s.act.deadline = some due →
    due ≤ s.age →
    ∃ t, exec .unlockDeadlineExpiry s = .next (startCommands t) ∧ t.act.state = .locked ∧
      valveLines t = (false, false, true) ∧ t.pins.drive = 0 ∧ t.act.deadline = none ∧ t.act.acquisition = none ∧
      t.act.lockRef = s.act.lockRef ∧ t.servo.integral = 0 ∧ t.alarm.latch = latchMax s.alarm.latch .hold ∧
      HasEvent 5 t ∧
      t.act.lockCheck = some (s.age + (if aeQuiet s then 10000 else 5000) * s.cfg.lockInterval) ∧
      (RoomFor 1 s → Listed .unlockFail 0 s t) ∧
      (∀ console, s.cmd.current = some { kind := .unlock, console := console } →
        t.cmd.current = none ∧ HasEvent 9 t ∧
          (s.recs.fetchQ = [] → LateReply console 0x50 .refused .actuator s t))

/-- ACQUISITION_TIMER_EXPIRY begins the release with LOCK_CMD off, and enters LIVE at once, the UNLOCK answered DONE,
when the nut is not seated (R82, R165). LOCK_CHECK_TIMER_EXPIRY reloads the timer with the interval in force and
raises LOCK_DRIFT, with its configured action, exactly when F_meas has left F_lockref by more than the lock band (R92,
R93). -/
def Obligations.ReleaseAndLockCheck : Prop :=
  (∀ (s : State) (due : Nat), s.loader.phase = .running → s.act.state = .unlockCharge → s.act.acquisition = some due →
    due ≤ s.age → s.pins.lockEngaged = true →
    exec .acquisitionTimerExpiry s = .next (startCommands
      { s with act.acquisition := none, act.releasing := true, pins.lockCmd := false })) ∧
  (∀ (s : State) (due : Nat), s.loader.phase = .running → s.act.state = .unlockCharge → s.act.acquisition = some due →
    due ≤ s.age → s.pins.lockEngaged = false →
    ∃ t, exec .acquisitionTimerExpiry s = .next (startCommands t) ∧ t.act.state = .live ∧
      valveLines t = (true, false, false) ∧ t.act.acquisition = none ∧ t.act.deadline = none ∧
      t.servo.reacquire = some (s.age + 10 * s.cfg.tAcq) ∧
      (∀ console, s.cmd.current = some { kind := .unlock, console := console } →
        t.cmd.current = none ∧ HasEvent 9 t ∧ (s.recs.fetchQ = [] → LateReply console 0x50 .done .none s t))) ∧
  (∀ (s : State) (due : Nat) (ref : Int), s.loader.phase = .running → s.act.lockCheck = some due → due ≤ s.age →
    s.act.lockRef = some ref → (s.servo.fMeas - ref).natAbs ≤ s.cfg.lockBand →
    exec .lockCheckTimerExpiry s = .next (startCommands
      { s with act.lockCheck := some (s.age + (if aeQuiet s then 10000 else 5000) * s.cfg.lockInterval) })) ∧
  ∀ (s : State) (due : Nat) (ref : Int), s.loader.phase = .running → s.act.state = .locked →
    s.act.lockCheck = some due → due ≤ s.age → s.act.lockRef = some ref →
    s.cfg.lockBand < (s.servo.fMeas - ref).natAbs →
    ∃ t, exec .lockCheckTimerExpiry s = .next (startCommands t) ∧ t.act.state = .locked ∧ t.act.lockRef = some ref ∧
      t.act.lockCheck = some (s.age + (if aeQuiet s then 10000 else 5000) * s.cfg.lockInterval) ∧
      t.alarm.latch = latchMax s.alarm.latch s.cfg.driftAction ∧ HasEvent 5 t ∧ (RoomFor 1 s → Listed .lockDrift 0 s t)

/-! ### The strain scanner -/

/-- The size of a sample in bytes: 12 and two for each enabled channel (R148). -/
def sampleWidth (s : State) : Nat :=
  12 + 2 * ((List.range 16).filter (fun c => decide ((channelAt c s).state ≠ .disabled))).length

/-- The samples a block holds (R148). -/
def samplesOf (s : State) : Nat :=
  (256 * s.cfg.blockPages - 32) / sampleWidth s

/-- The bytes of a sample with the averages of `t` and the AE counts of `s` (Table 9-6). -/
def sampleRow (offset : Nat) (s t : State) : List Byte :=
  leBytes 2 offset ++ leBytes 2 s.servo.lam ++ leSigned 4 s.servo.fMeas ++
    (List.range 4).flatMap (fun i => leBytes 1 (aeAt i s).count) ++
    (List.range 16).flatMap (fun c =>
      if (channelAt c t).state = .disabled then []
      else leSigned 2 (if (channelAt c t).latestOver then -32768 else roundDiv (channelAt c t).latest 10))

/-- Sample `i` of block `n` stands in the pool with its bytes. -/
def SampleStored (n i offset : Nat) (s t : State) : Prop :=
  blockRead (blockAt n t).pages (32 + i * sampleWidth s) (sampleWidth s) t.recs.pool = sampleRow offset s t

/-- The enabled channels as a mask, bit c for channel c (Table 9-5). -/
def channelMask (s : State) : Nat :=
  ((List.range 16).map (fun c => if (channelAt c s).state = .disabled then 0 else 2 ^ c)).sum

/-- The 32 header bytes of block `m` opened in `s`, the fields of the seal 0 (R149, Table 9-5). -/
def openedHeader (m : Nat) (s t : State) : List Byte :=
  leBytes 1 (ownStation s) ++ leBytes 1 m ++ leBytes 4 t.recs.serial.toNat ++ leBytes 4 s.cmd.timeTag.toNat ++
    leBytes 4 s.seq.step ++ leBytes 1 s.seq.segment ++ leBytes 1 (seqCode s.seq.state) ++
    leBytes 1 (phaseCode (reportedPhase s.seq)) ++ leBytes 1 0 ++
    leBytes 1 ((if 0 < s.recs.gap then 1 else 0) + (if s.recs.capture then 2 else 0) +
      (if t.recs.pressure then 4 else 0)) ++ leBytes 1 0 ++
    leBytes 1 (match s.recs.captureKind with | some k => kindCode k | none => 0) ++ leBytes 1 0 ++
    leBytes 2 s.recs.gap ++ leBytes 2 (channelMask s) ++ leBytes 1 (sampleWidth s) ++ leBytes 1 s.cfg.blockPages ++
    leBytes 4 0

/-- The free pages that an opening requires (R149). -/
def pagesRequired (s : State) : Nat :=
  if s.recs.capture then s.cfg.blockPages else 2 * s.cfg.blockPages

/-- The lowest-numbered FREE entry of the block table (R149). -/
def LowestFree (m : Nat) (s : State) : Prop :=
  m < 64 ∧ (blockAt m s).state = .free ∧ ∀ k, k < m → (blockAt k s).state ≠ .free

/-- A SCAN that completes its averaging run, with no ZERO and no shunt running and no exceed run at its end, so that
nothing is raised, over a record memory that adds up and has no request waiting. -/
def CompletesQuietly (due : Nat) (s : State) : Prop :=
  (s.loader.phase = .running ∧ s.scan.timer = some due ∧ due ≤ s.age ∧ s.scan.runLength ≤ s.scan.runTaken + 1 ∧
    s.scan.zero = none ∧ s.scan.shunt = .none ∧ s.scan.channels.length = 16 ∧
    ∀ c, c < 16 → (channelAt c s).state = .ok → (channelAt c s).exceed + 1 < (channelCfg c s).exceedCount) ∧
  CommandsFlow s ∧ PagesAddUp s ∧ PoolCanonical s ∧ 1 ≤ s.cfg.blockPages ∧ s.recs.fetchQ = []

/-- An opening for a sample: the lowest FREE entry takes pages that no block holds, with the header of Table 9-5, the
sample as its first and zeros behind it; the serial rises, the gap count is 0 and pressure is judged (R149, R153). -/
def OpenedForSample (m : Nat) (s t : State) : Prop :=
  (blockAt m t = { state := .filling, pages := (blockAt m t).pages, samples := 1, firstAge := s.age, lastOffset := 0 } ∧
    (blockAt m t).pages.length = s.cfg.blockPages ∧ ∀ p ∈ (blockAt m t).pages, p < 256 ∧ p ∉ heldPages s) ∧
  t.recs.freePages = s.recs.freePages - s.cfg.blockPages ∧ t.recs.serial = s.recs.serial + 1 ∧ t.recs.gap = 0 ∧
  t.recs.pressure = (if t.recs.freePages < 64 then true else if 96 ≤ t.recs.freePages then false
    else s.recs.pressure) ∧
  SampleStored m 0 0 s t ∧
  ∀ b, 32 + sampleWidth s ≤ b → b < 256 * s.cfg.blockPages → blockRead (blockAt m t).pages b 1 t.recs.pool = [0]

/-- The sample is dropped: the gap count rises to at most 65535, GAP is set, table and pool stay (R150). -/
def SampleDropped (s t : State) : Prop :=
  t.recs.gap = (if s.recs.gap < 65535 then s.recs.gap + 1 else s.recs.gap) ∧ HasEvent 1 t ∧
    t.recs.freePages = s.recs.freePages ∧ t.recs.serial = s.recs.serial ∧ t.recs.pressure = s.recs.pressure

/-- SCAN: every enabled channel's sample, converted and clamped, enters the averaging run with its marks (R96, R97,
R113); at the D-th scan each enabled channel's latest average is the rounded mean with its marks, the sums start
afresh and the AE counts go to the sample (R98, R99). AVERAGING_RUN_COMPLETE taken alone forms the same averages from
the sums as they stand (log entry 4). What a completed run writes (R148): with a block FILLING its next sample, by
Table 9-6, and nothing else of the block, sealed FULL with its last sample; a block whose first sample lies more than
65535 ms back is sealed TIME first; with none FILLING the lowest FREE entry is opened with its header (R149, Table
9-5), or, without an entry or the pages, the sample is dropped and counted as a gap (R150). -/
def Obligations.ScanAveragesItsSamples : Prop :=
  (∀ (s : State) (codes : List Int) (load : Int) (due : Nat), s.loader.phase = .running → s.scan.timer = some due →
    due ≤ s.age → s.scan.runTaken + 1 < s.scan.runLength → s.scan.zero = none → s.scan.shunt = .none →
    s.recs.capture = false →
    exec (.scan codes load) s = .next (startCommands
      { s with
        scan.timer := some (s.age + 10 * s.cfg.scanPeriod)
        pins.bridgeCodes := (List.range 16).map (fun c => codes.getD c 0)
        pins.loadCode := load
        scan.runTaken := s.scan.runTaken + 1
        scan.channels := mapFrom (fun c ch =>
          if ch.state = .disabled ∨ 16 ≤ c then ch
          else { ch with
            sum := ch.sum + sampleValue (codes.getD c 0) c s
            overMark := ch.overMark || sampleOver (codes.getD c 0) c s }) 0 s.scan.channels })) ∧
  (∀ (s : State) (codes : List Int) (load : Int) (due : Nat), s.loader.phase = .running → s.scan.timer = some due →
    due ≤ s.age → s.scan.runLength ≤ s.scan.runTaken + 1 →
    ∃ t, exec (.scan codes load) s = .next (startCommands t) ∧ t.scan.runTaken = 0 ∧
      t.scan.timer = some (s.age + 10 * s.cfg.scanPeriod) ∧ (∀ i ∈ t.crack.inputs, i.count = 0) ∧
      ∀ c, c < 16 → (channelAt c s).state ≠ .disabled →
        (channelAt c t).latest =
            roundDiv ((channelAt c s).sum + sampleValue (codes.getD c 0) c s) s.scan.runLength ∧
          (channelAt c t).latestOver = ((channelAt c s).overMark || sampleOver (codes.getD c 0) c s) ∧
          (channelAt c t).latestShunt =
            ((channelAt c s).shuntMark ||
              decide (s.scan.shunt = .onSettle ∨ s.scan.shunt = .on ∨ s.scan.shunt = .offSettle)) ∧
          (channelAt c t).sum = 0 ∧ (channelAt c t).overMark = false ∧ (channelAt c t).shuntMark = false) ∧
  (∀ s : State, s.loader.phase = .running → 0 < s.scan.runTaken →
    ∃ t, exec .averagingRunComplete s = .next (startCommands t) ∧ t.scan.runTaken = 0 ∧
      (∀ i ∈ t.crack.inputs, i.count = 0) ∧
      ∀ c, (channelAt c s).state ≠ .disabled →
        (channelAt c t).latest = roundDiv (channelAt c s).sum s.scan.runLength ∧
          (channelAt c t).latestOver = (channelAt c s).overMark ∧
          (channelAt c t).latestShunt = (channelAt c s).shuntMark ∧ (channelAt c t).sum = 0) ∧
  (∀ (s : State) (codes : List Int) (load : Int) (due n : Nat), CompletesQuietly due s →
    (blockAt n s).state = .filling → s.age - (blockAt n s).firstAge ≤ 655350 →
    (blockAt n s).samples < samplesOf s →
    ∃ t, exec (.scan codes load) s = .next t ∧
      SampleStored n (blockAt n s).samples ((s.age - (blockAt n s).firstAge) / 10) s t ∧
      (∀ m, m ≠ n → blockAt m t = blockAt m s) ∧ t.recs.freePages = s.recs.freePages ∧ t.recs.gap = s.recs.gap ∧
      t.recs.serial = s.recs.serial ∧
      ((blockAt n s).samples + 1 < samplesOf s →
        blockAt n t = { blockAt n s with
          samples := (blockAt n s).samples + 1, lastOffset := (s.age - (blockAt n s).firstAge) / 10 } ∧
        t.recs.sealedQ = s.recs.sealedQ ∧
        ∀ b, b < 256 * s.cfg.blockPages →
          (b < 32 + (blockAt n s).samples * sampleWidth s ∨
            32 + ((blockAt n s).samples + 1) * sampleWidth s ≤ b) →
          blockRead (blockAt n s).pages b 1 t.recs.pool = blockRead (blockAt n s).pages b 1 s.recs.pool) ∧
      (samplesOf s ≤ (blockAt n s).samples + 1 →
        blockAt n t = { blockAt n s with
          state := .sealed, samples := (blockAt n s).samples + 1
          lastOffset := (s.age - (blockAt n s).firstAge) / 10 } ∧
        t.recs.sealedQ = s.recs.sealedQ ++ [n] ∧ HasEvent 0 t ∧
        blockRead (blockAt n s).pages 17 1 t.recs.pool = [1] ∧ blockRead (blockAt n s).pages 19 1 t.recs.pool = [0] ∧
        blockRead (blockAt n s).pages 21 1 t.recs.pool = leBytes 1 ((blockAt n s).samples + 1) ∧
        blockRead (blockAt n s).pages 28 4 t.recs.pool =
          leBytes 2 ((s.age - (blockAt n s).firstAge) / 10) ++ leBytes 2 s.recs.freePages)) ∧
  (∀ (s : State) (codes : List Int) (load : Int) (due n : Nat), CompletesQuietly due s →
    (blockAt n s).state = .filling → 655350 < s.age - (blockAt n s).firstAge →
    ∃ t, exec (.scan codes load) s = .next t ∧ blockAt n t = { blockAt n s with state := .sealed } ∧
      t.recs.sealedQ = s.recs.sealedQ ++ [n] ∧ HasEvent 0 t ∧
      blockRead (blockAt n s).pages 17 1 t.recs.pool = [5] ∧
      (∀ m, LowestFree m s → pagesRequired s ≤ s.recs.freePages → OpenedForSample m s t) ∧
      (((∀ m, m < 64 → (blockAt m s).state ≠ .free) ∨ s.recs.freePages < pagesRequired s) → SampleDropped s t)) ∧
  ∀ (s : State) (codes : List Int) (load : Int) (due : Nat), CompletesQuietly due s →
    (∀ e ∈ s.recs.table, e.state ≠ .filling) →
    ∃ t, exec (.scan codes load) s = .next t ∧
      (∀ m, LowestFree m s → pagesRequired s ≤ s.recs.freePages → OpenedForSample m s t ∧
        blockRead (blockAt m t).pages 0 32 t.recs.pool = openedHeader m s t ∧
        (∀ k, k ≠ m → blockAt k t = blockAt k s) ∧ t.recs.sealedQ = s.recs.sealedQ) ∧
      (((∀ m, m < 64 → (blockAt m s).state ≠ .free) ∨ s.recs.freePages < pagesRequired s) →
        SampleDropped s t ∧ t.recs.table = s.recs.table ∧ t.recs.pool = s.recs.pool)

/-- The latest average of a channel is beyond its limits (R100). -/
def Beyond (c : Nat) (s : State) : Prop :=
  (channelCfg c s).high < (channelAt c s).latest ∨ (channelAt c s).latest < (channelCfg c s).low ∨
    (channelAt c s).latestOver = true

/-- The SCAN that completes its averaging run checks each OK channel's new average, but a shunt-marked one, against
its limits: the exceed run counts the averages beyond while the cause is clear and within while it is set, returns to
0 at any other, and at M sets the cause, with STRAIN_LIMIT raised, or clears it (R100). EXCEED_RUN_REACHES_M on an OK
channel with a run under way: with the cause clear the channel's cause is set, the count 0, STRAIN_LIMIT raised with
the channel's action and the cause reported; with the cause set it is cleared and reported gone (R100; the row taken
alone is the model's reading, log entry 4). SETTLE_WINDOW_EXPIRY: when a channel that is OK and settle-checked does
not hold, every judged channel takes its latest average as a new reference and the timer starts afresh; when all hold,
SETTLED is set and the timer stays stopped, and an extension that runs then ends in DONE, which leaves DWELL (R40,
R103, R104). -/
def Obligations.LimitAndSettleJudgeTheAverages : Prop :=
  (∀ (s : State) (codes : List Int) (load : Int) (due : Nat), s.loader.phase = .running → s.scan.timer = some due →
    due ≤ s.age → s.scan.runLength ≤ s.scan.runTaken + 1 → s.scan.shunt = .none →
    ∃ t, exec (.scan codes load) s = .next (startCommands t) ∧
      ∀ c, c < 16 →
        ((channelAt c s).state ≠ .ok ∨ (channelAt c t).latestShunt = true →
          (channelAt c t).exceed = (channelAt c s).exceed ∧ (channelAt c t).cause = (channelAt c s).cause) ∧
        ((channelAt c s).state = .ok → (channelAt c t).latestShunt = false →
          ((Beyond c t ↔ (channelAt c s).cause = true) →
            (channelAt c t).exceed = 0 ∧ (channelAt c t).cause = (channelAt c s).cause) ∧
          (¬ (Beyond c t ↔ (channelAt c s).cause = true) →
            (channelAt c s).exceed + 1 < (channelCfg c s).exceedCount →
            (channelAt c t).exceed = (channelAt c s).exceed + 1 ∧ (channelAt c t).cause = (channelAt c s).cause) ∧
          (¬ (Beyond c t ↔ (channelAt c s).cause = true) →
            (channelCfg c s).exceedCount ≤ (channelAt c s).exceed + 1 →
            (channelAt c t).exceed = 0 ∧
            ((channelAt c s).cause = false → (channelAt c t).cause = true ∧ Cause.strain c ∈ t.alarm.causes ∧
              HasEvent 5 t ∧ (RoomFor 16 s → Listed .strainLimit c s t) ∧
              latchCode (channelCfg c s).action ≤ latchCode t.alarm.latch) ∧
            ((channelAt c s).cause = true → (channelAt c t).cause = false ∧
              Cause.strain c ∉ t.alarm.causes)))) ∧
  ((∀ (s : State) (c : Nat), s.loader.phase = .running → (channelAt c s).state = .ok → 0 < (channelAt c s).exceed →
    (channelAt c s).cause = false →
    ∃ t, exec (.exceedRunReachesM c) s = .next (startCommands t) ∧ (channelAt c t).cause = true ∧
      (channelAt c t).exceed = 0 ∧ Cause.strain c ∈ t.alarm.causes ∧ HasEvent 5 t ∧
      t.alarm.latch = latchMax s.alarm.latch (channelCfg c s).action ∧ (RoomFor 1 s → Listed .strainLimit c s t) ∧
      ∀ m, m ≠ c → (channelAt m t).cause = (channelAt m s).cause ∧ (channelAt m t).exceed = (channelAt m s).exceed) ∧
  ∀ (s : State) (c : Nat), s.loader.phase = .running → (channelAt c s).state = .ok → 0 < (channelAt c s).exceed →
    (channelAt c s).cause = true →
    exec (.exceedRunReachesM c) s = .next (startCommands
      { s with
        scan.channels := modifyAt (fun ch => { ch with cause := false, exceed := 0 }) c s.scan.channels
        alarm.causes := s.alarm.causes.filter (fun d => decide (d ≠ .strain c)) })) ∧
  ((∀ (s : State) (due : Nat), s.loader.phase = .running → s.scan.settleTimer = some due → due ≤ s.age →
    (∃ c, c < 16 ∧ SettleChecked c s ∧ ¬ HoldsStill c s) →
    exec .settleWindowExpiry s = .next
      { s with
        scan.settleTimer := some (s.age + 10000 * s.cfg.settleWindow)
        scan.channels := mapFrom (fun c ch =>
          { ch with ref := if ch.state = .ok ∧ (channelCfg c s).settleChecked = true then some ch.latest else none })
          0 s.scan.channels }) ∧
  (∀ (s : State) (due : Nat), s.loader.phase = .running → s.scan.settleTimer = some due → due ≤ s.age →
    (∀ c, c < 16 → SettleChecked c s → HoldsStill c s) → timerRuns s.seq.extension = false →
    exec .settleWindowExpiry s = .next { s with scan.settled := true, scan.settleTimer := none }) ∧
  ∀ (s : State) (due : Nat), s.loader.phase = .running → s.scan.settleTimer = some due → due ≤ s.age →
    (∀ c, c < 16 → SettleChecked c s → HoldsStill c s) → timerRuns s.seq.extension = true → inDwell s = true →
    ∃ t, exec .settleWindowExpiry s = .next t ∧ t.scan.settled = false ∧ t.scan.settleTimer = none ∧
      t.seq.phase ≠ some .dwell ∧ t.alarm = s.alarm ∧
      t.seq.counters = setAt s.seq.segment (choiceOf s.seq).1 s.seq.counters)

/-- A ZERO that runs takes each scan's codes while the sequencer is IDLE and λ is 0 (R106) and is abandoned, answered
REFUSED STATE, at the first scan that finds it otherwise. The SCAN that adds the 64th codes writes the rounded means
of the enabled channels' codes as their zeros, and that of the load cell when every scan found the actuator VENTED,
and answers DONE (R107, R165). ZERO_COMPLETE taken alone, at a count of 64 that no SCAN leaves standing, does the same
from the sums as they stand: that is the model's reading of the row (log entry 4). -/
def Obligations.ZeroCollectsAndCompletes : Prop :=
  (∀ (s : State) (codes : List Int) (load : Int) (due : Nat) (z : ZeroRun), s.loader.phase = .running →
    s.scan.timer = some due → due ≤ s.age → s.scan.runTaken + 1 < s.scan.runLength → s.scan.zero = some z →
    z.count + 1 < 64 → s.seq.state = .idle → s.servo.lam = 0 →
    ∃ t, exec (.scan codes load) s = .next (startCommands t) ∧
      t.scan.zero = some
        { loadSum := z.loadSum + load, count := z.count + 1, vented := z.vented && decide (s.act.state = .vented) } ∧
      t.servo = s.servo ∧
      ∀ c, (channelAt c s).state ≠ .disabled →
        (channelAt c t).rawSum = (channelAt c s).rawSum + codes.getD c 0 ∧ (channelAt c t).zero = (channelAt c s).zero) ∧
  (∀ (s : State) (codes : List Int) (load : Int) (due : Nat) (z : ZeroRun) (console : Nat),
    s.loader.phase = .running → s.scan.timer = some due → due ≤ s.age → s.scan.runTaken + 1 < s.scan.runLength →
    s.scan.zero = some z → (s.seq.state ≠ .idle ∨ s.servo.lam ≠ 0) →
    s.cmd.current = some { kind := .zero, console := console } → s.line.replyQ.length < 4 → s.scan.shunt = .none →
    ∃ t, exec (.scan codes load) s = .next (startCommands t) ∧ t.scan.zero = none ∧ t.cmd.current = none ∧
      HasEvent 9 t ∧ t.servo = s.servo ∧
      t.line.replyQ = s.line.replyQ ++
        [{ dest := console, kindCode := 0x52, result := .refused, reason := .state, data := [] }] ∧
      ∀ c, (channelAt c t).zero = (channelAt c s).zero) ∧
  (∀ (s : State) (codes : List Int) (load : Int) (due : Nat) (z : ZeroRun) (console : Nat),
    s.loader.phase = .running → s.scan.timer = some due → due ≤ s.age → s.scan.runTaken + 1 < s.scan.runLength →
    s.scan.zero = some z → z.count = 63 → s.seq.state = .idle → s.servo.lam = 0 → s.scan.shunt = .none →
    s.cmd.current = some { kind := .zero, console := console } → s.line.replyQ.length < 4 →
    ∃ t, exec (.scan codes load) s = .next (startCommands t) ∧ t.scan.zero = none ∧ HasEvent 7 t ∧ HasEvent 9 t ∧
      t.cmd.current = none ∧
      t.line.replyQ = s.line.replyQ ++
        [{ dest := console, kindCode := 0x52, result := .done, reason := .none, data := [] }] ∧
      t.servo = { s.servo with
        loadZero := if z.vented = true ∧ s.act.state = .vented then roundDiv (z.loadSum + load) 64
          else s.servo.loadZero } ∧
      (∀ c, c < 16 → (channelAt c s).state ≠ .disabled →
        (channelAt c t).zero = roundDiv ((channelAt c s).rawSum + codes.getD c 0) 64 ∧
          (channelAt c t).state = (channelAt c s).state ∧ (channelAt c t).exceed = (channelAt c s).exceed ∧
          (channelAt c t).cause = (channelAt c s).cause) ∧
      ∀ c, (channelAt c s).state = .disabled → channelAt c t = channelAt c s) ∧
  ∀ (s : State) (z : ZeroRun) (console : Nat), s.loader.phase = .running → s.scan.zero = some z → z.count = 64 →
    s.cmd.current = some { kind := .zero, console := console } → s.line.replyQ.length < 4 →
    ∃ t, exec .zeroComplete s = .next (startCommands t) ∧ t.scan.zero = none ∧ HasEvent 7 t ∧ HasEvent 9 t ∧
      t.cmd.current = none ∧
      t.line.replyQ = s.line.replyQ ++
        [{ dest := console, kindCode := 0x52, result := .done, reason := .none, data := [] }] ∧
      t.servo = { s.servo with
        loadZero := if z.vented then roundDiv z.loadSum 64 else s.servo.loadZero } ∧
      (∀ c, (channelAt c s).state ≠ .disabled → (channelAt c t).zero = roundDiv (channelAt c s).rawSum 64) ∧
      ∀ c, (channelAt c s).state = .disabled → channelAt c t = channelAt c s

/-- The end of a shunt at its judgement on the sums of `s`: each enabled channel with a non-zero expected step E is OK
when the measured step lies within 2 % of E and FAULTY otherwise, its cause gone and SHUNT_FAIL raised, and the shunt
ends DONE, its group released (R101, R114, R165). -/
def ShuntJudged (console : Nat) (s t : State) : Prop :=
  t.scan.shunt = .none ∧ t.scan.shuntActive = false ∧ t.pins.shunts = 0 ∧ HasEvent 6 t ∧ HasEvent 9 t ∧
    t.cmd.current = none ∧
    (s.line.replyQ.length < 4 → t.line.replyQ = s.line.replyQ ++
      [{ dest := console, kindCode := 0x53, result := .done, reason := .none, data := [] }]) ∧
    (s.cfg.excitation ≠ 0 → s.line.shuntSlot = none →
      t.line.shuntSlot = some { isDone := true, group := s.cfg.excitation }) ∧
    ∀ c, c < 16 →
      ((channelAt c s).state = .disabled ∨ (channelCfg c s).shuntStep = 0 →
        (channelAt c t).state = (channelAt c s).state ∧ (channelAt c t).cause = (channelAt c s).cause) ∧
      ((channelAt c s).state ≠ .disabled → (channelCfg c s).shuntStep ≠ 0 →
        (StepWithin c s → (channelAt c t).state = .ok ∧ (channelAt c t).cause = (channelAt c s).cause) ∧
        (¬ StepWithin c s → (channelAt c t).state = .faulty ∧ (channelAt c t).cause = false ∧
          (channelAt c t).exceed = 0 ∧ Cause.strain c ∉ t.alarm.causes ∧ HasEvent 5 t ∧
          (RoomFor 16 s → Listed .shuntFail c s t)))

/-- The SCANs of a shunt (R112): in BEFORE the samples enter the before-sums and the 16th scan turns the switches of
the enabled channels on, for ON_SETTLE; the 20th enters ON; in ON the samples enter the on-sums and the 36th turns the
switches off, for OFF_SETTLE; the 40th judges: every enabled channel with a non-zero expected step E is OK when the
measured step lies within 2 % of E and FAULTY otherwise, its cause gone and SHUNT_FAIL raised; the switches are off,
SHUNT_ACTIVE is clear, the group released and the command ended DONE (R114, R165). SHUNT_SPAN_END and SHUNT_JUDGEMENT
taken alone, at the counts 16, 20, 36 and 40 that no SCAN leaves standing in the span before, do what the scan does at
the end of its span: that is the model's reading of those rows (log entry 4). -/
def Obligations.ShuntSpansAndJudgement : Prop :=
  ((∀ s : State, s.loader.phase = .running → s.scan.shunt = .before → s.scan.shuntScans = 16 →
    ∃ t, exec .shuntSpanEnd s = .next t ∧ t.scan.shunt = .onSettle ∧ t.scan.shuntScans = 16 ∧
      t = { s with pins.shunts := t.pins.shunts, scan.shunt := .onSettle } ∧
      ∀ c, c < 16 → (t.pins.shunts.getLsbD c = true ↔ (channelAt c s).state ≠ .disabled)) ∧
  (∀ s : State, s.loader.phase = .running → s.scan.shunt = .onSettle → s.scan.shuntScans = 20 →
    exec .shuntSpanEnd s = .next { s with scan.shunt := .on }) ∧
  (∀ s : State, s.loader.phase = .running → s.scan.shunt = .on → s.scan.shuntScans = 36 →
    exec .shuntSpanEnd s = .next { s with pins.shunts := 0, scan.shunt := .offSettle }) ∧
  ∀ (s : State) (console : Nat), s.loader.phase = .running → s.scan.shunt = .offSettle → s.scan.shuntScans = 40 →
    s.cmd.current = some { kind := .shunt, console := console } → s.scan.channels.length = 16 →
    ∃ t, exec .shuntJudgement s = .next (startCommands t) ∧ ShuntJudged console s t) ∧
  (∀ (s : State) (codes : List Int) (load : Int) (due : Nat), s.loader.phase = .running → s.scan.timer = some due →
    due ≤ s.age → s.scan.runTaken + 1 < s.scan.runLength → s.scan.zero = none → CommandsFlow s →
    (s.scan.shunt = .before → s.scan.shuntScans ≤ 15 →
      ∃ t, exec (.scan codes load) s = .next t ∧ t.scan.shuntScans = s.scan.shuntScans + 1 ∧
        (∀ c, c < 16 → (channelAt c s).state ≠ .disabled →
          (channelAt c t).beforeSum = (channelAt c s).beforeSum + sampleValue (codes.getD c 0) c s) ∧
        (s.scan.shuntScans < 15 → t.scan.shunt = .before ∧ t.pins.shunts = s.pins.shunts) ∧
        (s.scan.shuntScans = 15 → t.scan.shunt = .onSettle ∧
          ∀ c, c < 16 → (t.pins.shunts.getLsbD c = true ↔ (channelAt c s).state ≠ .disabled))) ∧
    (s.scan.shunt = .onSettle → s.scan.shuntScans ≤ 19 →
      ∃ t, exec (.scan codes load) s = .next t ∧ t.scan.shuntScans = s.scan.shuntScans + 1 ∧
        t.pins.shunts = s.pins.shunts ∧ t.scan.shunt = (if s.scan.shuntScans = 19 then .on else .onSettle)) ∧
    (s.scan.shunt = .on → s.scan.shuntScans ≤ 35 →
      ∃ t, exec (.scan codes load) s = .next t ∧ t.scan.shuntScans = s.scan.shuntScans + 1 ∧
        (∀ c, c < 16 → (channelAt c s).state ≠ .disabled →
          (channelAt c t).onSum = (channelAt c s).onSum + sampleValue (codes.getD c 0) c s) ∧
        (s.scan.shuntScans < 35 → t.scan.shunt = .on ∧ t.pins.shunts = s.pins.shunts) ∧
        (s.scan.shuntScans = 35 → t.scan.shunt = .offSettle ∧ t.pins.shunts = 0)) ∧
    (s.scan.shunt = .offSettle → s.scan.shuntScans < 39 →
      ∃ t, exec (.scan codes load) s = .next t ∧ t.scan.shuntScans = s.scan.shuntScans + 1 ∧
        t.scan.shunt = .offSettle ∧ t.pins.shunts = s.pins.shunts)) ∧
  ∀ (s : State) (codes : List Int) (load : Int) (due console : Nat), s.loader.phase = .running →
    s.scan.timer = some due → due ≤ s.age → s.scan.runTaken + 1 < s.scan.runLength → s.scan.zero = none →
    s.scan.shunt = .offSettle → s.scan.shuntScans = 39 →
    s.cmd.current = some { kind := .shunt, console := console } → s.scan.channels.length = 16 →
    ∃ t, exec (.scan codes load) s = .next (startCommands t) ∧ ShuntJudged console s t

/-! ### The crack monitor -/

/-- LOOP_SCAN reloads the monitor timer and passes each enabled loop's reading through its debounce (R118, R119): the
taken reading again clears the candidate; another reading is the candidate with its count until the count reaches n,
the debounce in scans of 10 ms rounded up, when it is taken and the loop's state follows (R121, R122). It then ages
each AE input's list: the hits that have left the window are removed, and where some were the band is that of those
left, a fall from BURST reported as its cause gone (R127, R128). LOOP_READING_TAKEN is the scan in which an enabled
loop's candidate, sensed at least n − 1 times before, reaches its count, with fewer nothing is taken: an INTACT loop
that takes OPEN is BROKEN, its entry holds the conditions of that moment unless one was filled before, CRACK_BREAK is
set, CRACK_WIRE raised and the cause reported (R121, R123); an INTACT loop that takes SHORT, and a BROKEN or ACCEPTED
one that takes INTACT, is FAULT with LOOP_FAULT raised and a BROKEN one's cause gone (R122). That the last row is a
command of its own is the model's reading (log entry 4). -/
def Obligations.LoopReadingsAreDebouncedAndTaken : Prop :=
  (∀ (s : State) (readings : List LoopReading) (due : Nat), s.loader.phase = .running → s.crack.timer = some due →
    due ≤ s.age → readings.length = 8 → s.crack.loops.length = 8 →
    ∃ t, exec (.loopScan readings) s = .next (startCommands t) ∧ t.crack.timer = some (s.age + 100) ∧
      t.pins.loopReadings = readings ∧
      ∀ (l : Nat) (r : LoopReading), readings[l]? = some r →
        ((loopAt l s).state = .disabled → loopAt l t = loopAt l s) ∧
        ((loopAt l s).state ≠ .disabled → (loopAt l s).taken = some r →
          loopAt l t = { loopAt l s with candidate := none }) ∧
        ((loopAt l s).state ≠ .disabled → (loopAt l s).taken ≠ some r → candidateCount r (loopAt l s) < debounceOf l s →
          loopAt l t = { loopAt l s with candidate := some (r, candidateCount r (loopAt l s)) }) ∧
        ((loopAt l s).state ≠ .disabled → (loopAt l s).taken ≠ some r → debounceOf l s ≤ candidateCount r (loopAt l s) →
          loopAt l t = { state := loopStateAfter (loopAt l s).state r, taken := some r, candidate := none } ∧
          ((loopAt l s).state = .intact → r = .opened → RoomFor 8 s → Listed .crackWire l s t) ∧
          (FaultReading (loopAt l s).state r → RoomFor 8 s → Listed .loopFault l s t))) ∧
  (∀ (s : State) (readings : List LoopReading) (due : Nat), s.loader.phase = .running → s.crack.timer = some due →
    due ≤ s.age → s.crack.inputs.length = 4 →
    ∃ t, exec (.loopScan readings) s = .next (startCommands t) ∧
      ∀ i, i < 4 →
        let kept := (aeAt i s).hits.filter (fun h => decide (s.age - h < 10 * (aeCfg i s).window))
        (kept = (aeAt i s).hits → aeAt i t = aeAt i s) ∧
        (kept ≠ (aeAt i s).hits → aeAt i t =
          { aeAt i s with
            hits := kept
            band := if kept.length < (aeCfg i s).nElev then .normal
              else if kept.length < (aeCfg i s).nBurst then .elevated else .burst }) ∧
        ((aeAt i s).band = .burst → (aeAt i t).band ≠ .burst → Cause.ae i ∉ t.alarm.causes) ∧
        ((aeAt i s).band = (aeAt i t).band → (Cause.ae i ∈ t.alarm.causes ↔ Cause.ae i ∈ s.alarm.causes))) ∧
  (∀ (s : State) (l : Nat), s.loader.phase = .running →
    ((loopAt l s).candidate = none ∨ (loopAt l s).state = .disabled ∨
      ∃ r n, (loopAt l s).candidate = some (r, n) ∧ n + 1 < debounceOf l s) →
    exec (.loopReadingTaken l) s = .next (startCommands s)) ∧
  ((∀ (s : State) (l n : Nat), s.loader.phase = .running → (loopAt l s).state = .intact →
    (loopAt l s).candidate = some (.opened, n) → debounceOf l s ≤ n + 1 → s.crack.entries.length = 8 → l < 8 →
    ∃ t, exec (.loopReadingTaken l) s = .next (startCommands t) ∧
      loopAt l t = { state := .broken, taken := some .opened, candidate := none } ∧
      t.crack.entries.getD l none = some ((s.crack.entries.getD l none).getD
        { timeTag := s.cmd.timeTag, step := s.seq.step, segment := s.seq.segment, lam := s.servo.lam
          fMeas := s.servo.fMeas }) ∧
      (∀ m, m ≠ l → loopAt m t = loopAt m s ∧ t.crack.entries.getD m none = s.crack.entries.getD m none) ∧
      HasEvent 2 t ∧ HasEvent 5 t ∧ Cause.loop l ∈ t.alarm.causes ∧
      t.alarm.latch = latchMax s.alarm.latch (loopCfg l s).action ∧ (RoomFor 1 s → Listed .crackWire l s t)) ∧
  ∀ (s : State) (l n : Nat) (r : LoopReading), s.loader.phase = .running → FaultReading (loopAt l s).state r →
    (loopAt l s).candidate = some (r, n) → debounceOf l s ≤ n + 1 →
    ∃ t, exec (.loopReadingTaken l) s = .next (startCommands t) ∧
      loopAt l t = { state := .fault, taken := some r, candidate := none } ∧
      t.crack.entries = s.crack.entries ∧ (∀ m, m ≠ l → loopAt m t = loopAt m s) ∧ HasEvent 5 t ∧
      t.alarm.causes = (if (loopAt l s).state = .broken then s.alarm.causes.filter (fun c => decide (c ≠ .loop l))
        else s.alarm.causes) ∧
      t.alarm.latch = latchMax s.alarm.latch .note ∧ (RoomFor 1 s → Listed .loopFault l s t))

/-- AE_HIT within the dead time changes nothing; any other, in a station whose monitor timer runs, is accepted: the
list loses what left the window and, at 32 entries, its oldest, takes the hit's age, the dead time starts, the count
rises to at most 255 and the band is that of the list's length, whose change to ELEVATED or BURST is told (R126 to
R129). DEAD_TIME_EXPIRY ends the dead time. That a hit at the very end moment of the dead time is merged while
DEAD_TIME_EXPIRY is not taken, and that a later one is accepted although it is not taken, is the model's reading (log
entry 27). -/
def Obligations.HitsAreMergedOrAccepted : Prop :=
  (∀ (s : State) (i due : Nat), s.loader.phase = .running → (aeAt i s).dead = some due → s.age ≤ due →
    exec (.aeHit i) s = .next (startCommands s)) ∧
  (∀ (s : State) (i : Nat), s.loader.phase = .running → s.crack.timer ≠ none → i < s.crack.inputs.length →
    (∀ due, (aeAt i s).dead = some due → due < s.age) →
    ∃ t, exec (.aeHit i) s = .next (startCommands t) ∧
      (let kept := (aeAt i s).hits.filter (fun h => decide (s.age - h < 10 * (aeCfg i s).window))
       let hits := (if 32 ≤ kept.length then kept.drop 1 else kept) ++ [s.age]
       aeAt i t =
        { hits := hits
          dead := some (s.age + (aeCfg i s).deadTime)
          band := if hits.length < (aeCfg i s).nElev then .normal
            else if hits.length < (aeCfg i s).nBurst then .elevated else .burst
          count := if (aeAt i s).count < 255 then (aeAt i s).count + 1 else (aeAt i s).count }) ∧
      (∀ m, m ≠ i → aeAt m t = aeAt m s) ∧
      ((aeAt i s).band = .normal → (aeAt i t).band = .elevated → HasEvent 4 t ∧ t.alarm = s.alarm) ∧
      ((aeAt i s).band = .elevated → (aeAt i t).band = .burst →
        HasEvent 3 t ∧ HasEvent 5 t ∧ Cause.ae i ∈ t.alarm.causes ∧
          t.alarm.latch = latchMax s.alarm.latch (aeCfg i s).action) ∧
      ((aeAt i s).band = (aeAt i t).band → t.alarm = s.alarm ∧ t.line = s.line)) ∧
  ∀ (s : State) (i due : Nat), s.loader.phase = .running → (aeAt i s).dead = some due → due ≤ s.age →
    exec (.deadTimeExpiry i) s = .next
      { s with crack.inputs := modifyAt (fun a => { a with dead := none }) i s.crack.inputs }

/-! ### The record memory -/


/-- FETCH by the ten cases of R157, in their order: by number a FREE, FILLING or any block during a sending is refused
and a SEALED or SENT one is sent; OLDEST sends the head of the sealed queue, joins the fetch queue, is refused BUSY at
four requests, or is answered EMPTY. -/
def Obligations.FetchFollowsItsTable : Prop :=
  ∀ (head : CommandHead) (which wait : Nat) (s : State), Taken head 3 s →
    ((63 < which ∧ which ≠ 255) ∨ 60000 < wait →
      exec (.fetch head which wait) s = .next (replied head 0x48 .refused .range [] s)) ∧
    (which ≤ 63 → wait ≤ 60000 →
      ((blockAt which s).state = .free →
        exec (.fetch head which wait) s = .next (replied head 0x48 .refused .notFound [] s)) ∧
      ((blockAt which s).state = .filling →
        exec (.fetch head which wait) s = .next (replied head 0x48 .refused .state [] s)) ∧
      ((blockAt which s).state ≠ .free → (blockAt which s).state ≠ .filling → s.recs.sending ≠ none →
        exec (.fetch head which wait) s = .next (replied head 0x48 .refused .busy [] s)) ∧
      ((blockAt which s).state = .sealed ∨ (blockAt which s).state = .sent → s.recs.sending = none →
        exec (.fetch head which wait) s = .next
          (sendStarted which head.sender (replied head 0x48 .done .none [] s)))) ∧
    (which = 255 → wait ≤ 60000 →
      (∀ b rest, s.recs.sending = none → s.recs.sealedQ = b :: rest →
        exec (.fetch head which wait) s = .next (sendStarted b head.sender (replied head 0x48 .done .none [] s))) ∧
      (s.recs.sending ≠ none ∨ s.recs.sealedQ = [] → 4 ≤ s.recs.fetchQ.length →
        exec (.fetch head which wait) s = .next (replied head 0x48 .refused .busy [] s)) ∧
      (s.recs.sending ≠ none ∨ (s.recs.sealedQ = [] ∧ 0 < wait) → s.recs.fetchQ.length < 4 →
        exec (.fetch head which wait) s = .next
          { s with recs.fetchQ := s.recs.fetchQ ++
              [{ console := head.sender, expiry := s.age + 10 * wait, joinedSending := s.recs.sending.isSome }] }) ∧
      (s.recs.sending = none → s.recs.sealedQ = [] → wait = 0 → s.recs.fetchQ.length < 4 →
        exec (.fetch head which wait) s = .next (replied head 0x48 .empty .none [] s)))

/-- FREE by its table: above 63 RANGE, a FREE entry NOT_FOUND, a FILLING or SENDING one STATE; a SEALED or SENT block
leaves the sealed queue, gives back its pages, its entry is FREE and pool pressure is judged (R153, R160). -/
def Obligations.FreeGivesTheBlockBack : Prop :=
  ∀ (head : CommandHead) (n : Nat) (s : State), Taken head 1 s →
    (63 < n → exec (.free head n) s = .next (replied head 0x49 .refused .range [] s)) ∧
    (n ≤ 63 → (blockAt n s).state = .free →
      exec (.free head n) s = .next (replied head 0x49 .refused .notFound [] s)) ∧
    (n ≤ 63 → (blockAt n s).state = .filling ∨ (blockAt n s).state = .sending →
      exec (.free head n) s = .next (replied head 0x49 .refused .state [] s)) ∧
    (n ≤ 63 → (blockAt n s).state = .sealed ∨ (blockAt n s).state = .sent →
      exec (.free head n) s = .next
        { replied head 0x49 .done .none [] s with
          recs.sealedQ := s.recs.sealedQ.filter (fun m => decide (m ≠ n))
          recs.freePages := s.recs.freePages + s.cfg.blockPages
          recs.table := setAt n
            { state := .free, pages := [], samples := 0, firstAge := 0, lastOffset := 0 } s.recs.table
          recs.pressure :=
            if s.recs.freePages + s.cfg.blockPages < 64 then true
            else if 96 ≤ s.recs.freePages + s.cfg.blockPages then false else s.recs.pressure })

/-- CUT seals the FILLING block with cause CUT: SEALED at the tail of the sealed queue with BLOCK_SEALED set, its
header bytes of cause, alarm kind, sample count, last offset and free pages written, and answers DONE; with none
filling it answers REFUSED STATE and nothing changes (R151, R161). A request that waits at the seal, with none
SENDING, is served with the head of the sealed queue, and waits on while one is SENDING (R158). CAPTURE_END of a
capture that runs clears CAPTURE, its count and its kind (R156; the row taken alone: log entry 4).
FETCH_REQUEST_EXPIRY takes out a request that has expired, none of the others expiring before it, those that joined
during a sending in progress left aside, and answers it EMPTY; while a block is SENDING and none has expired it
changes nothing, as where a seal of the same moment has served the request (R158; log entry 19). -/
def Obligations.CutSealsAndCapturesEnd : Prop :=
  ((∀ (head : CommandHead) (s : State), Taken head 0 s → (∀ e ∈ s.recs.table, e.state ≠ .filling) →
    exec (.cut head) s = .next (replied head 0x4A .refused .state [] s)) ∧
  ∀ (head : CommandHead) (n : Nat) (s : State), Taken head 0 s → PagesAddUp s → PoolCanonical s →
    1 ≤ s.cfg.blockPages → (blockAt n s).state = .filling → s.recs.fetchQ = [] →
    ∃ t, exec (.cut head) s = .next t ∧ (blockAt n t) = { blockAt n s with state := .sealed } ∧
      (∀ m, m ≠ n → blockAt m t = blockAt m s) ∧ t.recs.sealedQ = s.recs.sealedQ ++ [n] ∧ HasEvent 0 t ∧
      t.line.replyQ = s.line.replyQ ++
        [{ dest := head.sender, kindCode := 0x4A, result := .done, reason := .none, data := [] }] ∧
      (let pages := (blockAt n s).pages
       blockRead pages 17 1 t.recs.pool = [4] ∧ blockRead pages 19 1 t.recs.pool = [0] ∧
        blockRead pages 21 1 t.recs.pool = leBytes 1 (blockAt n s).samples ∧
        blockRead pages 28 2 t.recs.pool = leBytes 2 (blockAt n s).lastOffset ∧
        blockRead pages 30 2 t.recs.pool = leBytes 2 s.recs.freePages ∧
        ∀ b, b < 256 * pages.length → b ≠ 17 → b ≠ 19 → b ≠ 21 → ¬ (28 ≤ b ∧ b ≤ 31) →
          blockRead pages b 1 t.recs.pool = blockRead pages b 1 s.recs.pool)) ∧
  (∀ (head : CommandHead) (n b : Nat) (r : FetchRequest) (waiting : List FetchRequest) (s : State), Taken head 0 s →
    PagesAddUp s → BlocksMatch s → (blockAt n s).state = .filling → s.recs.fetchQ = r :: waiting →
    (s.recs.sending = none → (s.recs.sealedQ ++ [n]).head? = some b → s.line.replyQ.length < 3 →
      ∃ t, exec (.cut head) s = .next t ∧ t.recs.fetchQ = waiting ∧ (blockAt b t).state = .sending ∧
        t.recs.sending = some { block := b, console := r.console
                                next := min (16 - s.line.dataQ.length) (4 * s.cfg.blockPages) } ∧
        t.recs.sealedQ = (s.recs.sealedQ ++ [n]).filter (fun m => decide (m ≠ b)) ∧
        t.line.dataQ = s.line.dataQ ++
          (List.range (min (16 - s.line.dataQ.length) (4 * s.cfg.blockPages))).map (fun i =>
            { dest := r.console, block := b, part := i
              data := blockRead (blockAt b s).pages (64 * i) 64 t.recs.pool }) ∧
        t.line.replyQ = s.line.replyQ ++
          [{ dest := head.sender, kindCode := 0x4A, result := .done, reason := .none, data := [] },
            { dest := r.console, kindCode := 0x48, result := .done, reason := .none, data := [] }]) ∧
    (s.recs.sending ≠ none →
      ∃ t, exec (.cut head) s = .next t ∧ t.recs.fetchQ = s.recs.fetchQ ∧ t.recs.sending = s.recs.sending ∧
        t.recs.sealedQ = s.recs.sealedQ ++ [n] ∧ t.line.dataQ = s.line.dataQ ∧
        t.line.replyQ = s.line.replyQ ++
          [{ dest := head.sender, kindCode := 0x4A, result := .done, reason := .none, data := [] }])) ∧
  ((∀ s : State, s.loader.phase = .running → s.recs.capture = true →
    exec .captureEnd s = .next
      { s with recs.capture := false, recs.scansLeft := 0, recs.captureKind := none }) ∧
  (∀ s : State, s.loader.phase = .running → s.recs.sending ≠ none →
    (∀ q ∈ s.recs.fetchQ, q.joinedSending = true ∨ s.age < q.expiry) → exec .fetchRequestExpiry s = .next s) ∧
  ∀ (s : State) (before after : List FetchRequest) (r : FetchRequest), s.loader.phase = .running →
    s.recs.fetchQ = before ++ r :: after → (s.recs.sending = none ∨ r.joinedSending = false) →
    (∀ q ∈ before, r.expiry < q.expiry ∨ (s.recs.sending ≠ none ∧ q.joinedSending = true)) →
    (∀ q ∈ after, r.expiry ≤ q.expiry ∨ (s.recs.sending ≠ none ∧ q.joinedSending = true)) →
    r.expiry ≤ s.age → s.line.replyQ.length < 4 →
    exec .fetchRequestExpiry s = .next
      { s with
        recs.fetchQ := before ++ after
        line.replyQ := s.line.replyQ ++
          [{ dest := r.console, kindCode := 0x48, result := .empty, reason := .none, data := [] }] })

/-! ### The console commands -/

/-- The form of a console command telegram (R5, R13, R15, R163, R167, R173): one that is not for this station, not
from a console, or finds no room for its REPLY changes nothing; in a running station one whose length is not that of
its kind is answered REFUSED RANGE, one of a kind outside Table 1-6 REFUSED STATE and a QUERY of another subject
REFUSED RANGE; in CONFIG_FAULT every one is answered REFUSED STATE. -/
def Obligations.CommandFormIsJudgedFirst : Prop :=
  (∀ (c : Instr) (head : CommandHead) (code : Nat) (s : State), telegramOf c = some (head, code) → CommandsFlow s →
    ¬ Answerable head s → exec c s = .next s) ∧
  (∀ (c : Instr) (head : CommandHead) (code len : Nat) (s : State), telegramOf c = some (head, code) → RowOfItsOwn c →
    CommandsFlow s → s.loader.phase = .running → Answerable head s → commandLength code = some len → head.len ≠ len →
    exec c s = .next (replied head code .refused .range [] s)) ∧
  (∀ (head : CommandHead) (kind : Nat) (s : State), s.loader.phase = .running → Answerable head s →
    (kind < 0x40 ∨ 0x53 < kind) →
    exec (.commandUnknownKind head kind) s = .next (replied head kind .refused .state [] s)) ∧
  (∀ (head : CommandHead) (subject argument : Nat) (s : State), Taken head 2 s → (subject = 0 ∨ 4 < subject) →
    exec (.queryOtherSubject head subject argument) s = .next (replied head 0x4C .refused .range [] s)) ∧
  ∀ (c : Instr) (head : CommandHead) (code : Nat) (s : State), telegramOf c = some (head, code) → RowOfItsOwn c →
    CommandsFlow s → s.loader.phase = .configFault → 1 ≤ ownStation s → ownStation s ≤ 27 → Answerable head s →
    exec c s = .next (replied head code .refused .state [] s)

/-- PROGRAM checks its fields in order and stores the entry clamped, recomputes the digest, sets PROGRAM_EDITED and
answers DONE; except in DONE, where the digest is asked for again, nothing else of the sequencer changes (R32, R34,
R42, R45). CLEARPROG in IDLE and ENDED empties the table, recomputes the digest, sets PROGRAM_EDITED and answers DONE;
in RUN, HELD and UNLOADING it answers REFUSED STATE and the table is left (R33). -/
def Obligations.ProgramAndClearprogEditTheTable : Prop :=
  ((∀ (head : CommandHead) (q : SegmentRequest) (s : State), Taken head 13 s →
    (31 < q.index ∨ q.rate = 0 ∨ 1 < q.settle ∨ (q.loopTo ≠ 255 ∧ q.index < q.loopTo) ∨
      (q.loopTo ≠ 255 ∧ q.loopCount = 0)) →
    exec (.program head q) s = .next (replied head 0x40 .refused .range [] s)) ∧
  ∀ (head : CommandHead) (q : SegmentRequest) (s : State), Taken head 13 s → q.index ≤ 31 → 0 < q.rate → q.settle ≤ 1 →
    (q.loopTo = 255 ∨ (q.loopTo ≤ q.index ∧ 0 < q.loopCount)) →
    ∃ t, exec (.program head q) s = .next t ∧
      t.seq.table = setAt q.index
        (some
          { target := min q.target 10000, rate := min q.rate 2000, hold := q.hold, settle := decide (q.settle = 1)
            extension := q.extension, loopTo := if q.loopTo = 255 then none else some q.loopTo
            loopCount := if q.loopTo = 255 then 0 else q.loopCount }) s.seq.table ∧
      t.seq.digest = crc16 (t.seq.table.flatMap entryBytes) ∧ HasEvent 8 t ∧ t.servo = s.servo ∧ t.alarm = s.alarm ∧
      (∃ more, t.line.replyQ = s.line.replyQ ++
        { dest := head.sender, kindCode := 0x40, result := .done, reason := .none, data := [] } :: more) ∧
      (¬ (s.seq.state = .run ∧ s.seq.phase = some .done) →
        t.seq = { s.seq with table := t.seq.table, digest := t.seq.digest } ∧ t.recs = s.recs ∧ t.scan = s.scan ∧
          t.act = s.act ∧ t.cmd = s.cmd ∧ t.pins = s.pins)) ∧
  ((∀ (head : CommandHead) (s : State), Taken head 0 s → (s.seq.state = .idle ∨ s.seq.state = .ended) →
    ∃ t, exec (.clearprog head) s = .next t ∧
      t = { setEvent .programEdited (replied head 0x41 .done .none [] s) with
        seq.table := List.replicate 32 none
        seq.digest := crc16 (List.replicate 384 255)
        peers.digestMismatch := t.peers.digestMismatch } ∧
      (t.peers.digestMismatch = true ↔ ∃ p ∈ presentPeers s, p.digest ≠ t.seq.digest)) ∧
  ∀ (head : CommandHead) (s : State), Taken head 0 s →
    (s.seq.state = .run ∨ s.seq.state = .held ∨ s.seq.state = .unloading) →
    exec (.clearprog head) s = .next (replied head 0x41 .refused .state [] s))

/-- RUN answers REFUSED with the reason of the first condition of R36 that fails; with none failing it answers DONE
and enters segment 0 as step 1 with every pass counter at 0 (R36, R37). -/
def Obligations.RunIsJudgedInOrder : Prop :=
  (∀ (head : CommandHead) (s : State) (reason : Reason), Taken head 0 s → RunRefusedFor s reason →
    exec (.run head) s = .next (replied head 0x42 .refused reason [] s)) ∧
  ∀ (head : CommandHead) (s : State) (g : Segment), Taken head 0 s → (s.seq.state = .idle ∨ s.seq.state = .ended) →
    s.act.state = .live → (∃ n, ValidProgram n s) → s.peers.memberAbsent = false → DigestsAgree s →
    s.alarm.latch = .none → s.seq.table.getD 0 none = some g →
    ∃ t, exec (.run head) s = .next t ∧
      t.seq =
        { s.seq with
          state := .run
          phase := some .ramp
          step := 1
          segment := 0
          counters := List.replicate 32 0
          work := some
            { target := g.target, rate := g.rate, hold := g.hold, settle := g.settle, extension := g.extension }
          hold := .paused (1000 * g.hold)
          extension := .stopped
          extensionUsed := false
          mismatch := none
          choice := none } ∧
      t.servo = s.servo ∧ t.act = s.act ∧ t.alarm = s.alarm ∧
      ∃ more, t.line.replyQ = s.line.replyQ ++
        { dest := head.sender, kindCode := 0x42, result := .done, reason := .none, data := [] } :: more

/-- DWELL is entered afresh at the return to RUN (R51, R102): SETTLED clear, the settle window started, a reference
taken of each channel OK and settle-checked; the servo and the actuator unit stay. -/
def DwellEnteredAfresh (s t : State) : Prop :=
  t.scan.settled = false ∧ t.scan.settleTimer = some (s.age + 10000 * s.cfg.settleWindow) ∧
    (∀ c, SettleChecked c s → (channelAt c t).ref = some (channelAt c s).latest) ∧
    (∀ c, ¬ SettleChecked c s → (channelAt c t).ref = none) ∧ t.servo = s.servo ∧ t.act = s.act

/-- HOLD raises the latch to at least HOLD and UNLOAD to at least UNLOAD, storing no record, setting no ALARM_RAISED,
sending no telegram and ordering no capture; both are answered DONE in every case; the sequencer responds as to any
rise: RUN is HELD, its timers stopped with what they have left, and at UNLOAD, with the actuator LIVE, RUN, HELD and
ENDED are UNLOADING (R46, R47, R135, R142). -/
def Obligations.ConsoleRaisesTheLatch : Prop :=
  (∀ (head : CommandHead) (s : State), Taken head 0 s → latchAtLeast s.alarm.latch .hold = true →
    exec (.hold head) s = .next (replied head 0x43 .done .none [] s)) ∧
  (∀ (head : CommandHead) (s : State), Taken head 0 s → latchAtLeast s.alarm.latch .unload = true →
    exec (.unload head) s = .next (replied head 0x45 .done .none [] s)) ∧
  (∀ (head : CommandHead) (s : State), Taken head 0 s → latchAtLeast s.alarm.latch .hold = false →
    ∃ t, exec (.hold head) s = .next t ∧ t.alarm = { s.alarm with latch := .hold } ∧
      (s.seq.state = .run → t.seq = heldOf s ∧
        t.scan.settled = (if s.seq.phase = some .dwell then false else s.scan.settled)) ∧
      (s.seq.state ≠ .run → t = { replied head 0x43 .done .none [] s with alarm.latch := .hold }) ∧
      t.line.alarmQ = s.line.alarmQ ∧ t.act = s.act ∧ t.servo = s.servo ∧ t.recs.capture = s.recs.capture ∧
      t.line.events.getLsbD 5 = s.line.events.getLsbD 5 ∧
      ∃ more, t.line.replyQ = s.line.replyQ ++
        { dest := head.sender, kindCode := 0x43, result := .done, reason := .none, data := [] } :: more) ∧
  ∀ (head : CommandHead) (s : State), Taken head 0 s → latchAtLeast s.alarm.latch .unload = false →
    ∃ t, exec (.unload head) s = .next t ∧ t.alarm = { s.alarm with latch := .unload } ∧
      t.seq =
        (if s.act.state = .live ∧ (s.seq.state = .run ∨ s.seq.state = .held ∨ s.seq.state = .ended) then
          { s.seq with
            state := .unloading, phase := none, hold := .stopped, extension := .stopped, mismatch := none
            choice := none }
        else if s.seq.state = .run then heldOf s else s.seq) ∧
      t.line.alarmQ = s.line.alarmQ ∧ t.act = s.act ∧ t.servo = s.servo ∧ t.recs.capture = s.recs.capture ∧
      t.line.events.getLsbD 5 = s.line.events.getLsbD 5 ∧
      ∃ more, t.line.replyQ = s.line.replyQ ++
        { dest := head.sender, kindCode := 0x45, result := .done, reason := .none, data := [] } :: more

/-- RESUME answers REFUSED with the reason of the first condition of R143 that fails. An accepted one keeps only the
records that name an absent member and sets the latch to NONE (R144); a sequencer HELD with the actuator LIVE returns
to RUN with its remembered phase (R51): in RAMP as it stands; in DWELL with the hold time that was left, or, the
extension used and not spent, with the extension time left, the scanner told of the DWELL entry; at no time left that
expiry is taken at once (R46), by the judgement of R39 and R40; with the extension spent, DONE (R41); in DONE it asks
again, with the choice kept (R42 to R44). Any other sequencer stays as it was. -/
def Obligations.ResumeLowersTheLatch : Prop :=
  (∀ (head : CommandHead) (s : State), Taken head 0 s → CommandsFlow s → resumeReason s = none →
    ∃ t, exec (.resume head) s = .next (startCommands t) ∧ ∃ more, t.line.replyQ = s.line.replyQ ++
      { dest := head.sender, kindCode := 0x44, result := .done, reason := .none, data := [] } :: more) ∧
  (∀ (head : CommandHead) (s : State) (reason : Reason), Taken head 0 s → CommandsFlow s →
    resumeReason s = some reason → exec (.resume head) s = .next (replied head 0x44 .refused reason [] s)) ∧
  (∀ (head : CommandHead) (s : State), Taken head 0 s → CommandsFlow s → resumeReason s = none →
    ¬ (s.seq.state = .held ∧ s.act.state = .live) →
    exec (.resume head) s = .next
      { replied head 0x44 .done .none [] s with
        alarm.records := s.alarm.records.filter (KeptRecord s)
        alarm.overfull := if (s.alarm.records.filter (KeptRecord s)).length = s.alarm.records.length then
          s.alarm.overfull else false
        alarm.latch := .none }) ∧
  (∀ (head : CommandHead) (s : State), Taken head 0 s → CommandsFlow s → resumeReason s = none →
    s.seq.state = .held → s.act.state = .live → s.seq.phase = some .ramp →
    exec (.resume head) s = .next
      { replied head 0x44 .done .none [] s with
        alarm.records := s.alarm.records.filter (KeptRecord s)
        alarm.overfull := if (s.alarm.records.filter (KeptRecord s)).length = s.alarm.records.length then
          s.alarm.overfull else false
        alarm.latch := .none
        seq.state := .run }) ∧
  ((∀ (head : CommandHead) (s : State) (left : Nat), Taken head 0 s → CommandsFlow s → resumeReason s = none →
    s.seq.state = .held → s.act.state = .live → s.seq.phase = some .dwell → s.seq.extensionUsed = false →
    s.seq.hold = .paused left → 0 < left →
    ∃ t, exec (.resume head) s = .next t ∧ t.alarm.latch = .none ∧
      t.seq = { s.seq with state := .run, hold := .running (s.age + left) } ∧ DwellEnteredAfresh s t) ∧
  (∀ (head : CommandHead) (s : State) (left : Nat), Taken head 0 s → CommandsFlow s → resumeReason s = none →
    s.seq.state = .held → s.act.state = .live → s.seq.phase = some .dwell → s.seq.extensionUsed = true →
    s.seq.extension = .paused left → 0 < left →
    ∃ t, exec (.resume head) s = .next t ∧ t.alarm.latch = .none ∧
      t.seq = { s.seq with state := .run, extension := .running (s.age + left) } ∧ DwellEnteredAfresh s t) ∧
  (∀ (head : CommandHead) (s : State), Taken head 0 s → CommandsFlow s → resumeReason s = none →
    s.seq.state = .held → s.act.state = .live → s.seq.phase = some .dwell → s.seq.extensionUsed = true →
    s.seq.extension = .stopped →
    ∃ t, exec (.resume head) s = .next t ∧ t.alarm.latch = .none ∧ DoneReached { s.seq with state := .run } s t ∧
      t.servo = s.servo ∧ t.act = s.act) ∧
  (∀ (head : CommandHead) (s : State), Taken head 0 s → CommandsFlow s → resumeReason s = none →
    s.seq.state = .held → s.act.state = .live → s.seq.phase = some .dwell → s.seq.extensionUsed = true →
    s.seq.extension = .paused 0 → s.cfg.noSettleAction ≠ .none →
    ∃ t, exec (.resume head) s = .next (startCommands t) ∧ t.alarm.latch = s.cfg.noSettleAction ∧
      NoSettleRaised { s.seq with state := .run, extension := .stopped } s t)) ∧
  (∀ (head : CommandHead) (s : State) (w : WorkingCopy), Taken head 0 s → CommandsFlow s → resumeReason s = none →
    s.seq.state = .held → s.act.state = .live → s.seq.phase = some .dwell → s.seq.extensionUsed = false →
    s.seq.hold = .paused 0 → s.seq.work = some w →
    (w.settle = false → ∃ t, exec (.resume head) s = .next t ∧ t.alarm.latch = .none ∧
      DoneReached { s.seq with state := .run } s t ∧ t.servo = s.servo ∧ t.act = s.act) ∧
    (w.settle = true → 0 < w.extension → ∃ t, exec (.resume head) s = .next t ∧ t.alarm.latch = .none ∧
      t.seq = { s.seq with
        state := .run, hold := .stopped, extensionUsed := true, extension := .running (s.age + 1000 * w.extension) } ∧
      DwellEnteredAfresh s t) ∧
    (w.settle = true → w.extension = 0 → s.cfg.noSettleAction ≠ .none →
      ∃ t, exec (.resume head) s = .next (startCommands t) ∧ t.alarm.latch = s.cfg.noSettleAction ∧
        NoSettleRaised
          { s.seq with state := .run, hold := .stopped, extension := .stopped, extensionUsed := true } s t)) ∧
  ∀ (head : CommandHead) (s : State) (c : Nat) (g : Segment), Taken head 0 s → CommandsFlow s →
    resumeReason s = none → s.seq.state = .held → s.act.state = .live → s.seq.phase = some .done →
    s.seq.choice = some c → s.seq.table.getD c none = some g →
    ∃ t, exec (.resume head) s = .next t ∧ t.alarm.latch = .none ∧
      AsksInDone c g { s with seq := { s.seq with state := .run } } t ∧ t.servo = s.servo ∧ t.act = s.act

/-- ACK with all above 1 is refused RANGE; with all 1 every record is acknowledged; with all 0 the records of its key
are, and none of its key is refused NOT_FOUND (R141). ACCEPT of a BROKEN loop makes it ACCEPTED and reports its cause
gone; another loop is refused STATE, one above 7 RANGE (R124). TIMESET sets the time tag in its event (R168). QUERY of
a loop, the alarm list, half the channels or a peer record answers DONE with the bytes of Table 1-9 as the state
stands and changes nothing else; a loop above 7, a half above 1 or a station outside 1 to 27 is refused RANGE (R28,
R116, R125, R145). That the flags field of QUERY PEER is the nine flags with bits 9 to 15 at 0, the load group left to
its own field, is the model's reading of Table 1-9 (log entry 28). -/
def Obligations.ImmediateCommandsAnswerInTheirEvent : Prop :=
  ((∀ (head : CommandHead) (all source kind channel : Nat) (s : State), Taken head 4 s →
    (1 < all →
      exec (.ack head all source kind channel) s = .next (replied head 0x46 .refused .range [] s)) ∧
    (all = 1 →
      exec (.ack head all source kind channel) s = .next
        { replied head 0x46 .done .none [] s with
          alarm.records := s.alarm.records.map (fun a => { a with acked := true }) }) ∧
    (all = 0 → (∃ a ∈ s.alarm.records, a.source = source ∧ kindCode a.kind = kind ∧ a.channel = channel) →
      exec (.ack head all source kind channel) s = .next
        { replied head 0x46 .done .none [] s with
          alarm.records := s.alarm.records.map (fun a =>
            if a.source = source ∧ kindCode a.kind = kind ∧ a.channel = channel then { a with acked := true }
            else a) }) ∧
    (all = 0 → (∀ a ∈ s.alarm.records, ¬ (a.source = source ∧ kindCode a.kind = kind ∧ a.channel = channel)) →
      exec (.ack head all source kind channel) s = .next (replied head 0x46 .refused .notFound [] s))) ∧
  ∀ (head : CommandHead) (l : Nat) (s : State), Taken head 1 s →
    (7 < l → exec (.accept head l) s = .next (replied head 0x47 .refused .range [] s)) ∧
    (l ≤ 7 → (loopAt l s).state ≠ .broken →
      exec (.accept head l) s = .next (replied head 0x47 .refused .state [] s)) ∧
    (l ≤ 7 → (loopAt l s).state = .broken →
      exec (.accept head l) s = .next
        { replied head 0x47 .done .none [] s with
          crack.loops := modifyAt (fun r => { r with state := .accepted }) l s.crack.loops
          alarm.causes := s.alarm.causes.filter (fun c => decide (c ≠ .loop l)) })) ∧
  ((∀ (head : CommandHead) (tag : Tag) (s : State), Taken head 4 s →
    exec (.timeset head tag) s = .next { replied head 0x4B .done .none [] s with cmd.timeTag := tag }) ∧
  (∀ (head : CommandHead) (l : Nat) (s : State), Taken head 2 s →
    (7 < l → exec (.queryCrack head l) s = .next (replied head 0x4C .refused .range [] s)) ∧
    (l ≤ 7 → exec (.queryCrack head l) s = .next (replied head 0x4C .done .none
      (match s.crack.entries.getD l none with
        | none => leBytes 1 (loopStateCode (loopAt l s).state) ++ [0] ++ List.replicate 15 0
        | some e => leBytes 1 (loopStateCode (loopAt l s).state) ++ [1] ++ leBytes 4 e.timeTag.toNat ++
            leBytes 4 e.step ++ leBytes 1 e.segment ++ leBytes 2 e.lam ++ leSigned 4 e.fMeas) s))) ∧
  (∀ (head : CommandHead) (start : Nat) (s : State), Taken head 2 s →
    exec (.queryAlarms head start) s = .next (replied head 0x4C .done .none
      (leBytes 1 s.alarm.records.length ++ (if s.alarm.overfull then [1] else [0]) ++
        leBytes 1 (min 2 (s.alarm.records.length - start)) ++
        ((s.alarm.records.drop start).take 2).flatMap (fun a =>
          leBytes 1 a.source ++ leBytes 1 (kindCode a.kind) ++ leBytes 1 a.channel ++ leBytes 1 (latchCode a.action) ++
            leBytes 2 a.count ++ leBytes 4 a.firstTag.toNat ++ leBytes 4 a.lastTag.toNat ++ leBytes 2 a.lam ++
            leBytes 4 a.step ++ (if a.acked then [1] else [0]))) s)) ∧
  (∀ (head : CommandHead) (half : Nat) (s : State), Taken head 2 s →
    (1 < half → exec (.queryStrain head half) s = .next (replied head 0x4C .refused .range [] s)) ∧
    (half ≤ 1 → exec (.queryStrain head half) s = .next (replied head 0x4C .done .none
      (leBytes 1 half ++ (List.range 8).flatMap (fun i =>
        leBytes 1 (channelStateCode (channelAt (8 * half + i) s).state) ++
          leSigned 4 (channelAt (8 * half + i) s).latest)) s))) ∧
  ∀ (head : CommandHead) (n : Nat) (s : State), Taken head 2 s →
    (n = 0 ∨ 27 < n → exec (.queryPeer head n) s = .next (replied head 0x4C .refused .range [] s)) ∧
    (1 ≤ n → n ≤ 27 →
      let p := peerAt n s
      exec (.queryPeer head n) s = .next (replied head 0x4C .done .none
        (leBytes 1 (if p.present then 1 else 0) ++
          leBytes 2 (match p.lastHeard with | some t => min ((s.age - t) / 10) 65535 | none => 65535) ++
          leBytes 1 p.loadGroup ++ leBytes 1 (seqCode p.seqState) ++ leBytes 1 (phaseCode p.phase) ++ leBytes 4 p.step ++
          leBytes 1 p.segment ++ leBytes 2 p.lam ++ leSigned 4 p.fMeas ++ leBytes 1 (actCode p.actuator) ++
          leBytes 1 (latchCode p.latch) ++ leBytes 2 p.flags.toNat ++ leBytes 2 p.digest.toNat ++
          leBytes 1 (latchCode p.lastSeen)) s)))

/-! ### The command queue -/

/-- A queued command of good form is appended to the queue, and refused BUSY with 8 waiting (R164). At the end of the
event, with no command in progress, the commands at the head are started one by one, each judged by its owner, until
one is in progress or none waits (R165). -/
def Obligations.QueuedCommandsStartInOrder : Prop :=
  (∀ (c : Instr) (head : CommandHead) (kind : QueuedKind) (s : State), queuedOf c = some (head, kind) → Taken head 0 s →
    s.cmd.queue.length < 8 →
    exec c s = .next (startCommands
      { s with cmd.queue := s.cmd.queue ++ [{ kind := kind, console := head.sender }] })) ∧
  (∀ (c : Instr) (head : CommandHead) (kind : QueuedKind) (s : State), queuedOf c = some (head, kind) → Taken head 0 s →
    8 ≤ s.cmd.queue.length →
    exec c s = .next (replied head (queuedKindCode kind) .refused .busy [] s)) ∧
  (∀ s : State, (s.cmd.current ≠ none ∨ s.cmd.queue = [] ∨ s.loader.phase ≠ .running) → startCommands s = s) ∧
  ∀ (s : State) (q : QueuedCommand) (rest : List QueuedCommand), s.loader.phase = .running → s.cmd.current = none →
    s.cmd.queue = q :: rest →
    startCommands s = startCommands (judgeQueued q.kind { s with cmd.queue := rest, cmd.current := some q })

/-- CHARGE and UNLOCK on an idle queue: refused with the reason of the first condition that fails (Table 5-5, R76,
R81); otherwise the station waits for the pump window with the purpose, its lines as they were, and with fewer than 4
entries in window its CHARGE telegram is placed at once (R88, R89). -/
def Obligations.ChargeAndUnlockWaitForTheWindow : Prop :=
  (∀ (head : CommandHead) (s : State), Taken head 0 s → QueueIdle s →
    (s.act.state = .tripped →
      exec (.charge head) s = .next (concluded head 0x4D .refused .tripped s) ∧
        exec (.unlock head) s = .next (concluded head 0x50 .refused .tripped s)) ∧
    (s.act.state ≠ .tripped → s.act.state ≠ .vented →
      exec (.charge head) s = .next (concluded head 0x4D .refused .state s)) ∧
    (s.act.state ≠ .tripped → s.act.state ≠ .locked →
      exec (.unlock head) s = .next (concluded head 0x50 .refused .state s)) ∧
    (s.act.state = .vented → s.alarm.latch = .dump →
      exec (.charge head) s = .next (concluded head 0x4D .refused .action s)) ∧
    (s.act.state = .locked → s.pins.estop = true →
      exec (.unlock head) s = .next (concluded head 0x50 .refused .estop s)) ∧
    (s.act.state = .locked → s.pins.estop = false → s.alarm.latch = .dump →
      exec (.unlock head) s = .next (concluded head 0x50 .refused .action s))) ∧
  (∀ (head : CommandHead) (s : State), Taken head 0 s → QueueIdle s → NoOwnCharge s → s.act.state = .vented →
    s.alarm.latch ≠ .dump → s.line.chargeSlot = none →
    exec (.charge head) s = .next
      { s with
        cmd.current := some { kind := .charge, console := head.sender }
        act.state := .waitWindow
        act.purpose := some .charge
        act.chargeList := inWindow s
        act.ownPlaced := if (inWindow s).length < 4 then some true else s.act.ownPlaced
        line.chargeSlot := if (inWindow s).length < 4 then some .charge else none
        pins.drive := 0 }) ∧
  ∀ (head : CommandHead) (s : State), Taken head 0 s → QueueIdle s → NoOwnCharge s → s.act.state = .locked →
    s.pins.estop = false → s.alarm.latch ≠ .dump → s.line.chargeSlot = none →
    exec (.unlock head) s = .next
      { s with
        cmd.current := some { kind := .unlock, console := head.sender }
        act.state := .waitWindow
        act.purpose := some .unlock
        act.chargeList := inWindow s
        act.ownPlaced := if (inWindow s).length < 4 then some true else s.act.ownPlaced
        line.chargeSlot := if (inWindow s).length < 4 then some .unlock else none
        pins.drive := 0 }

/-- VENT, LOCK and CLEARTRIP on an idle queue: refused with the reason of the first condition that fails (Table 5-5);
VENT in LIVE at λ 0 with the sequencer IDLE or ENDED enters VENTED (R78); LOCK in LIVE, outside RAMP and UNLOADING,
enters LOCKING with its timer, a sequencer in RUN HELD (R50, R79); CLEARTRIP in TRIPPED with ESTOP inactive enters
VENTED (R87). -/
def Obligations.VentLockAndCleartripChangeState : Prop :=
  (∀ (head : CommandHead) (s : State), Taken head 0 s → QueueIdle s →
    (s.act.state = .tripped →
      exec (.vent head) s = .next (concluded head 0x4E .refused .tripped s) ∧
        exec (.lock head) s = .next (concluded head 0x4F .refused .tripped s)) ∧
    (s.act.state ≠ .tripped →
      (s.act.state ≠ .live ∨ s.servo.lam ≠ 0 ∨ ¬ (s.seq.state = .idle ∨ s.seq.state = .ended)) →
      exec (.vent head) s = .next (concluded head 0x4E .refused .state s)) ∧
    (s.act.state ≠ .tripped →
      (s.act.state ≠ .live ∨ (s.seq.state = .run ∧ s.seq.phase = some .ramp) ∨ s.seq.state = .unloading) →
      exec (.lock head) s = .next (concluded head 0x4F .refused .state s)) ∧
    (s.act.state ≠ .tripped → exec (.cleartrip head) s = .next (concluded head 0x51 .refused .state s)) ∧
    (s.act.state = .tripped → s.pins.estop = true →
      exec (.cleartrip head) s = .next (concluded head 0x51 .refused .estop s)) ∧
    (s.act.state = .live → s.servo.lam = 0 → (s.seq.state = .idle ∨ s.seq.state = .ended) →
      exec (.vent head) s = .next (concluded head 0x4E .done .none
        { s with act.state := .vented, pins.iso := false, pins.dump := true, pins.lockCmd := false, pins.drive := 0 })) ∧
    (s.act.state = .tripped → s.pins.estop = false →
      exec (.cleartrip head) s = .next (concluded head 0x51 .done .none
        { s with act.state := .vented, pins.iso := false, pins.dump := true, pins.lockCmd := false, pins.drive := 0 })) ∧
    (s.act.state = .live → s.seq.state ≠ .run → s.seq.state ≠ .unloading → s.pins.lockEngaged = false →
      exec (.lock head) s = .next
        { s with
          cmd.current := some { kind := .lock, console := head.sender }
          act.state := .locking
          act.lockTimer := some (s.age + 10 * s.cfg.tLock)
          pins.iso := true
          pins.dump := false
          pins.lockCmd := true })) ∧
  ∀ (head : CommandHead) (s : State), Taken head 0 s → QueueIdle s → s.act.state = .live → s.seq.state = .run →
    s.seq.phase ≠ some .ramp → s.pins.lockEngaged = false →
    ∃ t, exec (.lock head) s = .next t ∧ t.act.state = .locking ∧ t.act.lockTimer = some (s.age + 10 * s.cfg.tLock) ∧
      valveLines t = (true, false, true) ∧ t.pins.drive = s.pins.drive ∧ t.seq.state = .held ∧
      t.seq.phase = s.seq.phase ∧ t.seq.step = s.seq.step ∧ t.alarm = s.alarm ∧
      t.cmd.current = some { kind := .lock, console := head.sender } ∧
      (s.seq.phase = some .dwell → t.scan.settled = false ∧ t.scan.settleTimer = none)

/-- ZERO on an idle queue starts a collection with its sums at 0 when the sequencer is IDLE and λ is 0, else is
refused STATE (R105). SHUNT is taken in IDLE and HELD: with no excitation group the scanner enters BEFORE; with one
its claim is placed, or held while the SHUNT slot is occupied; elsewhere it is refused STATE (R7, R110). -/
def Obligations.ZeroAndShuntBegin : Prop :=
  ∀ (head : CommandHead) (s : State), Taken head 0 s → QueueIdle s →
    (s.seq.state = .idle → s.servo.lam = 0 →
      exec (.zero head) s = .next
        { s with
          cmd.current := some { kind := .zero, console := head.sender }
          scan.zero := some { loadSum := 0, count := 0, vented := true }
          scan.channels := s.scan.channels.map (fun ch =>
            if ch.state = .disabled then ch else { ch with rawSum := 0 }) }) ∧
    (s.seq.state ≠ .idle ∨ s.servo.lam ≠ 0 →
      exec (.zero head) s = .next (concluded head 0x52 .refused .state s)) ∧
    (s.seq.state ≠ .idle → s.seq.state ≠ .held →
      exec (.shunt head) s = .next (concluded head 0x53 .refused .state s)) ∧
    (s.seq.state = .idle ∨ s.seq.state = .held → s.cfg.excitation = 0 →
      exec (.shunt head) s = .next
        { s with
          cmd.current := some { kind := .shunt, console := head.sender }
          scan.shunt := .before
          scan.shuntActive := true
          scan.shuntScans := 0
          scan.channels := s.scan.channels.map (fun ch => { ch with beforeSum := 0, onSum := 0 }) }) ∧
    (s.seq.state = .idle ∨ s.seq.state = .held → s.cfg.excitation ≠ 0 → s.line.shuntSlot = none →
      exec (.shunt head) s = .next
        { s with
          cmd.current := some { kind := .shunt, console := head.sender }
          scan.shunt := .claiming
          scan.claimHeld := false
          line.shuntSlot := some { isDone := false, group := s.cfg.excitation } }) ∧
    (s.seq.state = .idle ∨ s.seq.state = .held → s.cfg.excitation ≠ 0 → s.line.shuntSlot ≠ none →
      exec (.shunt head) s = .next
        { s with
          cmd.current := some { kind := .shunt, console := head.sender }
          scan.shunt := .claiming
          scan.claimHeld := true })

/-! ### What every step keeps -/

/-- Every step keeps λ, the working target and every target of the segment table in the range 0 to 10000 (R31, R32,
R59), the PI integral within ±2,147,418,112 and the drive within ±32767, and the drive output 0 in the states without
drive (R64 to R67). -/
def Obligations.StepKeepsLevelsAndDriveInBounds : Prop :=
  (∀ s t : State, LevelBounded s → step s = .next t → LevelBounded t) ∧
  (∀ s t : State, DriveBounded s → step s = .next t → DriveBounded t)

/-- Every step keeps the valve and nut lines those of the actuator state, all off while the pin is held (R74, R170),
and an active ESTOP with the actuator TRIPPED or LOCKED (R85). -/
def Obligations.StepKeepsLinesAndEstop : Prop :=
  (∀ s t : State, LinesFollow s → step s = .next t → LinesFollow t) ∧
    ∀ s t : State, EstopHeld s → step s = .next t → EstopHeld t

/-- Every step keeps the alarm list at 24 records or fewer, no two with the same key, and no cause entered twice
(R132, R140). -/
def Obligations.StepKeepsAlarmList : Prop :=
  ∀ s t : State, AlarmListOk s → step s = .next t → AlarmListOk t

/-- Every step keeps the record memory whole: pages and free pages add up to 256, no page in two blocks, at most one
block FILLING, the sealed queue the SEALED blocks each once, the sending the one SENDING block (R147, R151, R159), and
the pool in its canonical form (log entry 13). -/
def Obligations.StepKeepsRecordMemory : Prop :=
  (∀ s t : State, PagesAddUp s → BlocksMatch s → step s = .next t → PagesAddUp t ∧ BlocksMatch t) ∧
    ∀ s t : State, PoolCanonical s → step s = .next t → PoolCanonical t

/-- Every command leaves a block that holds its record with its pages and every byte of them, until it is freed (R151,
R159, R160). -/
def Obligations.SealedBlockKeepsItsBytes : Prop :=
  ∀ (c : Instr) (n b : Nat) (s t : State), PagesAddUp s → BlocksMatch s → HoldsRecord n s → exec c s = .next t →
    (blockAt n t).state = .free ∨
      (HoldsRecord n t ∧ (blockAt n t).pages = (blockAt n s).pages ∧
        blockRead (blockAt n t).pages b 1 t.recs.pool = blockRead (blockAt n s).pages b 1 s.recs.pool)

/-- Every step keeps the shunt guarded: the switches are on only in ON_SETTLE and ON, in which SHUNT_ACTIVE is set and
the station holds the claim of its excitation group, where it has one; the SHUNT slot, the command in progress and the
shunt state agree (R110 to R115). -/
def Obligations.StepKeepsShuntGuarded : Prop :=
  ∀ s t : State, ShuntGuarded s → step s = .next t → ShuntGuarded t

/-- A filled crack table entry is never changed, and its loop never INTACT again, by any step but a start (R123). -/
def Obligations.CrackEntryIsKeptToTheStart : Prop :=
  (∀ s t : State, CrackKept s → step s = .next t → CrackKept t) ∧
    ∀ (c : Instr) (s t : State) (l : Nat) (e : CrackEntry), CrackKept s → ¬ IsStart c → l < 8 →
      s.crack.entries.getD l none = some e → exec c s = .next t →
      t.crack.entries.getD l none = some e ∧ (loopAt l t).state ≠ .intact ∧ (loopAt l t).state ≠ .disabled

/-- The latch falls only at an accepted RESUME or a start (R135), and a telegram that is a RESUME counts as one (log
entry 7). Every step keeps RUN and UNLOADING with the actuator LIVE (R50), and RUN from standing under a latch of HOLD
or above (R46, R47, R49). -/
def Obligations.LatchFallsOnlyAtResume : Prop :=
  (∀ (c : Instr) (s t : State), exec c s = .next t → latchCode t.alarm.latch < latchCode s.alarm.latch →
    (∃ head, c = .resume head) ∨ IsStart c ∨ IsRawBytes c) ∧
  (∀ s t : State, RunNeedsLive s → step s = .next t → RunNeedsLive t) ∧
  ∀ s t : State, LatchHolds s → step s = .next t → LatchHolds t

/-- Every step keeps the dwell timers running in DWELL only, the mismatch timer in DONE only, SETTLED and the settle
window in DWELL only (R38 to R43, R104), every queue and list within its capacity (R7, R88, R127, R157, R164), a
command waiting only behind one in progress (R165), and the STATUS slot taken exactly while a STATUS is on offer or in
transmission (R9, R15). -/
def Obligations.StepKeepsTimersAndQueues : Prop :=
  (∀ s t : State, DwellTimers s → step s = .next t → DwellTimers t) ∧
    (∀ s t : State, SettleInDwell s → step s = .next t → SettleInDwell t) ∧
    (∀ s t : State, QueuesBounded s → step s = .next t → QueuesBounded t) ∧
    (∀ s t : State, CommandsFlow s → step s = .next t → CommandsFlow t) ∧
    ∀ s t : State, TakeMatches s → step s = .next t → TakeMatches t

/-- What commands leave alone. The settings and the loader change only at READING_END and a start; the segment table
and the digest only at PROGRAM and CLEARPROG too; λ, the ramp accumulator, setpoint, measured force, error, drive and
the flags of the bands only at SERVO_TICK, the integral there, at CHARGE_OWN_COMPLETION and at UNLOCK_DEADLINE_EXPIRY,
the load zero only at READING_END, SCAN and ZERO_COMPLETE; peer records only at a station's STATUS or a record's
expiry; loops and crack table only at LOOP_SCAN, LOOP_READING_TAKEN and READING_END, the loops at ACCEPT too; AE
inputs only at hits, dead times, scans and the ends of averaging runs; the latest averages only at SCAN, the end of an
averaging run and READING_END; an input level only at its own change. The commands that wait stay; the age clock never
falls, and where it stands the time tag moves at TIMESET only (a command that expires a timer early moves both on: the
model's choice, log entry 2). Raw bytes count as the telegram they spell (log entry 7). -/
def Obligations.OnlyTheOwnersChangeTheirState : Prop :=
  ∀ (c : Instr) (s t : State), exec c s = .next t → ¬ IsStart c →
    ((∀ straps image loops, c ≠ .readingEnd straps image loops) → t.cfg = s.cfg ∧ t.loader = s.loader ∧
      t.line.bitRate = s.line.bitRate ∧ t.line.statusPeriod = s.line.statusPeriod ∧
      t.line.loadGroup = s.line.loadGroup) ∧
    ((∀ head q, c ≠ .program head q) → (∀ head, c ≠ .clearprog head) → ¬ IsRawBytes c →
      t.seq.table = s.seq.table ∧ t.seq.digest = s.seq.digest) ∧
    ((∀ code, c ≠ .servoTick code) → t.servo.lam = s.servo.lam ∧ t.servo.acc = s.servo.acc ∧
      t.servo.fSet = s.servo.fSet ∧ t.servo.fMeas = s.servo.fMeas ∧ t.servo.error = s.servo.error ∧
      t.servo.drive = s.servo.drive ∧ t.servo.lagging = s.servo.lagging ∧ t.servo.overLimit = s.servo.overLimit ∧
      (c ≠ .chargeOwnCompletion → c ≠ .unlockDeadlineExpiry → t.servo.integral = s.servo.integral)) ∧
    ((∀ codes load, c ≠ .scan codes load) → c ≠ .zeroComplete →
      (∀ straps image loops, c ≠ .readingEnd straps image loops) → t.servo.loadZero = s.servo.loadZero) ∧
    ((∀ n r, c ≠ .statusReceived n r) → (∀ n, c ≠ .peerRecordExpiry n) → ¬ IsRawBytes c →
      t.peers.records = s.peers.records ∧ t.peers.memberAbsent = s.peers.memberAbsent) ∧
    ((∀ readings, c ≠ .loopScan readings) → (∀ l, c ≠ .loopReadingTaken l) →
      (∀ straps image loops, c ≠ .readingEnd straps image loops) →
      t.crack.entries = s.crack.entries ∧
        ((∀ head l, c ≠ .accept head l) → ¬ IsRawBytes c → t.crack.loops = s.crack.loops)) ∧
    ((∀ readings, c ≠ .loopScan readings) → (∀ i, c ≠ .aeHit i) → (∀ i, c ≠ .deadTimeExpiry i) →
      (∀ codes load, c ≠ .scan codes load) → c ≠ .averagingRunComplete → t.crack.inputs = s.crack.inputs) ∧
    ((∀ codes load, c ≠ .scan codes load) → c ≠ .averagingRunComplete →
      (∀ straps image loops, c ≠ .readingEnd straps image loops) →
      t.scan.channels.map (fun ch => ch.latest) = s.scan.channels.map (fun ch => ch.latest)) ∧
    ((∀ level, c ≠ .pressOkChange level) → t.pins.pressOk = s.pins.pressOk) ∧
    ((∀ level, c ≠ .lockEngagedChange level) → t.pins.lockEngaged = s.pins.lockEngaged) ∧
    (c ≠ .estopActive → c ≠ .estopInactive → t.pins.estop = s.pins.estop) ∧
    ((∀ head tag, c ≠ .timeset head tag) → ¬ IsRawBytes c → t.age = s.age → t.cmd.timeTag = s.cmd.timeTag) ∧
    t.pending = s.pending ∧ s.age ≤ t.age
end

