-- ==== Sys2Proof/Laws/Lists.lean ====
section
/-! SUPPORT. Laws of the small operations of Operands.lean: one element of many, rounding and clamping, the age clock and
the order of the latch. -/
namespace Sys2Proof.Machine

open Sys2Proof

/-! ### One of a fixed number of like things -/

@[simp] theorem modifyAt_length {α : Type} (f : α → α) (i : Nat) (l : List α) : (modifyAt f i l).length = l.length := by
  induction l generalizing i with
  | nil => simp [modifyAt]
  | cons x r ih => cases i <;> simp [modifyAt, ih]

theorem modifyAt_getElem? {α : Type} (f : α → α) (i j : Nat) (l : List α) :
    (modifyAt f i l)[j]? = if i = j then l[j]?.map f else l[j]? := by
  induction l generalizing i j with
  | nil => simp [modifyAt]
  | cons x r ih => cases i <;> cases j <;> simp [modifyAt, ih]

/-- Reading after replacing the `i`-th: the image at `i`, and what stood there elsewhere. -/
theorem modifyAt_getD {α : Type} (f : α → α) (i j : Nat) (l : List α) (d : α) :
    (modifyAt f i l).getD j d = if i = j ∧ j < l.length then f (l.getD j d) else l.getD j d := by
  simp only [List.getD_eq_getElem?_getD, modifyAt_getElem?]
  by_cases h : i = j <;> by_cases h2 : j < l.length <;> simp [h, h2]

theorem modifyAt_getD_ne {α : Type} (f : α → α) {i j : Nat} (l : List α) (d : α) (h : i ≠ j) :
    (modifyAt f i l).getD j d = l.getD j d := by
  rw [modifyAt_getD, if_neg (fun hc => h hc.1)]

/-- A replacement past the end changes nothing. -/
theorem modifyAt_of_length_le {α : Type} (f : α → α) (i : Nat) (l : List α) (h : l.length ≤ i) : modifyAt f i l = l := by
  induction l generalizing i with
  | nil => simp [modifyAt]
  | cons x r ih =>
    cases i with
    | zero => simp at h
    | succ i => simp [modifyAt, ih i (by simpa using h)]

theorem mem_modifyAt {α : Type} {f : α → α} {i : Nat} {l : List α} {x : α} (h : x ∈ modifyAt f i l) :
    x ∈ l ∨ ∃ y ∈ l, x = f y := by
  induction l generalizing i with
  | nil => simp [modifyAt] at h
  | cons a r ih =>
    cases i with
    | zero =>
      simp only [modifyAt, List.mem_cons] at h
      rcases h with h | h
      · exact .inr ⟨a, by simp, h⟩
      · exact .inl (by simp [h])
    | succ i =>
      simp only [modifyAt, List.mem_cons] at h
      rcases h with h | h
      · exact .inl (by simp [h])
      · rcases ih h with h | ⟨y, hy, rfl⟩
        · exact .inl (by simp [h])
        · exact .inr ⟨y, by simp [hy], rfl⟩

@[simp] theorem setAt_length {α : Type} (i : Nat) (v : α) (l : List α) : (setAt i v l).length = l.length := by
  simp [setAt]

theorem setAt_getD {α : Type} (i j : Nat) (v : α) (l : List α) (d : α) :
    (setAt i v l).getD j d = if i = j ∧ j < l.length then v else l.getD j d := by
  simp only [setAt, modifyAt_getD]

theorem mem_setAt {α : Type} {i : Nat} {v x : α} {l : List α} (h : x ∈ setAt i v l) : x ∈ l ∨ x = v := by
  rcases mem_modifyAt h with h | ⟨_, _, h⟩
  · exact .inl h
  · exact .inr h

@[simp] theorem mapFrom_length {α : Type} (f : Nat → α → α) (k : Nat) (l : List α) : (mapFrom f k l).length = l.length := by
  induction l generalizing k with
  | nil => simp [mapFrom]
  | cons x r ih => simp [mapFrom, ih]

theorem mapFrom_getElem? {α : Type} (f : Nat → α → α) (k j : Nat) (l : List α) :
    (mapFrom f k l)[j]? = l[j]?.map (f (k + j)) := by
  induction l generalizing k j with
  | nil => simp [mapFrom]
  | cons x r ih =>
    cases j with
    | zero => simp [mapFrom]
    | succ j => simp only [mapFrom, List.getElem?_cons_succ, ih]; congr 2; omega

/-- Reading after replacing each: the image with its number, and the default past the end. -/
theorem mapFrom_getD {α : Type} (f : Nat → α → α) (k j : Nat) (l : List α) (d : α) :
    (mapFrom f k l).getD j d = if j < l.length then f (k + j) (l.getD j d) else d := by
  simp only [List.getD_eq_getElem?_getD, mapFrom_getElem?]
  by_cases h : j < l.length <;> simp [h]

/-- Replacing each by an image that does not use its number is `map`. -/
theorem mapFrom_const {α : Type} (f : α → α) (k : Nat) (l : List α) : mapFrom (fun _ x => f x) k l = l.map f := by
  induction l generalizing k with
  | nil => simp [mapFrom]
  | cons x r ih => simp [mapFrom, ih]

/-! ### Rounding and clamping (section 4.2) -/

/-- A clamped value lies in its range. -/
theorem clampTo_mem (lo hi v : Int) (h : lo ≤ hi) : lo ≤ clampTo lo hi v ∧ clampTo lo hi v ≤ hi := by
  unfold clampTo; split
  · omega
  · split <;> omega

/-- A value in range is not changed by its clamp. -/
theorem clampTo_eq_self {lo hi v : Int} (h1 : lo ≤ v) (h2 : v ≤ hi) : clampTo lo hi v = v := by
  unfold clampTo; split
  · omega
  · split <;> omega

/-- Rounding is symmetric: equal and opposite quotients round to equal and opposite values. -/
theorem roundDiv_neg (a : Int) (d : Nat) : roundDiv (-a) d = -roundDiv a d := by
  unfold roundDiv
  rcases Int.lt_trichotomy a 0 with h | h | h
  · rw [if_pos (by omega), if_neg (by omega)]; simp
  · subst h
    simp only [Int.neg_zero, Int.le_refl, if_true, Int.mul_zero, Int.zero_add]
    have : (d : Int) / (2 * (d : Int)) = 0 := by
      rcases Nat.eq_zero_or_pos d with h | h
      · simp [h]
      · exact Int.ediv_eq_zero_of_lt (by omega) (by omega)
    omega
  · rw [if_neg (by omega), if_pos (by omega)]; simp

/-! ### The age clock -/

/-- The age clock never runs back, and reaches the moment asked for. -/
theorem advanceTo_age (t : Nat) (s : State) : (advanceTo t s).age = max s.age t := by
  unfold advanceTo; split <;> simp <;> omega

/-- Moving the age clock changes nothing but the age and the time tag. -/
theorem advanceTo_frame (t : Nat) (s : State) :
    { advanceTo t s with age := s.age, cmd.timeTag := s.cmd.timeTag } = s := by
  unfold advanceTo; split <;> rfl

/-- A moment already reached moves nothing. -/
theorem advanceTo_of_le {t : Nat} {s : State} (h : t ≤ s.age) : advanceTo t s = s := by
  simp [advanceTo, Nat.not_lt.mpr h]

/-! ### The action latch (R135) -/

theorem latchCode_injective {a b : Latch} (h : latchCode a = latchCode b) : a = b := by
  cases a <;> cases b <;> simp [latchCode] at h ⊢

@[simp] theorem latchCode_latchMax (a b : Latch) : latchCode (latchMax a b) = max (latchCode a) (latchCode b) := by
  unfold latchMax; split <;> omega

theorem latchMax_eq_left {a b : Latch} (h : latchAtLeast a b = true) : latchMax a b = a := by
  simp [latchAtLeast] at h; simp [latchMax, Nat.not_lt.mpr h]

theorem latchMax_eq_right {a b : Latch} (h : latchAtLeast a b = false) : latchMax a b = b := by
  simp [latchAtLeast] at h; simp [latchMax, h]

end Sys2Proof.Machine
end

