-- ==== Sys2Proof/Laws/Ops.lean ====
section
/-! SUPPORT. For each shared operation that branches, its cases: what it does under each condition, so that a proof cites the
case and never unfolds the operation. -/
namespace Sys2Proof.Machine

open Sys2Proof

/-! ### Replies, ALARM and SHUNT telegrams (R7, R12, R13) -/

theorem placeLateReply_of_room {r : Reply} {s : State} (h : s.line.replyQ.length < 4) :
    placeLateReply r s = placeReply r s := by
  simp [placeLateReply, Config.replyQueueSize, h]

theorem placeLateReply_of_full {r : Reply} {s : State} (h : 4 ≤ s.line.replyQ.length) :
    placeLateReply r s = { s with line.heldReplies := s.line.heldReplies ++ [r] } := by
  simp [placeLateReply, Config.replyQueueSize, Nat.not_lt.mpr h]

theorem placeAlarm_of_room {t : AlarmTelegram} {s : State} (h : s.line.alarmQ.length < 4) :
    placeAlarm t s = { s with line.alarmQ := s.line.alarmQ ++ [t] } := by
  simp [placeAlarm, Config.alarmQueueSize, h]

theorem placeAlarm_of_full {t : AlarmTelegram} {s : State} (h : 4 ≤ s.line.alarmQ.length) : placeAlarm t s = s := by
  simp [placeAlarm, Config.alarmQueueSize, Nat.not_lt.mpr h]

theorem placeShuntDone_of_empty {s : State} (h : s.line.shuntSlot = none) :
    placeShuntDone s = { s with line.shuntSlot := some (ownDone s) } := by
  simp [placeShuntDone, h]

theorem placeShuntDone_of_done {s : State} {t : ShuntTelegram} (h : s.line.shuntSlot = some t) (hd : t.isDone = true) :
    placeShuntDone s = s := by
  simp [placeShuntDone, h, hd]

theorem placeShuntDone_of_sent_claim {s : State} {t : ShuntTelegram} (h : s.line.shuntSlot = some t)
    (hd : t.isDone = false) (hw : inTransmission .shunt s = true) :
    placeShuntDone s = { s with line.shuntDoneBehind := true } := by
  simp [placeShuntDone, h, hd, hw]

theorem placeShuntDone_of_unsent_claim {s : State} {t : ShuntTelegram} (h : s.line.shuntSlot = some t)
    (hd : t.isDone = false) (hw : inTransmission .shunt s = false) :
    placeShuntDone s =
      { s with line.shuntSlot := some (ownDone s), line.tx := s.line.tx.map (reofferDone s) } := by
  simp [placeShuntDone, h, hd, hw]

/-- What is in transmission is on offer (R2). -/
theorem onOffer_of_inTransmission {c : TxClass} {s : State} (h : inTransmission c s = true) : onOffer c s = true := by
  unfold inTransmission at h
  unfold onOffer
  split <;> simp_all

@[simp] theorem reofferDone_cls (s : State) (t : Transmission) : (reofferDone s t).cls = t.cls := by
  unfold reofferDone; split <;> rfl

@[simp] theorem reofferDone_won (s : State) (t : Transmission) : (reofferDone s t).won = t.won := by
  unfold reofferDone; split <;> rfl

/-! ### Ends of queued commands (R165) -/

theorem endCommand_of_none {result : ReplyResult} {reason : Reason} {s : State} (h : s.cmd.current = none) :
    endCommand result reason s = s := by
  simp [endCommand, h]

theorem endCommand_of_some {result : ReplyResult} {reason : Reason} {s : State} {q : QueuedCommand}
    (h : s.cmd.current = some q) :
    endCommand result reason s =
      { setEvent .commandDone (placeLateReply
          { dest := q.console, kindCode := queuedKindCode q.kind, result := result, reason := reason, data := [] } s) with
        cmd.current := none } := by
  simp [endCommand, h]

theorem endActuatorCommand_of_other {result : ReplyResult} {reason : Reason} {s : State}
    (h : ∀ q, s.cmd.current = some q → isActuatorCommand q.kind = false) : endActuatorCommand result reason s = s := by
  unfold endActuatorCommand
  split
  · rfl
  · simp [h _ ‹_›]

theorem endActuatorCommand_of_own {result : ReplyResult} {reason : Reason} {s : State} {q : QueuedCommand}
    (h : s.cmd.current = some q) (hq : isActuatorCommand q.kind = true) :
    endActuatorCommand result reason s = endCommand result reason s := by
  simp [endActuatorCommand, h, hq]

theorem endCommandOf_of_kind {kind : QueuedKind} {result : ReplyResult} {reason : Reason} {s : State} {console : Nat}
    (h : s.cmd.current = some { kind := kind, console := console }) :
    endCommandOf kind result reason s = endCommand result reason s := by
  simp [endCommandOf, h]

/-! ### Record memory (R151, R158, R159) -/

theorem sealBlock_of_none {cause : SealCause} {kind : Option AlarmKind} {s : State} (h : fillingBlock s = none) :
    sealBlock cause kind s = s := by
  simp [sealBlock, h]

/-- With a block SENDING, with no block SEALED or with no request waiting, none is served. -/
theorem serveFetch_of_idle {s : State} (h : s.recs.sending ≠ none ∨ s.recs.sealedQ = [] ∨ s.recs.fetchQ = []) :
    serveFetch s = s := by
  unfold serveFetch
  split
  · rename_i h1 h2 h3
    rcases h with h | h | h
    · exact absurd h1 h
    · rw [h] at h2; cases h2
    · rw [h] at h3; cases h3
  · rfl

theorem serveFetch_of_waiting {s : State} {b : Nat} {queue : List Nat} {r : FetchRequest} {rest : List FetchRequest}
    (h1 : s.recs.sending = none) (h2 : s.recs.sealedQ = b :: queue) (h3 : s.recs.fetchQ = r :: rest) :
    serveFetch s = startSending b r.console
      (placeLateReply { dest := r.console, kindCode := 0x48, result := .done, reason := .none, data := [] }
        { s with recs.fetchQ := rest }) := by
  simp [serveFetch, h1, h2, h3]

theorem placeParts_of_idle {s : State} (h : s.recs.sending = none) : placeParts s = s := by
  simp [placeParts, h]

/-! ### The responses to a latch (R46, R47, R84, R115, R135) -/

theorem scannerOnLatch_of_below {new : Latch} {s : State} (h : new ≠ .dump) : scannerOnLatch new s = s := by
  simp [scannerOnLatch, h]

theorem scannerOnLatch_of_quiet {new : Latch} {s : State} (h : s.scan.shunt = .none) : scannerOnLatch new s = s := by
  simp [scannerOnLatch, shuntRuns, h]

theorem actuatorOnLatch_of_below {new : Latch} {s : State} (h : new ≠ .dump) : actuatorOnLatch new s = s := by
  simp [actuatorOnLatch, h]

theorem actuatorOnLatch_of_safe {new : Latch} {s : State} (h : s.act.state = .locked ∨ s.act.state = .tripped) :
    actuatorOnLatch new s = s := by
  rcases h with h | h <;> simp [actuatorOnLatch, h]

theorem actuatorOnLatch_dump {s : State} (h1 : s.act.state ≠ .locked) (h2 : s.act.state ≠ .tripped) :
    actuatorOnLatch .dump s = enterTripped .action s := by
  simp [actuatorOnLatch, h1, h2]

theorem sequencerOnLatch_of_below {new : Latch} {s : State} (h : latchAtLeast new .hold = false) :
    sequencerOnLatch new s = s := by
  have hu : latchAtLeast new .unload = false := by
    revert h; cases new <;> decide
  unfold sequencerOnLatch
  split <;> simp [h, hu]

theorem sequencerOnLatch_of_rest {new : Latch} {s : State} (h : s.seq.state = .idle ∨ s.seq.state = .unloading) :
    sequencerOnLatch new s = s := by
  rcases h with h | h <;> simp [sequencerOnLatch, h]

/-- A NOTE is told to every block and moves none. -/
theorem handLatch_note (s : State) : handLatch .note s = s := by
  rw [handLatch, actuatorOnLatch_of_below (by decide), sequencerOnLatch_of_below (by decide),
    scannerOnLatch_of_below (by decide)]

/-- A latch of HOLD moves only a sequencer in RUN. -/
theorem handLatch_hold (s : State) : handLatch .hold s = if s.seq.state = .run then enterHeld s else s := by
  rw [handLatch, actuatorOnLatch_of_below (by decide), scannerOnLatch_of_below (by decide)]
  unfold sequencerOnLatch
  split <;> simp_all [latchAtLeast, latchCode]

/-! ### The causes present (R140) -/

theorem mem_causeOn (c d : Cause) (s : State) : d ∈ (causeOn c s).alarm.causes ↔ d ∈ s.alarm.causes ∨ d = c := by
  unfold causeOn
  split
  · constructor
    · exact .inl
    · rintro (h | rfl) <;> assumption
  · simp

theorem mem_causeOff (c d : Cause) (s : State) : d ∈ (causeOff c s).alarm.causes ↔ d ∈ s.alarm.causes ∧ d ≠ c := by
  simp [causeOff]

theorem nodup_causeOn {c : Cause} {s : State} (h : s.alarm.causes.Nodup) : (causeOn c s).alarm.causes.Nodup := by
  unfold causeOn
  split
  · exact h
  · rename_i hc
    exact List.nodup_append.mpr ⟨h, by simp, by simpa using fun a ha (hac : a = c) => hc (hac ▸ ha)⟩

theorem nodup_causeOff {c : Cause} {s : State} (h : s.alarm.causes.Nodup) : (causeOff c s).alarm.causes.Nodup :=
  h.filter _

/-! ### The alarm list (R132, R133) -/

/-- A raise leaves the list with at most 24 records. -/
theorem storeRaise_length {r : Raise} {u : AlarmUnit} (h : u.records.length ≤ 24) :
    (storeRaise r u).records.length ≤ 24 := by
  unfold storeRaise
  split
  · simpa using h
  · split
    · rename_i h2; simp [Config.alarmListSize] at h2 ⊢; omega
    · split
      · rename_i h3
        have h3' := h3
        simp only [List.any_eq_true] at h3'
        obtain ⟨a, ha, hp⟩ := h3'
        have := List.length_eraseP_of_mem (p := fun a : AlarmRecord => a.acked) ha hp
        have hpos : 0 < u.records.length := List.length_pos_of_mem ha
        simp only [List.length_append, List.length_singleton, this]; omega
      · exact h

/-- A raise whose key is listed keeps the keys and their order. -/
theorem storeRaise_of_held {r : Raise} {u : AlarmUnit} (h : u.records.any (sameKey r) = true) :
    storeRaise r u = { u with records := u.records.map (fun a => if sameKey r a then mergeRecord r a else a) } := by
  simp [storeRaise, h]

/-- A raise with a new key is appended while fewer than 24 records are held. -/
theorem storeRaise_of_new {r : Raise} {u : AlarmUnit} (h : u.records.any (sameKey r) = false) (h2 : u.records.length < 24) :
    storeRaise r u = { u with records := u.records ++ [firstRecord r] } := by
  simp [storeRaise, h, Config.alarmListSize, h2]

end Sys2Proof.Machine
end

