-- ==== Sys2Proof/Laws/Frames.lean ====
section
/-! SUPPORT. What each shared operation of Ops leaves alone, once: the blocks of State it does not touch, and the fields of
the blocks it touches that it keeps or sets whatever the state. A statement cites these and never unfolds the operation. -/
namespace Sys2Proof.Machine

open Sys2Proof

/-- The class of the telegram on offer or in transmission; a SHUNT_DONE that replaces an unsent claim keeps it (R7). -/
@[simp] abbrev txClass (s : State) : Option TxClass :=
  s.line.tx.map Transmission.cls

/-! ### Telegrams, replies and events -/

@[simp] theorem setEvent_frame (e : Event) (s : State) :
    (setEvent e s).pending = s.pending ∧ (setEvent e s).age = s.age ∧ (setEvent e s).loader = s.loader ∧
    (setEvent e s).cfg = s.cfg ∧ (setEvent e s).pins = s.pins ∧ (setEvent e s).peers = s.peers ∧
    (setEvent e s).seq = s.seq ∧ (setEvent e s).servo = s.servo ∧ (setEvent e s).act = s.act ∧
    (setEvent e s).scan = s.scan ∧ (setEvent e s).crack = s.crack ∧ (setEvent e s).alarm = s.alarm ∧
    (setEvent e s).recs = s.recs ∧ (setEvent e s).cmd = s.cmd ∧ (setEvent e s).line.bitRate = s.line.bitRate ∧
    (setEvent e s).line.statusPeriod = s.line.statusPeriod ∧ (setEvent e s).line.loadGroup = s.line.loadGroup ∧
    (setEvent e s).line.statusTimer = s.line.statusTimer ∧ (setEvent e s).line.chargeSlot = s.line.chargeSlot ∧
    (setEvent e s).line.statusSlot = s.line.statusSlot ∧ (setEvent e s).line.tx = s.line.tx ∧
    (setEvent e s).line.faultCount = s.line.faultCount ∧ (setEvent e s).line.lineFault = s.line.lineFault ∧
    (setEvent e s).line.ownCompleted = s.line.ownCompleted ∧ (setEvent e s).line.alarmQ = s.line.alarmQ ∧
    (setEvent e s).line.shuntSlot = s.line.shuntSlot ∧ (setEvent e s).line.shuntDoneBehind = s.line.shuntDoneBehind ∧
    (setEvent e s).line.replyQ = s.line.replyQ ∧ (setEvent e s).line.dataQ = s.line.dataQ ∧
    (setEvent e s).line.heldReplies = s.line.heldReplies := by
  simp [setEvent]

@[simp] theorem placeReply_frame (r : Reply) (s : State) :
    (placeReply r s).pending = s.pending ∧ (placeReply r s).age = s.age ∧ (placeReply r s).loader = s.loader ∧
    (placeReply r s).cfg = s.cfg ∧ (placeReply r s).pins = s.pins ∧ (placeReply r s).peers = s.peers ∧
    (placeReply r s).seq = s.seq ∧ (placeReply r s).servo = s.servo ∧ (placeReply r s).act = s.act ∧
    (placeReply r s).scan = s.scan ∧ (placeReply r s).crack = s.crack ∧ (placeReply r s).alarm = s.alarm ∧
    (placeReply r s).recs = s.recs ∧ (placeReply r s).cmd = s.cmd ∧ (placeReply r s).line.bitRate = s.line.bitRate ∧
    (placeReply r s).line.statusPeriod = s.line.statusPeriod ∧ (placeReply r s).line.loadGroup = s.line.loadGroup ∧
    (placeReply r s).line.statusTimer = s.line.statusTimer ∧ (placeReply r s).line.chargeSlot = s.line.chargeSlot ∧
    (placeReply r s).line.statusSlot = s.line.statusSlot ∧ (placeReply r s).line.tx = s.line.tx ∧
    (placeReply r s).line.faultCount = s.line.faultCount ∧ (placeReply r s).line.lineFault = s.line.lineFault ∧
    (placeReply r s).line.ownCompleted = s.line.ownCompleted ∧ (placeReply r s).line.alarmQ = s.line.alarmQ ∧
    (placeReply r s).line.shuntSlot = s.line.shuntSlot ∧
    (placeReply r s).line.shuntDoneBehind = s.line.shuntDoneBehind ∧ (placeReply r s).line.dataQ = s.line.dataQ ∧
    (placeReply r s).line.heldReplies = s.line.heldReplies ∧ (placeReply r s).line.events = s.line.events ∧
    (placeReply r s).line.afterTake = s.line.afterTake := by
  simp [placeReply]

@[simp] theorem placeLateReply_frame (r : Reply) (s : State) :
    (placeLateReply r s).pending = s.pending ∧ (placeLateReply r s).age = s.age ∧
    (placeLateReply r s).loader = s.loader ∧ (placeLateReply r s).cfg = s.cfg ∧ (placeLateReply r s).pins = s.pins ∧
    (placeLateReply r s).peers = s.peers ∧ (placeLateReply r s).seq = s.seq ∧ (placeLateReply r s).servo = s.servo ∧
    (placeLateReply r s).act = s.act ∧ (placeLateReply r s).scan = s.scan ∧ (placeLateReply r s).crack = s.crack ∧
    (placeLateReply r s).alarm = s.alarm ∧ (placeLateReply r s).recs = s.recs ∧ (placeLateReply r s).cmd = s.cmd ∧
    (placeLateReply r s).line.bitRate = s.line.bitRate ∧
    (placeLateReply r s).line.statusPeriod = s.line.statusPeriod ∧
    (placeLateReply r s).line.loadGroup = s.line.loadGroup ∧
    (placeLateReply r s).line.statusTimer = s.line.statusTimer ∧
    (placeLateReply r s).line.chargeSlot = s.line.chargeSlot ∧
    (placeLateReply r s).line.statusSlot = s.line.statusSlot ∧ (placeLateReply r s).line.tx = s.line.tx ∧
    (placeLateReply r s).line.faultCount = s.line.faultCount ∧
    (placeLateReply r s).line.lineFault = s.line.lineFault ∧
    (placeLateReply r s).line.ownCompleted = s.line.ownCompleted ∧ (placeLateReply r s).line.alarmQ = s.line.alarmQ ∧
    (placeLateReply r s).line.shuntSlot = s.line.shuntSlot ∧
    (placeLateReply r s).line.shuntDoneBehind = s.line.shuntDoneBehind ∧
    (placeLateReply r s).line.dataQ = s.line.dataQ ∧ (placeLateReply r s).line.events = s.line.events ∧
    (placeLateReply r s).line.afterTake = s.line.afterTake := by
  unfold placeLateReply; split <;> simp

@[simp] theorem placeAlarm_frame (t : AlarmTelegram) (s : State) :
    (placeAlarm t s).pending = s.pending ∧ (placeAlarm t s).age = s.age ∧ (placeAlarm t s).loader = s.loader ∧
    (placeAlarm t s).cfg = s.cfg ∧ (placeAlarm t s).pins = s.pins ∧ (placeAlarm t s).peers = s.peers ∧
    (placeAlarm t s).seq = s.seq ∧ (placeAlarm t s).servo = s.servo ∧ (placeAlarm t s).act = s.act ∧
    (placeAlarm t s).scan = s.scan ∧ (placeAlarm t s).crack = s.crack ∧ (placeAlarm t s).alarm = s.alarm ∧
    (placeAlarm t s).recs = s.recs ∧ (placeAlarm t s).cmd = s.cmd ∧ (placeAlarm t s).line.bitRate = s.line.bitRate ∧
    (placeAlarm t s).line.statusPeriod = s.line.statusPeriod ∧ (placeAlarm t s).line.loadGroup = s.line.loadGroup ∧
    (placeAlarm t s).line.statusTimer = s.line.statusTimer ∧ (placeAlarm t s).line.chargeSlot = s.line.chargeSlot ∧
    (placeAlarm t s).line.statusSlot = s.line.statusSlot ∧ (placeAlarm t s).line.tx = s.line.tx ∧
    (placeAlarm t s).line.faultCount = s.line.faultCount ∧ (placeAlarm t s).line.lineFault = s.line.lineFault ∧
    (placeAlarm t s).line.ownCompleted = s.line.ownCompleted ∧ (placeAlarm t s).line.shuntSlot = s.line.shuntSlot ∧
    (placeAlarm t s).line.shuntDoneBehind = s.line.shuntDoneBehind ∧ (placeAlarm t s).line.replyQ = s.line.replyQ ∧
    (placeAlarm t s).line.dataQ = s.line.dataQ ∧ (placeAlarm t s).line.heldReplies = s.line.heldReplies ∧
    (placeAlarm t s).line.events = s.line.events ∧ (placeAlarm t s).line.afterTake = s.line.afterTake := by
  unfold placeAlarm; split <;> simp

@[simp] theorem placeShuntDone_frame (s : State) :
    (placeShuntDone s).pending = s.pending ∧ (placeShuntDone s).age = s.age ∧ (placeShuntDone s).loader = s.loader ∧
    (placeShuntDone s).cfg = s.cfg ∧ (placeShuntDone s).pins = s.pins ∧ (placeShuntDone s).peers = s.peers ∧
    (placeShuntDone s).seq = s.seq ∧ (placeShuntDone s).servo = s.servo ∧ (placeShuntDone s).act = s.act ∧
    (placeShuntDone s).scan = s.scan ∧ (placeShuntDone s).crack = s.crack ∧ (placeShuntDone s).alarm = s.alarm ∧
    (placeShuntDone s).recs = s.recs ∧ (placeShuntDone s).cmd = s.cmd ∧
    (placeShuntDone s).line.bitRate = s.line.bitRate ∧ (placeShuntDone s).line.statusPeriod = s.line.statusPeriod ∧
    (placeShuntDone s).line.loadGroup = s.line.loadGroup ∧ (placeShuntDone s).line.statusTimer = s.line.statusTimer ∧
    (placeShuntDone s).line.chargeSlot = s.line.chargeSlot ∧ (placeShuntDone s).line.statusSlot = s.line.statusSlot ∧
    txClass (placeShuntDone s) = txClass s ∧ (placeShuntDone s).line.faultCount = s.line.faultCount ∧
    (placeShuntDone s).line.lineFault = s.line.lineFault ∧
    (placeShuntDone s).line.ownCompleted = s.line.ownCompleted ∧ (placeShuntDone s).line.alarmQ = s.line.alarmQ ∧
    (placeShuntDone s).line.replyQ = s.line.replyQ ∧ (placeShuntDone s).line.dataQ = s.line.dataQ ∧
    (placeShuntDone s).line.heldReplies = s.line.heldReplies ∧ (placeShuntDone s).line.events = s.line.events ∧
    (placeShuntDone s).line.afterTake = s.line.afterTake := by
  unfold placeShuntDone; split <;> (try split) <;> (try split) <;> simp [Function.comp_def]

@[simp] theorem placeShuntClaim_frame (s : State) :
    (placeShuntClaim s).pending = s.pending ∧ (placeShuntClaim s).age = s.age ∧
    (placeShuntClaim s).loader = s.loader ∧ (placeShuntClaim s).cfg = s.cfg ∧ (placeShuntClaim s).pins = s.pins ∧
    (placeShuntClaim s).peers = s.peers ∧ (placeShuntClaim s).seq = s.seq ∧ (placeShuntClaim s).servo = s.servo ∧
    (placeShuntClaim s).act = s.act ∧ (placeShuntClaim s).crack = s.crack ∧ (placeShuntClaim s).alarm = s.alarm ∧
    (placeShuntClaim s).recs = s.recs ∧ (placeShuntClaim s).cmd = s.cmd ∧
    (placeShuntClaim s).line.bitRate = s.line.bitRate ∧ (placeShuntClaim s).line.statusPeriod = s.line.statusPeriod ∧
    (placeShuntClaim s).line.loadGroup = s.line.loadGroup ∧
    (placeShuntClaim s).line.statusTimer = s.line.statusTimer ∧
    (placeShuntClaim s).line.chargeSlot = s.line.chargeSlot ∧
    (placeShuntClaim s).line.statusSlot = s.line.statusSlot ∧ (placeShuntClaim s).line.tx = s.line.tx ∧
    (placeShuntClaim s).line.faultCount = s.line.faultCount ∧ (placeShuntClaim s).line.lineFault = s.line.lineFault ∧
    (placeShuntClaim s).line.ownCompleted = s.line.ownCompleted ∧ (placeShuntClaim s).line.alarmQ = s.line.alarmQ ∧
    (placeShuntClaim s).line.shuntDoneBehind = s.line.shuntDoneBehind ∧
    (placeShuntClaim s).line.replyQ = s.line.replyQ ∧ (placeShuntClaim s).line.dataQ = s.line.dataQ ∧
    (placeShuntClaim s).line.heldReplies = s.line.heldReplies ∧ (placeShuntClaim s).line.events = s.line.events ∧
    (placeShuntClaim s).line.afterTake = s.line.afterTake ∧ (placeShuntClaim s).scan.timer = s.scan.timer ∧
    (placeShuntClaim s).scan.runLength = s.scan.runLength ∧ (placeShuntClaim s).scan.runTaken = s.scan.runTaken ∧
    (placeShuntClaim s).scan.settleTimer = s.scan.settleTimer ∧ (placeShuntClaim s).scan.settled = s.scan.settled ∧
    (placeShuntClaim s).scan.zero = s.scan.zero ∧ (placeShuntClaim s).scan.shunt = s.scan.shunt ∧
    (placeShuntClaim s).scan.shuntScans = s.scan.shuntScans ∧
    (placeShuntClaim s).scan.shuntActive = s.scan.shuntActive ∧ (placeShuntClaim s).scan.holder = s.scan.holder ∧
    (placeShuntClaim s).scan.channels = s.scan.channels := by
  unfold placeShuntClaim; split <;> simp

/-! ### Ends of queued commands -/

@[simp] theorem endCommand_frame (result : ReplyResult) (reason : Reason) (s : State) :
    (endCommand result reason s).pending = s.pending ∧ (endCommand result reason s).age = s.age ∧
    (endCommand result reason s).loader = s.loader ∧ (endCommand result reason s).cfg = s.cfg ∧
    (endCommand result reason s).pins = s.pins ∧ (endCommand result reason s).peers = s.peers ∧
    (endCommand result reason s).seq = s.seq ∧ (endCommand result reason s).servo = s.servo ∧
    (endCommand result reason s).act = s.act ∧ (endCommand result reason s).scan = s.scan ∧
    (endCommand result reason s).crack = s.crack ∧ (endCommand result reason s).alarm = s.alarm ∧
    (endCommand result reason s).recs = s.recs ∧ (endCommand result reason s).line.bitRate = s.line.bitRate ∧
    (endCommand result reason s).line.statusPeriod = s.line.statusPeriod ∧
    (endCommand result reason s).line.loadGroup = s.line.loadGroup ∧
    (endCommand result reason s).line.statusTimer = s.line.statusTimer ∧
    (endCommand result reason s).line.chargeSlot = s.line.chargeSlot ∧
    (endCommand result reason s).line.statusSlot = s.line.statusSlot ∧
    (endCommand result reason s).line.tx = s.line.tx ∧
    (endCommand result reason s).line.faultCount = s.line.faultCount ∧
    (endCommand result reason s).line.lineFault = s.line.lineFault ∧
    (endCommand result reason s).line.ownCompleted = s.line.ownCompleted ∧
    (endCommand result reason s).line.alarmQ = s.line.alarmQ ∧
    (endCommand result reason s).line.shuntSlot = s.line.shuntSlot ∧
    (endCommand result reason s).line.shuntDoneBehind = s.line.shuntDoneBehind ∧
    (endCommand result reason s).line.dataQ = s.line.dataQ ∧ (endCommand result reason s).cmd.queue = s.cmd.queue ∧
    (endCommand result reason s).cmd.timeTag = s.cmd.timeTag := by
  unfold endCommand; split <;> simp

@[simp] theorem endActuatorCommand_frame (result : ReplyResult) (reason : Reason) (s : State) :
    (endActuatorCommand result reason s).pending = s.pending ∧ (endActuatorCommand result reason s).age = s.age ∧
    (endActuatorCommand result reason s).loader = s.loader ∧ (endActuatorCommand result reason s).cfg = s.cfg ∧
    (endActuatorCommand result reason s).pins = s.pins ∧ (endActuatorCommand result reason s).peers = s.peers ∧
    (endActuatorCommand result reason s).seq = s.seq ∧ (endActuatorCommand result reason s).servo = s.servo ∧
    (endActuatorCommand result reason s).act = s.act ∧ (endActuatorCommand result reason s).scan = s.scan ∧
    (endActuatorCommand result reason s).crack = s.crack ∧ (endActuatorCommand result reason s).alarm = s.alarm ∧
    (endActuatorCommand result reason s).recs = s.recs ∧
    (endActuatorCommand result reason s).line.bitRate = s.line.bitRate ∧
    (endActuatorCommand result reason s).line.statusPeriod = s.line.statusPeriod ∧
    (endActuatorCommand result reason s).line.loadGroup = s.line.loadGroup ∧
    (endActuatorCommand result reason s).line.statusTimer = s.line.statusTimer ∧
    (endActuatorCommand result reason s).line.chargeSlot = s.line.chargeSlot ∧
    (endActuatorCommand result reason s).line.statusSlot = s.line.statusSlot ∧
    (endActuatorCommand result reason s).line.tx = s.line.tx ∧
    (endActuatorCommand result reason s).line.faultCount = s.line.faultCount ∧
    (endActuatorCommand result reason s).line.lineFault = s.line.lineFault ∧
    (endActuatorCommand result reason s).line.ownCompleted = s.line.ownCompleted ∧
    (endActuatorCommand result reason s).line.alarmQ = s.line.alarmQ ∧
    (endActuatorCommand result reason s).line.shuntSlot = s.line.shuntSlot ∧
    (endActuatorCommand result reason s).line.shuntDoneBehind = s.line.shuntDoneBehind ∧
    (endActuatorCommand result reason s).line.dataQ = s.line.dataQ ∧
    (endActuatorCommand result reason s).cmd.queue = s.cmd.queue ∧
    (endActuatorCommand result reason s).cmd.timeTag = s.cmd.timeTag := by
  unfold endActuatorCommand; split <;> (try split) <;> simp

@[simp] theorem endCommandOf_frame (kind : QueuedKind) (result : ReplyResult) (reason : Reason) (s : State) :
    (endCommandOf kind result reason s).pending = s.pending ∧ (endCommandOf kind result reason s).age = s.age ∧
    (endCommandOf kind result reason s).loader = s.loader ∧ (endCommandOf kind result reason s).cfg = s.cfg ∧
    (endCommandOf kind result reason s).pins = s.pins ∧ (endCommandOf kind result reason s).peers = s.peers ∧
    (endCommandOf kind result reason s).seq = s.seq ∧ (endCommandOf kind result reason s).servo = s.servo ∧
    (endCommandOf kind result reason s).act = s.act ∧ (endCommandOf kind result reason s).scan = s.scan ∧
    (endCommandOf kind result reason s).crack = s.crack ∧ (endCommandOf kind result reason s).alarm = s.alarm ∧
    (endCommandOf kind result reason s).recs = s.recs ∧
    (endCommandOf kind result reason s).line.bitRate = s.line.bitRate ∧
    (endCommandOf kind result reason s).line.statusPeriod = s.line.statusPeriod ∧
    (endCommandOf kind result reason s).line.loadGroup = s.line.loadGroup ∧
    (endCommandOf kind result reason s).line.statusTimer = s.line.statusTimer ∧
    (endCommandOf kind result reason s).line.chargeSlot = s.line.chargeSlot ∧
    (endCommandOf kind result reason s).line.statusSlot = s.line.statusSlot ∧
    (endCommandOf kind result reason s).line.tx = s.line.tx ∧
    (endCommandOf kind result reason s).line.faultCount = s.line.faultCount ∧
    (endCommandOf kind result reason s).line.lineFault = s.line.lineFault ∧
    (endCommandOf kind result reason s).line.ownCompleted = s.line.ownCompleted ∧
    (endCommandOf kind result reason s).line.alarmQ = s.line.alarmQ ∧
    (endCommandOf kind result reason s).line.shuntSlot = s.line.shuntSlot ∧
    (endCommandOf kind result reason s).line.shuntDoneBehind = s.line.shuntDoneBehind ∧
    (endCommandOf kind result reason s).line.dataQ = s.line.dataQ ∧
    (endCommandOf kind result reason s).cmd.queue = s.cmd.queue ∧
    (endCommandOf kind result reason s).cmd.timeTag = s.cmd.timeTag := by
  unfold endCommandOf; split <;> (try split) <;> simp

/-! ### Record memory -/

@[simp] theorem placeParts_frame (s : State) :
    (placeParts s).pending = s.pending ∧ (placeParts s).age = s.age ∧ (placeParts s).loader = s.loader ∧
    (placeParts s).cfg = s.cfg ∧ (placeParts s).pins = s.pins ∧ (placeParts s).peers = s.peers ∧
    (placeParts s).seq = s.seq ∧ (placeParts s).servo = s.servo ∧ (placeParts s).act = s.act ∧
    (placeParts s).scan = s.scan ∧ (placeParts s).crack = s.crack ∧ (placeParts s).alarm = s.alarm ∧
    (placeParts s).cmd = s.cmd ∧ (placeParts s).line.bitRate = s.line.bitRate ∧
    (placeParts s).line.statusPeriod = s.line.statusPeriod ∧ (placeParts s).line.loadGroup = s.line.loadGroup ∧
    (placeParts s).line.statusTimer = s.line.statusTimer ∧ (placeParts s).line.chargeSlot = s.line.chargeSlot ∧
    (placeParts s).line.statusSlot = s.line.statusSlot ∧ (placeParts s).line.tx = s.line.tx ∧
    (placeParts s).line.faultCount = s.line.faultCount ∧ (placeParts s).line.lineFault = s.line.lineFault ∧
    (placeParts s).line.ownCompleted = s.line.ownCompleted ∧ (placeParts s).line.alarmQ = s.line.alarmQ ∧
    (placeParts s).line.shuntSlot = s.line.shuntSlot ∧ (placeParts s).line.shuntDoneBehind = s.line.shuntDoneBehind ∧
    (placeParts s).recs.capture = s.recs.capture ∧ (placeParts s).recs.scansLeft = s.recs.scansLeft ∧
    (placeParts s).recs.captureKind = s.recs.captureKind ∧ (placeParts s).recs.gap = s.recs.gap ∧
    (placeParts s).recs.serial = s.recs.serial ∧ (placeParts s).recs.pressure = s.recs.pressure ∧
    (placeParts s).recs.freePages = s.recs.freePages ∧ (placeParts s).line.replyQ = s.line.replyQ ∧
    (placeParts s).line.heldReplies = s.line.heldReplies ∧ (placeParts s).line.events = s.line.events ∧
    (placeParts s).line.afterTake = s.line.afterTake := by
  unfold placeParts; split <;> simp

@[simp] theorem startSending_frame (block console : Nat) (s : State) :
    (startSending block console s).pending = s.pending ∧ (startSending block console s).age = s.age ∧
    (startSending block console s).loader = s.loader ∧ (startSending block console s).cfg = s.cfg ∧
    (startSending block console s).pins = s.pins ∧ (startSending block console s).peers = s.peers ∧
    (startSending block console s).seq = s.seq ∧ (startSending block console s).servo = s.servo ∧
    (startSending block console s).act = s.act ∧ (startSending block console s).scan = s.scan ∧
    (startSending block console s).crack = s.crack ∧ (startSending block console s).alarm = s.alarm ∧
    (startSending block console s).cmd = s.cmd ∧ (startSending block console s).line.bitRate = s.line.bitRate ∧
    (startSending block console s).line.statusPeriod = s.line.statusPeriod ∧
    (startSending block console s).line.loadGroup = s.line.loadGroup ∧
    (startSending block console s).line.statusTimer = s.line.statusTimer ∧
    (startSending block console s).line.chargeSlot = s.line.chargeSlot ∧
    (startSending block console s).line.statusSlot = s.line.statusSlot ∧
    (startSending block console s).line.tx = s.line.tx ∧
    (startSending block console s).line.faultCount = s.line.faultCount ∧
    (startSending block console s).line.lineFault = s.line.lineFault ∧
    (startSending block console s).line.ownCompleted = s.line.ownCompleted ∧
    (startSending block console s).line.alarmQ = s.line.alarmQ ∧
    (startSending block console s).line.shuntSlot = s.line.shuntSlot ∧
    (startSending block console s).line.shuntDoneBehind = s.line.shuntDoneBehind ∧
    (startSending block console s).recs.capture = s.recs.capture ∧
    (startSending block console s).recs.scansLeft = s.recs.scansLeft ∧
    (startSending block console s).recs.captureKind = s.recs.captureKind ∧
    (startSending block console s).recs.gap = s.recs.gap ∧
    (startSending block console s).recs.serial = s.recs.serial ∧
    (startSending block console s).recs.pressure = s.recs.pressure ∧
    (startSending block console s).recs.freePages = s.recs.freePages ∧
    (startSending block console s).line.replyQ = s.line.replyQ ∧
    (startSending block console s).line.heldReplies = s.line.heldReplies ∧
    (startSending block console s).line.events = s.line.events ∧
    (startSending block console s).line.afterTake = s.line.afterTake := by
  simp [startSending]

@[simp] theorem serveFetch_frame (s : State) :
    (serveFetch s).pending = s.pending ∧ (serveFetch s).age = s.age ∧ (serveFetch s).loader = s.loader ∧
    (serveFetch s).cfg = s.cfg ∧ (serveFetch s).pins = s.pins ∧ (serveFetch s).peers = s.peers ∧
    (serveFetch s).seq = s.seq ∧ (serveFetch s).servo = s.servo ∧ (serveFetch s).act = s.act ∧
    (serveFetch s).scan = s.scan ∧ (serveFetch s).crack = s.crack ∧ (serveFetch s).alarm = s.alarm ∧
    (serveFetch s).cmd = s.cmd ∧ (serveFetch s).line.bitRate = s.line.bitRate ∧
    (serveFetch s).line.statusPeriod = s.line.statusPeriod ∧ (serveFetch s).line.loadGroup = s.line.loadGroup ∧
    (serveFetch s).line.statusTimer = s.line.statusTimer ∧ (serveFetch s).line.chargeSlot = s.line.chargeSlot ∧
    (serveFetch s).line.statusSlot = s.line.statusSlot ∧ (serveFetch s).line.tx = s.line.tx ∧
    (serveFetch s).line.faultCount = s.line.faultCount ∧ (serveFetch s).line.lineFault = s.line.lineFault ∧
    (serveFetch s).line.ownCompleted = s.line.ownCompleted ∧ (serveFetch s).line.alarmQ = s.line.alarmQ ∧
    (serveFetch s).line.shuntSlot = s.line.shuntSlot ∧ (serveFetch s).line.shuntDoneBehind = s.line.shuntDoneBehind ∧
    (serveFetch s).recs.capture = s.recs.capture ∧ (serveFetch s).recs.scansLeft = s.recs.scansLeft ∧
    (serveFetch s).recs.captureKind = s.recs.captureKind ∧ (serveFetch s).recs.gap = s.recs.gap ∧
    (serveFetch s).recs.serial = s.recs.serial ∧ (serveFetch s).recs.pressure = s.recs.pressure ∧
    (serveFetch s).recs.freePages = s.recs.freePages ∧ (serveFetch s).line.events = s.line.events ∧
    (serveFetch s).line.afterTake = s.line.afterTake := by
  unfold serveFetch; split <;> simp

@[simp] theorem sealBlock_frame (cause : SealCause) (kind : Option AlarmKind) (s : State) :
    (sealBlock cause kind s).pending = s.pending ∧ (sealBlock cause kind s).age = s.age ∧
    (sealBlock cause kind s).loader = s.loader ∧ (sealBlock cause kind s).cfg = s.cfg ∧
    (sealBlock cause kind s).pins = s.pins ∧ (sealBlock cause kind s).peers = s.peers ∧
    (sealBlock cause kind s).seq = s.seq ∧ (sealBlock cause kind s).servo = s.servo ∧
    (sealBlock cause kind s).act = s.act ∧ (sealBlock cause kind s).scan = s.scan ∧
    (sealBlock cause kind s).crack = s.crack ∧ (sealBlock cause kind s).alarm = s.alarm ∧
    (sealBlock cause kind s).cmd = s.cmd ∧ (sealBlock cause kind s).line.bitRate = s.line.bitRate ∧
    (sealBlock cause kind s).line.statusPeriod = s.line.statusPeriod ∧
    (sealBlock cause kind s).line.loadGroup = s.line.loadGroup ∧
    (sealBlock cause kind s).line.statusTimer = s.line.statusTimer ∧
    (sealBlock cause kind s).line.chargeSlot = s.line.chargeSlot ∧
    (sealBlock cause kind s).line.statusSlot = s.line.statusSlot ∧ (sealBlock cause kind s).line.tx = s.line.tx ∧
    (sealBlock cause kind s).line.faultCount = s.line.faultCount ∧
    (sealBlock cause kind s).line.lineFault = s.line.lineFault ∧
    (sealBlock cause kind s).line.ownCompleted = s.line.ownCompleted ∧
    (sealBlock cause kind s).line.alarmQ = s.line.alarmQ ∧
    (sealBlock cause kind s).line.shuntSlot = s.line.shuntSlot ∧
    (sealBlock cause kind s).line.shuntDoneBehind = s.line.shuntDoneBehind ∧
    (sealBlock cause kind s).recs.capture = s.recs.capture ∧
    (sealBlock cause kind s).recs.scansLeft = s.recs.scansLeft ∧
    (sealBlock cause kind s).recs.captureKind = s.recs.captureKind ∧ (sealBlock cause kind s).recs.gap = s.recs.gap ∧
    (sealBlock cause kind s).recs.serial = s.recs.serial ∧ (sealBlock cause kind s).recs.pressure = s.recs.pressure ∧
    (sealBlock cause kind s).recs.freePages = s.recs.freePages := by
  unfold sealBlock; split <;> simp

@[simp] theorem judgePressure_frame (s : State) :
    (judgePressure s).pending = s.pending ∧ (judgePressure s).age = s.age ∧ (judgePressure s).loader = s.loader ∧
    (judgePressure s).cfg = s.cfg ∧ (judgePressure s).pins = s.pins ∧ (judgePressure s).line = s.line ∧
    (judgePressure s).peers = s.peers ∧ (judgePressure s).seq = s.seq ∧ (judgePressure s).servo = s.servo ∧
    (judgePressure s).act = s.act ∧ (judgePressure s).scan = s.scan ∧ (judgePressure s).crack = s.crack ∧
    (judgePressure s).alarm = s.alarm ∧ (judgePressure s).cmd = s.cmd ∧ (judgePressure s).recs.pool = s.recs.pool ∧
    (judgePressure s).recs.freePages = s.recs.freePages ∧ (judgePressure s).recs.table = s.recs.table ∧
    (judgePressure s).recs.sealedQ = s.recs.sealedQ ∧ (judgePressure s).recs.fetchQ = s.recs.fetchQ ∧
    (judgePressure s).recs.sending = s.recs.sending ∧ (judgePressure s).recs.capture = s.recs.capture ∧
    (judgePressure s).recs.scansLeft = s.recs.scansLeft ∧ (judgePressure s).recs.captureKind = s.recs.captureKind ∧
    (judgePressure s).recs.gap = s.recs.gap ∧ (judgePressure s).recs.serial = s.recs.serial := by
  simp [judgePressure]

@[simp] theorem cutAndCapture_frame (kind : AlarmKind) (s : State) :
    (cutAndCapture kind s).pending = s.pending ∧ (cutAndCapture kind s).age = s.age ∧
    (cutAndCapture kind s).loader = s.loader ∧ (cutAndCapture kind s).cfg = s.cfg ∧
    (cutAndCapture kind s).pins = s.pins ∧ (cutAndCapture kind s).peers = s.peers ∧
    (cutAndCapture kind s).seq = s.seq ∧ (cutAndCapture kind s).servo = s.servo ∧
    (cutAndCapture kind s).act = s.act ∧ (cutAndCapture kind s).scan = s.scan ∧
    (cutAndCapture kind s).crack = s.crack ∧ (cutAndCapture kind s).alarm = s.alarm ∧
    (cutAndCapture kind s).cmd = s.cmd ∧ (cutAndCapture kind s).line.bitRate = s.line.bitRate ∧
    (cutAndCapture kind s).line.statusPeriod = s.line.statusPeriod ∧
    (cutAndCapture kind s).line.loadGroup = s.line.loadGroup ∧
    (cutAndCapture kind s).line.statusTimer = s.line.statusTimer ∧
    (cutAndCapture kind s).line.chargeSlot = s.line.chargeSlot ∧
    (cutAndCapture kind s).line.statusSlot = s.line.statusSlot ∧ (cutAndCapture kind s).line.tx = s.line.tx ∧
    (cutAndCapture kind s).line.faultCount = s.line.faultCount ∧
    (cutAndCapture kind s).line.lineFault = s.line.lineFault ∧
    (cutAndCapture kind s).line.ownCompleted = s.line.ownCompleted ∧
    (cutAndCapture kind s).line.alarmQ = s.line.alarmQ ∧ (cutAndCapture kind s).line.shuntSlot = s.line.shuntSlot ∧
    (cutAndCapture kind s).line.shuntDoneBehind = s.line.shuntDoneBehind ∧
    (cutAndCapture kind s).recs.gap = s.recs.gap ∧ (cutAndCapture kind s).recs.serial = s.recs.serial ∧
    (cutAndCapture kind s).recs.pressure = s.recs.pressure ∧
    (cutAndCapture kind s).recs.freePages = s.recs.freePages := by
  unfold cutAndCapture; simp only []; split <;> simp

/-! ### Peer table -/

@[simp] theorem updatePeerFlags_frame (s : State) :
    (updatePeerFlags s).pending = s.pending ∧ (updatePeerFlags s).age = s.age ∧
    (updatePeerFlags s).loader = s.loader ∧ (updatePeerFlags s).cfg = s.cfg ∧ (updatePeerFlags s).pins = s.pins ∧
    (updatePeerFlags s).line = s.line ∧ (updatePeerFlags s).seq = s.seq ∧ (updatePeerFlags s).servo = s.servo ∧
    (updatePeerFlags s).act = s.act ∧ (updatePeerFlags s).scan = s.scan ∧ (updatePeerFlags s).crack = s.crack ∧
    (updatePeerFlags s).alarm = s.alarm ∧ (updatePeerFlags s).recs = s.recs ∧ (updatePeerFlags s).cmd = s.cmd ∧
    (updatePeerFlags s).peers.records = s.peers.records := by
  simp [updatePeerFlags]

@[simp] theorem updateDigestFlag_frame (s : State) :
    (updateDigestFlag s).pending = s.pending ∧ (updateDigestFlag s).age = s.age ∧
    (updateDigestFlag s).loader = s.loader ∧ (updateDigestFlag s).cfg = s.cfg ∧ (updateDigestFlag s).pins = s.pins ∧
    (updateDigestFlag s).line = s.line ∧ (updateDigestFlag s).seq = s.seq ∧ (updateDigestFlag s).servo = s.servo ∧
    (updateDigestFlag s).act = s.act ∧ (updateDigestFlag s).scan = s.scan ∧ (updateDigestFlag s).crack = s.crack ∧
    (updateDigestFlag s).alarm = s.alarm ∧ (updateDigestFlag s).recs = s.recs ∧ (updateDigestFlag s).cmd = s.cmd ∧
    (updateDigestFlag s).peers.records = s.peers.records ∧
    (updateDigestFlag s).peers.memberAbsent = s.peers.memberAbsent := by
  simp [updateDigestFlag]

/-! ### Strain scanner -/

@[simp] theorem takeReferences_frame (s : State) :
    (takeReferences s).pending = s.pending ∧ (takeReferences s).age = s.age ∧ (takeReferences s).loader = s.loader ∧
    (takeReferences s).cfg = s.cfg ∧ (takeReferences s).pins = s.pins ∧ (takeReferences s).line = s.line ∧
    (takeReferences s).peers = s.peers ∧ (takeReferences s).seq = s.seq ∧ (takeReferences s).servo = s.servo ∧
    (takeReferences s).act = s.act ∧ (takeReferences s).crack = s.crack ∧ (takeReferences s).alarm = s.alarm ∧
    (takeReferences s).recs = s.recs ∧ (takeReferences s).cmd = s.cmd ∧
    (takeReferences s).scan.timer = s.scan.timer ∧ (takeReferences s).scan.runLength = s.scan.runLength ∧
    (takeReferences s).scan.runTaken = s.scan.runTaken ∧ (takeReferences s).scan.zero = s.scan.zero ∧
    (takeReferences s).scan.shunt = s.scan.shunt ∧ (takeReferences s).scan.shuntScans = s.scan.shuntScans ∧
    (takeReferences s).scan.claimHeld = s.scan.claimHeld ∧ (takeReferences s).scan.shuntActive = s.scan.shuntActive ∧
    (takeReferences s).scan.holder = s.scan.holder ∧ (takeReferences s).scan.settleTimer = s.scan.settleTimer ∧
    (takeReferences s).scan.settled = s.scan.settled := by
  simp [takeReferences]

@[simp] theorem startSettleWindow_frame (s : State) :
    (startSettleWindow s).pending = s.pending ∧ (startSettleWindow s).age = s.age ∧
    (startSettleWindow s).loader = s.loader ∧ (startSettleWindow s).cfg = s.cfg ∧
    (startSettleWindow s).pins = s.pins ∧ (startSettleWindow s).line = s.line ∧
    (startSettleWindow s).peers = s.peers ∧ (startSettleWindow s).seq = s.seq ∧
    (startSettleWindow s).servo = s.servo ∧ (startSettleWindow s).act = s.act ∧
    (startSettleWindow s).crack = s.crack ∧ (startSettleWindow s).alarm = s.alarm ∧
    (startSettleWindow s).recs = s.recs ∧ (startSettleWindow s).cmd = s.cmd ∧
    (startSettleWindow s).scan.timer = s.scan.timer ∧ (startSettleWindow s).scan.runLength = s.scan.runLength ∧
    (startSettleWindow s).scan.runTaken = s.scan.runTaken ∧ (startSettleWindow s).scan.zero = s.scan.zero ∧
    (startSettleWindow s).scan.shunt = s.scan.shunt ∧ (startSettleWindow s).scan.shuntScans = s.scan.shuntScans ∧
    (startSettleWindow s).scan.claimHeld = s.scan.claimHeld ∧
    (startSettleWindow s).scan.shuntActive = s.scan.shuntActive ∧ (startSettleWindow s).scan.holder = s.scan.holder ∧
    (startSettleWindow s).scan.settled = s.scan.settled ∧ (startSettleWindow s).scan.channels = s.scan.channels := by
  simp [startSettleWindow]

@[simp] theorem dwellEntered_frame (s : State) :
    (dwellEntered s).pending = s.pending ∧ (dwellEntered s).age = s.age ∧ (dwellEntered s).loader = s.loader ∧
    (dwellEntered s).cfg = s.cfg ∧ (dwellEntered s).pins = s.pins ∧ (dwellEntered s).line = s.line ∧
    (dwellEntered s).peers = s.peers ∧ (dwellEntered s).seq = s.seq ∧ (dwellEntered s).servo = s.servo ∧
    (dwellEntered s).act = s.act ∧ (dwellEntered s).crack = s.crack ∧ (dwellEntered s).alarm = s.alarm ∧
    (dwellEntered s).recs = s.recs ∧ (dwellEntered s).cmd = s.cmd ∧ (dwellEntered s).scan.timer = s.scan.timer ∧
    (dwellEntered s).scan.runLength = s.scan.runLength ∧ (dwellEntered s).scan.runTaken = s.scan.runTaken ∧
    (dwellEntered s).scan.zero = s.scan.zero ∧ (dwellEntered s).scan.shunt = s.scan.shunt ∧
    (dwellEntered s).scan.shuntScans = s.scan.shuntScans ∧ (dwellEntered s).scan.claimHeld = s.scan.claimHeld ∧
    (dwellEntered s).scan.shuntActive = s.scan.shuntActive ∧ (dwellEntered s).scan.holder = s.scan.holder ∧
    (dwellEntered s).scan.settled = false := by
  simp [dwellEntered]

@[simp] theorem dwellLeft_frame (s : State) :
    (dwellLeft s).pending = s.pending ∧ (dwellLeft s).age = s.age ∧ (dwellLeft s).loader = s.loader ∧
    (dwellLeft s).cfg = s.cfg ∧ (dwellLeft s).pins = s.pins ∧ (dwellLeft s).line = s.line ∧
    (dwellLeft s).peers = s.peers ∧ (dwellLeft s).seq = s.seq ∧ (dwellLeft s).servo = s.servo ∧
    (dwellLeft s).act = s.act ∧ (dwellLeft s).crack = s.crack ∧ (dwellLeft s).alarm = s.alarm ∧
    (dwellLeft s).recs = s.recs ∧ (dwellLeft s).cmd = s.cmd ∧ (dwellLeft s).scan.timer = s.scan.timer ∧
    (dwellLeft s).scan.runLength = s.scan.runLength ∧ (dwellLeft s).scan.runTaken = s.scan.runTaken ∧
    (dwellLeft s).scan.zero = s.scan.zero ∧ (dwellLeft s).scan.shunt = s.scan.shunt ∧
    (dwellLeft s).scan.shuntScans = s.scan.shuntScans ∧ (dwellLeft s).scan.claimHeld = s.scan.claimHeld ∧
    (dwellLeft s).scan.shuntActive = s.scan.shuntActive ∧ (dwellLeft s).scan.holder = s.scan.holder ∧
    (dwellLeft s).scan.settled = false ∧ (dwellLeft s).scan.settleTimer = none := by
  simp [dwellLeft]

@[simp] theorem leaveDwellIf_frame (was : Bool) (s : State) :
    (leaveDwellIf was s).pending = s.pending ∧ (leaveDwellIf was s).age = s.age ∧
    (leaveDwellIf was s).loader = s.loader ∧ (leaveDwellIf was s).cfg = s.cfg ∧ (leaveDwellIf was s).pins = s.pins ∧
    (leaveDwellIf was s).line = s.line ∧ (leaveDwellIf was s).peers = s.peers ∧ (leaveDwellIf was s).seq = s.seq ∧
    (leaveDwellIf was s).servo = s.servo ∧ (leaveDwellIf was s).act = s.act ∧ (leaveDwellIf was s).crack = s.crack ∧
    (leaveDwellIf was s).alarm = s.alarm ∧ (leaveDwellIf was s).recs = s.recs ∧ (leaveDwellIf was s).cmd = s.cmd ∧
    (leaveDwellIf was s).scan.timer = s.scan.timer ∧ (leaveDwellIf was s).scan.runLength = s.scan.runLength ∧
    (leaveDwellIf was s).scan.runTaken = s.scan.runTaken ∧ (leaveDwellIf was s).scan.zero = s.scan.zero ∧
    (leaveDwellIf was s).scan.shunt = s.scan.shunt ∧ (leaveDwellIf was s).scan.shuntScans = s.scan.shuntScans ∧
    (leaveDwellIf was s).scan.claimHeld = s.scan.claimHeld ∧
    (leaveDwellIf was s).scan.shuntActive = s.scan.shuntActive ∧
    (leaveDwellIf was s).scan.holder = s.scan.holder := by
  unfold leaveDwellIf; split <;> simp

@[simp] theorem releaseShunt_frame (s : State) :
    (releaseShunt s).pending = s.pending ∧ (releaseShunt s).age = s.age ∧ (releaseShunt s).loader = s.loader ∧
    (releaseShunt s).cfg = s.cfg ∧ (releaseShunt s).pins = s.pins ∧ (releaseShunt s).peers = s.peers ∧
    (releaseShunt s).seq = s.seq ∧ (releaseShunt s).servo = s.servo ∧ (releaseShunt s).act = s.act ∧
    (releaseShunt s).crack = s.crack ∧ (releaseShunt s).alarm = s.alarm ∧ (releaseShunt s).recs = s.recs ∧
    (releaseShunt s).cmd = s.cmd ∧ (releaseShunt s).line.bitRate = s.line.bitRate ∧
    (releaseShunt s).line.statusPeriod = s.line.statusPeriod ∧ (releaseShunt s).line.loadGroup = s.line.loadGroup ∧
    (releaseShunt s).line.statusTimer = s.line.statusTimer ∧ (releaseShunt s).line.chargeSlot = s.line.chargeSlot ∧
    (releaseShunt s).line.statusSlot = s.line.statusSlot ∧ txClass (releaseShunt s) = txClass s ∧
    (releaseShunt s).line.faultCount = s.line.faultCount ∧ (releaseShunt s).line.lineFault = s.line.lineFault ∧
    (releaseShunt s).line.ownCompleted = s.line.ownCompleted ∧ (releaseShunt s).line.alarmQ = s.line.alarmQ ∧
    (releaseShunt s).line.replyQ = s.line.replyQ ∧ (releaseShunt s).line.dataQ = s.line.dataQ ∧
    (releaseShunt s).line.heldReplies = s.line.heldReplies ∧ (releaseShunt s).line.events = s.line.events ∧
    (releaseShunt s).line.afterTake = s.line.afterTake ∧ (releaseShunt s).scan.timer = s.scan.timer ∧
    (releaseShunt s).scan.runLength = s.scan.runLength ∧ (releaseShunt s).scan.runTaken = s.scan.runTaken ∧
    (releaseShunt s).scan.settleTimer = s.scan.settleTimer ∧ (releaseShunt s).scan.settled = s.scan.settled ∧
    (releaseShunt s).scan.zero = s.scan.zero ∧ (releaseShunt s).scan.shunt = s.scan.shunt ∧
    (releaseShunt s).scan.shuntScans = s.scan.shuntScans ∧ (releaseShunt s).scan.shuntActive = s.scan.shuntActive ∧
    (releaseShunt s).scan.holder = s.scan.holder ∧ (releaseShunt s).scan.channels = s.scan.channels := by
  unfold releaseShunt; split
  · simp
  · split
    · simp only []; split
      · split <;> simp
      · simp
    · simp

@[simp] theorem leaveShunt_frame (s : State) :
    (leaveShunt s).pending = s.pending ∧ (leaveShunt s).age = s.age ∧ (leaveShunt s).loader = s.loader ∧
    (leaveShunt s).cfg = s.cfg ∧ (leaveShunt s).peers = s.peers ∧ (leaveShunt s).seq = s.seq ∧
    (leaveShunt s).servo = s.servo ∧ (leaveShunt s).act = s.act ∧ (leaveShunt s).crack = s.crack ∧
    (leaveShunt s).alarm = s.alarm ∧ (leaveShunt s).recs = s.recs ∧ (leaveShunt s).cmd = s.cmd ∧
    (leaveShunt s).line.bitRate = s.line.bitRate ∧ (leaveShunt s).line.statusPeriod = s.line.statusPeriod ∧
    (leaveShunt s).line.loadGroup = s.line.loadGroup ∧ (leaveShunt s).line.statusTimer = s.line.statusTimer ∧
    (leaveShunt s).line.chargeSlot = s.line.chargeSlot ∧ (leaveShunt s).line.statusSlot = s.line.statusSlot ∧
    (leaveShunt s).line.tx = s.line.tx ∧ (leaveShunt s).line.faultCount = s.line.faultCount ∧
    (leaveShunt s).line.lineFault = s.line.lineFault ∧ (leaveShunt s).line.ownCompleted = s.line.ownCompleted ∧
    (leaveShunt s).line.alarmQ = s.line.alarmQ ∧ (leaveShunt s).line.shuntSlot = s.line.shuntSlot ∧
    (leaveShunt s).line.shuntDoneBehind = s.line.shuntDoneBehind ∧ (leaveShunt s).line.replyQ = s.line.replyQ ∧
    (leaveShunt s).line.dataQ = s.line.dataQ ∧ (leaveShunt s).line.heldReplies = s.line.heldReplies ∧
    (leaveShunt s).scan.timer = s.scan.timer ∧ (leaveShunt s).scan.runLength = s.scan.runLength ∧
    (leaveShunt s).scan.runTaken = s.scan.runTaken ∧ (leaveShunt s).scan.settleTimer = s.scan.settleTimer ∧
    (leaveShunt s).scan.settled = s.scan.settled ∧ (leaveShunt s).scan.zero = s.scan.zero ∧
    (leaveShunt s).scan.claimHeld = s.scan.claimHeld ∧ (leaveShunt s).scan.holder = s.scan.holder ∧
    (leaveShunt s).pins.shunts = 0 ∧ (leaveShunt s).scan.shunt = .none ∧ (leaveShunt s).scan.shuntActive = false ∧
    (leaveShunt s).pins.pressOk = s.pins.pressOk ∧ (leaveShunt s).pins.lockEngaged = s.pins.lockEngaged ∧
    (leaveShunt s).pins.estop = s.pins.estop ∧ (leaveShunt s).pins.loadCode = s.pins.loadCode ∧
    (leaveShunt s).pins.bridgeCodes = s.pins.bridgeCodes ∧ (leaveShunt s).pins.loopReadings = s.pins.loopReadings ∧
    (leaveShunt s).pins.iso = s.pins.iso ∧ (leaveShunt s).pins.dump = s.pins.dump ∧
    (leaveShunt s).pins.lockCmd = s.pins.lockCmd ∧ (leaveShunt s).pins.drive = s.pins.drive := by
  simp [leaveShunt]

@[simp] theorem abortShunt_frame (s : State) :
    (abortShunt s).pending = s.pending ∧ (abortShunt s).age = s.age ∧ (abortShunt s).loader = s.loader ∧
    (abortShunt s).cfg = s.cfg ∧ (abortShunt s).peers = s.peers ∧ (abortShunt s).seq = s.seq ∧
    (abortShunt s).servo = s.servo ∧ (abortShunt s).act = s.act ∧ (abortShunt s).crack = s.crack ∧
    (abortShunt s).alarm = s.alarm ∧ (abortShunt s).recs = s.recs ∧ (abortShunt s).line.bitRate = s.line.bitRate ∧
    (abortShunt s).line.statusPeriod = s.line.statusPeriod ∧ (abortShunt s).line.loadGroup = s.line.loadGroup ∧
    (abortShunt s).line.statusTimer = s.line.statusTimer ∧ (abortShunt s).line.chargeSlot = s.line.chargeSlot ∧
    (abortShunt s).line.statusSlot = s.line.statusSlot ∧ txClass (abortShunt s) = txClass s ∧
    (abortShunt s).line.faultCount = s.line.faultCount ∧ (abortShunt s).line.lineFault = s.line.lineFault ∧
    (abortShunt s).line.ownCompleted = s.line.ownCompleted ∧ (abortShunt s).line.alarmQ = s.line.alarmQ ∧
    (abortShunt s).line.dataQ = s.line.dataQ ∧ (abortShunt s).scan.timer = s.scan.timer ∧
    (abortShunt s).scan.runLength = s.scan.runLength ∧ (abortShunt s).scan.runTaken = s.scan.runTaken ∧
    (abortShunt s).scan.settleTimer = s.scan.settleTimer ∧ (abortShunt s).scan.settled = s.scan.settled ∧
    (abortShunt s).scan.zero = s.scan.zero ∧ (abortShunt s).scan.holder = s.scan.holder ∧
    (abortShunt s).pins.pressOk = s.pins.pressOk ∧ (abortShunt s).pins.lockEngaged = s.pins.lockEngaged ∧
    (abortShunt s).pins.estop = s.pins.estop ∧ (abortShunt s).pins.loadCode = s.pins.loadCode ∧
    (abortShunt s).pins.bridgeCodes = s.pins.bridgeCodes ∧ (abortShunt s).pins.loopReadings = s.pins.loopReadings ∧
    (abortShunt s).pins.iso = s.pins.iso ∧ (abortShunt s).pins.dump = s.pins.dump ∧
    (abortShunt s).pins.lockCmd = s.pins.lockCmd ∧ (abortShunt s).pins.drive = s.pins.drive ∧
    (abortShunt s).cmd.queue = s.cmd.queue ∧ (abortShunt s).cmd.timeTag = s.cmd.timeTag ∧
    (abortShunt s).pins.shunts = 0 ∧ (abortShunt s).scan.shunt = .none ∧ (abortShunt s).scan.shuntActive = false := by
  simp [abortShunt]

@[simp] theorem scannerOnLatch_frame (new : Latch) (s : State) :
    (scannerOnLatch new s).pending = s.pending ∧ (scannerOnLatch new s).age = s.age ∧
    (scannerOnLatch new s).loader = s.loader ∧ (scannerOnLatch new s).cfg = s.cfg ∧
    (scannerOnLatch new s).peers = s.peers ∧ (scannerOnLatch new s).seq = s.seq ∧
    (scannerOnLatch new s).servo = s.servo ∧ (scannerOnLatch new s).act = s.act ∧
    (scannerOnLatch new s).crack = s.crack ∧ (scannerOnLatch new s).alarm = s.alarm ∧
    (scannerOnLatch new s).recs = s.recs ∧ (scannerOnLatch new s).line.bitRate = s.line.bitRate ∧
    (scannerOnLatch new s).line.statusPeriod = s.line.statusPeriod ∧
    (scannerOnLatch new s).line.loadGroup = s.line.loadGroup ∧
    (scannerOnLatch new s).line.statusTimer = s.line.statusTimer ∧
    (scannerOnLatch new s).line.chargeSlot = s.line.chargeSlot ∧
    (scannerOnLatch new s).line.statusSlot = s.line.statusSlot ∧ txClass (scannerOnLatch new s) = txClass s ∧
    (scannerOnLatch new s).line.faultCount = s.line.faultCount ∧
    (scannerOnLatch new s).line.lineFault = s.line.lineFault ∧
    (scannerOnLatch new s).line.ownCompleted = s.line.ownCompleted ∧
    (scannerOnLatch new s).line.alarmQ = s.line.alarmQ ∧ (scannerOnLatch new s).line.dataQ = s.line.dataQ ∧
    (scannerOnLatch new s).scan.timer = s.scan.timer ∧ (scannerOnLatch new s).scan.runLength = s.scan.runLength ∧
    (scannerOnLatch new s).scan.runTaken = s.scan.runTaken ∧
    (scannerOnLatch new s).scan.settleTimer = s.scan.settleTimer ∧
    (scannerOnLatch new s).scan.settled = s.scan.settled ∧ (scannerOnLatch new s).scan.zero = s.scan.zero ∧
    (scannerOnLatch new s).scan.holder = s.scan.holder ∧ (scannerOnLatch new s).pins.pressOk = s.pins.pressOk ∧
    (scannerOnLatch new s).pins.lockEngaged = s.pins.lockEngaged ∧ (scannerOnLatch new s).pins.estop = s.pins.estop ∧
    (scannerOnLatch new s).pins.loadCode = s.pins.loadCode ∧
    (scannerOnLatch new s).pins.bridgeCodes = s.pins.bridgeCodes ∧
    (scannerOnLatch new s).pins.loopReadings = s.pins.loopReadings ∧ (scannerOnLatch new s).pins.iso = s.pins.iso ∧
    (scannerOnLatch new s).pins.dump = s.pins.dump ∧ (scannerOnLatch new s).pins.lockCmd = s.pins.lockCmd ∧
    (scannerOnLatch new s).pins.drive = s.pins.drive ∧ (scannerOnLatch new s).cmd.queue = s.cmd.queue ∧
    (scannerOnLatch new s).cmd.timeTag = s.cmd.timeTag := by
  unfold scannerOnLatch; split <;> simp

/-! ### Level sequencer -/

@[simp] theorem setSequencer_frame (q : Sequencer) (s : State) :
    (setSequencer q s).pending = s.pending ∧ (setSequencer q s).age = s.age ∧ (setSequencer q s).loader = s.loader ∧
    (setSequencer q s).cfg = s.cfg ∧ (setSequencer q s).pins = s.pins ∧ (setSequencer q s).peers = s.peers ∧
    (setSequencer q s).servo = s.servo ∧ (setSequencer q s).act = s.act ∧ (setSequencer q s).scan = s.scan ∧
    (setSequencer q s).crack = s.crack ∧ (setSequencer q s).alarm = s.alarm ∧ (setSequencer q s).cmd = s.cmd ∧
    (setSequencer q s).line.bitRate = s.line.bitRate ∧ (setSequencer q s).line.statusPeriod = s.line.statusPeriod ∧
    (setSequencer q s).line.loadGroup = s.line.loadGroup ∧ (setSequencer q s).line.statusTimer = s.line.statusTimer ∧
    (setSequencer q s).line.chargeSlot = s.line.chargeSlot ∧ (setSequencer q s).line.statusSlot = s.line.statusSlot ∧
    txClass (setSequencer q s) = txClass s ∧ (setSequencer q s).line.faultCount = s.line.faultCount ∧
    (setSequencer q s).line.lineFault = s.line.lineFault ∧
    (setSequencer q s).line.ownCompleted = s.line.ownCompleted ∧ (setSequencer q s).line.alarmQ = s.line.alarmQ ∧
    (setSequencer q s).line.shuntSlot = s.line.shuntSlot ∧
    (setSequencer q s).line.shuntDoneBehind = s.line.shuntDoneBehind ∧
    (setSequencer q s).recs.capture = s.recs.capture ∧ (setSequencer q s).recs.scansLeft = s.recs.scansLeft ∧
    (setSequencer q s).recs.captureKind = s.recs.captureKind ∧ (setSequencer q s).recs.gap = s.recs.gap ∧
    (setSequencer q s).recs.serial = s.recs.serial ∧ (setSequencer q s).recs.pressure = s.recs.pressure ∧
    (setSequencer q s).recs.freePages = s.recs.freePages ∧ (setSequencer q s).seq = q := by
  unfold setSequencer; split <;> simp

@[simp] theorem enterHeld_frame (s : State) :
    (enterHeld s).pending = s.pending ∧ (enterHeld s).age = s.age ∧ (enterHeld s).loader = s.loader ∧
    (enterHeld s).cfg = s.cfg ∧ (enterHeld s).pins = s.pins ∧ (enterHeld s).peers = s.peers ∧
    (enterHeld s).servo = s.servo ∧ (enterHeld s).act = s.act ∧ (enterHeld s).crack = s.crack ∧
    (enterHeld s).alarm = s.alarm ∧ (enterHeld s).cmd = s.cmd ∧ (enterHeld s).line.bitRate = s.line.bitRate ∧
    (enterHeld s).line.statusPeriod = s.line.statusPeriod ∧ (enterHeld s).line.loadGroup = s.line.loadGroup ∧
    (enterHeld s).line.statusTimer = s.line.statusTimer ∧ (enterHeld s).line.chargeSlot = s.line.chargeSlot ∧
    (enterHeld s).line.statusSlot = s.line.statusSlot ∧ txClass (enterHeld s) = txClass s ∧
    (enterHeld s).line.faultCount = s.line.faultCount ∧ (enterHeld s).line.lineFault = s.line.lineFault ∧
    (enterHeld s).line.ownCompleted = s.line.ownCompleted ∧ (enterHeld s).line.alarmQ = s.line.alarmQ ∧
    (enterHeld s).line.shuntSlot = s.line.shuntSlot ∧ (enterHeld s).line.shuntDoneBehind = s.line.shuntDoneBehind ∧
    (enterHeld s).recs.capture = s.recs.capture ∧ (enterHeld s).recs.scansLeft = s.recs.scansLeft ∧
    (enterHeld s).recs.captureKind = s.recs.captureKind ∧ (enterHeld s).recs.gap = s.recs.gap ∧
    (enterHeld s).recs.serial = s.recs.serial ∧ (enterHeld s).recs.pressure = s.recs.pressure ∧
    (enterHeld s).recs.freePages = s.recs.freePages ∧ (enterHeld s).seq.table = s.seq.table ∧
    (enterHeld s).seq.digest = s.seq.digest ∧ (enterHeld s).scan.timer = s.scan.timer ∧
    (enterHeld s).scan.runLength = s.scan.runLength ∧ (enterHeld s).scan.runTaken = s.scan.runTaken ∧
    (enterHeld s).scan.zero = s.scan.zero ∧ (enterHeld s).scan.shunt = s.scan.shunt ∧
    (enterHeld s).scan.shuntScans = s.scan.shuntScans ∧ (enterHeld s).scan.claimHeld = s.scan.claimHeld ∧
    (enterHeld s).scan.shuntActive = s.scan.shuntActive ∧ (enterHeld s).scan.holder = s.scan.holder ∧
    (enterHeld s).seq.state = .held ∧ (enterHeld s).seq.phase = s.seq.phase ∧ (enterHeld s).seq.step = s.seq.step ∧
    (enterHeld s).seq.segment = s.seq.segment ∧ (enterHeld s).seq.work = s.seq.work ∧
    (enterHeld s).seq.counters = s.seq.counters ∧ (enterHeld s).seq.choice = s.seq.choice ∧
    (enterHeld s).seq.extensionUsed = s.seq.extensionUsed ∧ (enterHeld s).seq.mismatch = none := by
  simp [enterHeld]

@[simp] theorem enterUnloading_frame (s : State) :
    (enterUnloading s).pending = s.pending ∧ (enterUnloading s).age = s.age ∧ (enterUnloading s).loader = s.loader ∧
    (enterUnloading s).cfg = s.cfg ∧ (enterUnloading s).pins = s.pins ∧ (enterUnloading s).peers = s.peers ∧
    (enterUnloading s).servo = s.servo ∧ (enterUnloading s).act = s.act ∧ (enterUnloading s).crack = s.crack ∧
    (enterUnloading s).alarm = s.alarm ∧ (enterUnloading s).cmd = s.cmd ∧
    (enterUnloading s).line.bitRate = s.line.bitRate ∧ (enterUnloading s).line.statusPeriod = s.line.statusPeriod ∧
    (enterUnloading s).line.loadGroup = s.line.loadGroup ∧ (enterUnloading s).line.statusTimer = s.line.statusTimer ∧
    (enterUnloading s).line.chargeSlot = s.line.chargeSlot ∧ (enterUnloading s).line.statusSlot = s.line.statusSlot ∧
    txClass (enterUnloading s) = txClass s ∧ (enterUnloading s).line.faultCount = s.line.faultCount ∧
    (enterUnloading s).line.lineFault = s.line.lineFault ∧
    (enterUnloading s).line.ownCompleted = s.line.ownCompleted ∧ (enterUnloading s).line.alarmQ = s.line.alarmQ ∧
    (enterUnloading s).line.shuntSlot = s.line.shuntSlot ∧
    (enterUnloading s).line.shuntDoneBehind = s.line.shuntDoneBehind ∧
    (enterUnloading s).recs.capture = s.recs.capture ∧ (enterUnloading s).recs.scansLeft = s.recs.scansLeft ∧
    (enterUnloading s).recs.captureKind = s.recs.captureKind ∧ (enterUnloading s).recs.gap = s.recs.gap ∧
    (enterUnloading s).recs.serial = s.recs.serial ∧ (enterUnloading s).recs.pressure = s.recs.pressure ∧
    (enterUnloading s).recs.freePages = s.recs.freePages ∧ (enterUnloading s).seq.table = s.seq.table ∧
    (enterUnloading s).seq.digest = s.seq.digest ∧ (enterUnloading s).scan.timer = s.scan.timer ∧
    (enterUnloading s).scan.runLength = s.scan.runLength ∧ (enterUnloading s).scan.runTaken = s.scan.runTaken ∧
    (enterUnloading s).scan.zero = s.scan.zero ∧ (enterUnloading s).scan.shunt = s.scan.shunt ∧
    (enterUnloading s).scan.shuntScans = s.scan.shuntScans ∧ (enterUnloading s).scan.claimHeld = s.scan.claimHeld ∧
    (enterUnloading s).scan.shuntActive = s.scan.shuntActive ∧ (enterUnloading s).scan.holder = s.scan.holder ∧
    (enterUnloading s).seq.state = .unloading ∧ (enterUnloading s).seq.phase = none ∧
    (enterUnloading s).seq.step = s.seq.step ∧ (enterUnloading s).seq.segment = s.seq.segment ∧
    (enterUnloading s).seq.work = s.seq.work ∧ (enterUnloading s).seq.counters = s.seq.counters ∧
    (enterUnloading s).seq.mismatch = none := by
  simp [enterUnloading]

@[simp] theorem tripIdle_frame (s : State) :
    (tripIdle s).pending = s.pending ∧ (tripIdle s).age = s.age ∧ (tripIdle s).loader = s.loader ∧
    (tripIdle s).cfg = s.cfg ∧ (tripIdle s).pins = s.pins ∧ (tripIdle s).peers = s.peers ∧ (tripIdle s).act = s.act ∧
    (tripIdle s).crack = s.crack ∧ (tripIdle s).alarm = s.alarm ∧ (tripIdle s).cmd = s.cmd ∧
    (tripIdle s).line.bitRate = s.line.bitRate ∧ (tripIdle s).line.statusPeriod = s.line.statusPeriod ∧
    (tripIdle s).line.loadGroup = s.line.loadGroup ∧ (tripIdle s).line.statusTimer = s.line.statusTimer ∧
    (tripIdle s).line.chargeSlot = s.line.chargeSlot ∧ (tripIdle s).line.statusSlot = s.line.statusSlot ∧
    txClass (tripIdle s) = txClass s ∧ (tripIdle s).line.faultCount = s.line.faultCount ∧
    (tripIdle s).line.lineFault = s.line.lineFault ∧ (tripIdle s).line.ownCompleted = s.line.ownCompleted ∧
    (tripIdle s).line.alarmQ = s.line.alarmQ ∧ (tripIdle s).line.shuntSlot = s.line.shuntSlot ∧
    (tripIdle s).line.shuntDoneBehind = s.line.shuntDoneBehind ∧ (tripIdle s).recs.capture = s.recs.capture ∧
    (tripIdle s).recs.scansLeft = s.recs.scansLeft ∧ (tripIdle s).recs.captureKind = s.recs.captureKind ∧
    (tripIdle s).recs.gap = s.recs.gap ∧ (tripIdle s).recs.serial = s.recs.serial ∧
    (tripIdle s).recs.pressure = s.recs.pressure ∧ (tripIdle s).recs.freePages = s.recs.freePages ∧
    (tripIdle s).seq.table = s.seq.table ∧ (tripIdle s).seq.digest = s.seq.digest ∧
    (tripIdle s).scan.timer = s.scan.timer ∧ (tripIdle s).scan.runLength = s.scan.runLength ∧
    (tripIdle s).scan.runTaken = s.scan.runTaken ∧ (tripIdle s).scan.zero = s.scan.zero ∧
    (tripIdle s).scan.shunt = s.scan.shunt ∧ (tripIdle s).scan.shuntScans = s.scan.shuntScans ∧
    (tripIdle s).scan.claimHeld = s.scan.claimHeld ∧ (tripIdle s).scan.shuntActive = s.scan.shuntActive ∧
    (tripIdle s).scan.holder = s.scan.holder ∧ (tripIdle s).servo.timer = s.servo.timer ∧
    (tripIdle s).servo.lam = s.servo.lam ∧ (tripIdle s).servo.acc = s.servo.acc ∧
    (tripIdle s).servo.integral = s.servo.integral ∧ (tripIdle s).servo.drive = s.servo.drive ∧
    (tripIdle s).servo.fSet = s.servo.fSet ∧ (tripIdle s).servo.fMeas = s.servo.fMeas ∧
    (tripIdle s).servo.error = s.servo.error ∧ (tripIdle s).servo.lagging = s.servo.lagging ∧
    (tripIdle s).servo.tripCount = s.servo.tripCount ∧ (tripIdle s).servo.overLimit = s.servo.overLimit ∧
    (tripIdle s).servo.reacquire = s.servo.reacquire ∧ (tripIdle s).servo.loadZero = s.servo.loadZero ∧
    (tripIdle s).servo.clearOrder = true ∧ (tripIdle s).seq.state = .idle ∧ (tripIdle s).seq.phase = none ∧
    (tripIdle s).seq.step = 0 ∧ (tripIdle s).seq.segment = 0 ∧ (tripIdle s).seq.work = none ∧
    (tripIdle s).seq.mismatch = none ∧ (tripIdle s).seq.choice = none := by
  simp [tripIdle]

@[simp] theorem sequencerOnLatch_frame (new : Latch) (s : State) :
    (sequencerOnLatch new s).pending = s.pending ∧ (sequencerOnLatch new s).age = s.age ∧
    (sequencerOnLatch new s).loader = s.loader ∧ (sequencerOnLatch new s).cfg = s.cfg ∧
    (sequencerOnLatch new s).pins = s.pins ∧ (sequencerOnLatch new s).peers = s.peers ∧
    (sequencerOnLatch new s).servo = s.servo ∧ (sequencerOnLatch new s).act = s.act ∧
    (sequencerOnLatch new s).crack = s.crack ∧ (sequencerOnLatch new s).alarm = s.alarm ∧
    (sequencerOnLatch new s).cmd = s.cmd ∧ (sequencerOnLatch new s).line.bitRate = s.line.bitRate ∧
    (sequencerOnLatch new s).line.statusPeriod = s.line.statusPeriod ∧
    (sequencerOnLatch new s).line.loadGroup = s.line.loadGroup ∧
    (sequencerOnLatch new s).line.statusTimer = s.line.statusTimer ∧
    (sequencerOnLatch new s).line.chargeSlot = s.line.chargeSlot ∧
    (sequencerOnLatch new s).line.statusSlot = s.line.statusSlot ∧ txClass (sequencerOnLatch new s) = txClass s ∧
    (sequencerOnLatch new s).line.faultCount = s.line.faultCount ∧
    (sequencerOnLatch new s).line.lineFault = s.line.lineFault ∧
    (sequencerOnLatch new s).line.ownCompleted = s.line.ownCompleted ∧
    (sequencerOnLatch new s).line.alarmQ = s.line.alarmQ ∧
    (sequencerOnLatch new s).line.shuntSlot = s.line.shuntSlot ∧
    (sequencerOnLatch new s).line.shuntDoneBehind = s.line.shuntDoneBehind ∧
    (sequencerOnLatch new s).recs.capture = s.recs.capture ∧
    (sequencerOnLatch new s).recs.scansLeft = s.recs.scansLeft ∧
    (sequencerOnLatch new s).recs.captureKind = s.recs.captureKind ∧ (sequencerOnLatch new s).recs.gap = s.recs.gap ∧
    (sequencerOnLatch new s).recs.serial = s.recs.serial ∧ (sequencerOnLatch new s).recs.pressure = s.recs.pressure ∧
    (sequencerOnLatch new s).recs.freePages = s.recs.freePages ∧ (sequencerOnLatch new s).seq.table = s.seq.table ∧
    (sequencerOnLatch new s).seq.digest = s.seq.digest ∧ (sequencerOnLatch new s).scan.timer = s.scan.timer ∧
    (sequencerOnLatch new s).scan.runLength = s.scan.runLength ∧
    (sequencerOnLatch new s).scan.runTaken = s.scan.runTaken ∧ (sequencerOnLatch new s).scan.zero = s.scan.zero ∧
    (sequencerOnLatch new s).scan.shunt = s.scan.shunt ∧
    (sequencerOnLatch new s).scan.shuntScans = s.scan.shuntScans ∧
    (sequencerOnLatch new s).scan.claimHeld = s.scan.claimHeld ∧
    (sequencerOnLatch new s).scan.shuntActive = s.scan.shuntActive ∧
    (sequencerOnLatch new s).scan.holder = s.scan.holder := by
  unfold sequencerOnLatch; simp only []; split <;> (try split) <;> (try split) <;> simp

@[simp] theorem sequencerOnActuator_frame (wasLive : Bool) (s : State) :
    (sequencerOnActuator wasLive s).pending = s.pending ∧ (sequencerOnActuator wasLive s).age = s.age ∧
    (sequencerOnActuator wasLive s).loader = s.loader ∧ (sequencerOnActuator wasLive s).cfg = s.cfg ∧
    (sequencerOnActuator wasLive s).pins = s.pins ∧ (sequencerOnActuator wasLive s).peers = s.peers ∧
    (sequencerOnActuator wasLive s).servo = s.servo ∧ (sequencerOnActuator wasLive s).act = s.act ∧
    (sequencerOnActuator wasLive s).crack = s.crack ∧ (sequencerOnActuator wasLive s).alarm = s.alarm ∧
    (sequencerOnActuator wasLive s).cmd = s.cmd ∧ (sequencerOnActuator wasLive s).line.bitRate = s.line.bitRate ∧
    (sequencerOnActuator wasLive s).line.statusPeriod = s.line.statusPeriod ∧
    (sequencerOnActuator wasLive s).line.loadGroup = s.line.loadGroup ∧
    (sequencerOnActuator wasLive s).line.statusTimer = s.line.statusTimer ∧
    (sequencerOnActuator wasLive s).line.chargeSlot = s.line.chargeSlot ∧
    (sequencerOnActuator wasLive s).line.statusSlot = s.line.statusSlot ∧
    txClass (sequencerOnActuator wasLive s) = txClass s ∧
    (sequencerOnActuator wasLive s).line.faultCount = s.line.faultCount ∧
    (sequencerOnActuator wasLive s).line.lineFault = s.line.lineFault ∧
    (sequencerOnActuator wasLive s).line.ownCompleted = s.line.ownCompleted ∧
    (sequencerOnActuator wasLive s).line.alarmQ = s.line.alarmQ ∧
    (sequencerOnActuator wasLive s).line.shuntSlot = s.line.shuntSlot ∧
    (sequencerOnActuator wasLive s).line.shuntDoneBehind = s.line.shuntDoneBehind ∧
    (sequencerOnActuator wasLive s).recs.capture = s.recs.capture ∧
    (sequencerOnActuator wasLive s).recs.scansLeft = s.recs.scansLeft ∧
    (sequencerOnActuator wasLive s).recs.captureKind = s.recs.captureKind ∧
    (sequencerOnActuator wasLive s).recs.gap = s.recs.gap ∧
    (sequencerOnActuator wasLive s).recs.serial = s.recs.serial ∧
    (sequencerOnActuator wasLive s).recs.pressure = s.recs.pressure ∧
    (sequencerOnActuator wasLive s).recs.freePages = s.recs.freePages ∧
    (sequencerOnActuator wasLive s).seq.table = s.seq.table ∧
    (sequencerOnActuator wasLive s).seq.digest = s.seq.digest ∧
    (sequencerOnActuator wasLive s).scan.timer = s.scan.timer ∧
    (sequencerOnActuator wasLive s).scan.runLength = s.scan.runLength ∧
    (sequencerOnActuator wasLive s).scan.runTaken = s.scan.runTaken ∧
    (sequencerOnActuator wasLive s).scan.zero = s.scan.zero ∧
    (sequencerOnActuator wasLive s).scan.shunt = s.scan.shunt ∧
    (sequencerOnActuator wasLive s).scan.shuntScans = s.scan.shuntScans ∧
    (sequencerOnActuator wasLive s).scan.claimHeld = s.scan.claimHeld ∧
    (sequencerOnActuator wasLive s).scan.shuntActive = s.scan.shuntActive ∧
    (sequencerOnActuator wasLive s).scan.holder = s.scan.holder := by
  unfold sequencerOnActuator; split <;> split <;> simp

/-! ### Actuator unit -/

@[simp] theorem setActuator_frame (st : ActState) (iso dump lockCmd : Bool) (s : State) :
    (setActuator st iso dump lockCmd s).pending = s.pending ∧ (setActuator st iso dump lockCmd s).age = s.age ∧
    (setActuator st iso dump lockCmd s).loader = s.loader ∧ (setActuator st iso dump lockCmd s).cfg = s.cfg ∧
    (setActuator st iso dump lockCmd s).line = s.line ∧ (setActuator st iso dump lockCmd s).peers = s.peers ∧
    (setActuator st iso dump lockCmd s).seq = s.seq ∧ (setActuator st iso dump lockCmd s).servo = s.servo ∧
    (setActuator st iso dump lockCmd s).scan = s.scan ∧ (setActuator st iso dump lockCmd s).crack = s.crack ∧
    (setActuator st iso dump lockCmd s).alarm = s.alarm ∧ (setActuator st iso dump lockCmd s).recs = s.recs ∧
    (setActuator st iso dump lockCmd s).cmd = s.cmd ∧
    (setActuator st iso dump lockCmd s).act.chargeList = s.act.chargeList ∧
    (setActuator st iso dump lockCmd s).act.lockRef = s.act.lockRef ∧
    (setActuator st iso dump lockCmd s).act.lockRefDue = s.act.lockRefDue ∧
    (setActuator st iso dump lockCmd s).act.purpose = s.act.purpose ∧
    (setActuator st iso dump lockCmd s).act.ownPlaced = s.act.ownPlaced ∧
    (setActuator st iso dump lockCmd s).act.ownHeld = s.act.ownHeld ∧
    (setActuator st iso dump lockCmd s).act.chargeTimer = s.act.chargeTimer ∧
    (setActuator st iso dump lockCmd s).act.lockTimer = s.act.lockTimer ∧
    (setActuator st iso dump lockCmd s).act.deadline = s.act.deadline ∧
    (setActuator st iso dump lockCmd s).act.acquisition = s.act.acquisition ∧
    (setActuator st iso dump lockCmd s).act.releasing = s.act.releasing ∧
    (setActuator st iso dump lockCmd s).act.lockCheck = s.act.lockCheck ∧
    (setActuator st iso dump lockCmd s).pins.pressOk = s.pins.pressOk ∧
    (setActuator st iso dump lockCmd s).pins.lockEngaged = s.pins.lockEngaged ∧
    (setActuator st iso dump lockCmd s).pins.estop = s.pins.estop ∧
    (setActuator st iso dump lockCmd s).pins.loadCode = s.pins.loadCode ∧
    (setActuator st iso dump lockCmd s).pins.bridgeCodes = s.pins.bridgeCodes ∧
    (setActuator st iso dump lockCmd s).pins.loopReadings = s.pins.loopReadings ∧
    (setActuator st iso dump lockCmd s).pins.shunts = s.pins.shunts ∧
    (setActuator st iso dump lockCmd s).act.state = st ∧ (setActuator st iso dump lockCmd s).pins.iso = iso ∧
    (setActuator st iso dump lockCmd s).pins.dump = dump ∧
    (setActuator st iso dump lockCmd s).pins.lockCmd = lockCmd := by
  simp [setActuator]

/-- The drive output is 0 at once in a state without drive, and as it was in the others (R67). -/
theorem setActuator_drive (st : ActState) (iso dump lockCmd : Bool) (s : State) :
    (setActuator st iso dump lockCmd s).pins.drive = if passesDrive st then s.pins.drive else 0 :=
  rfl

@[simp] theorem enterTripped_frame (reason : Reason) (s : State) :
    (enterTripped reason s).pending = s.pending ∧ (enterTripped reason s).age = s.age ∧
    (enterTripped reason s).loader = s.loader ∧ (enterTripped reason s).cfg = s.cfg ∧
    (enterTripped reason s).peers = s.peers ∧ (enterTripped reason s).crack = s.crack ∧
    (enterTripped reason s).alarm = s.alarm ∧ (enterTripped reason s).line.bitRate = s.line.bitRate ∧
    (enterTripped reason s).line.statusPeriod = s.line.statusPeriod ∧
    (enterTripped reason s).line.loadGroup = s.line.loadGroup ∧
    (enterTripped reason s).line.statusTimer = s.line.statusTimer ∧
    (enterTripped reason s).line.chargeSlot = s.line.chargeSlot ∧
    (enterTripped reason s).line.statusSlot = s.line.statusSlot ∧ txClass (enterTripped reason s) = txClass s ∧
    (enterTripped reason s).line.faultCount = s.line.faultCount ∧
    (enterTripped reason s).line.lineFault = s.line.lineFault ∧
    (enterTripped reason s).line.ownCompleted = s.line.ownCompleted ∧
    (enterTripped reason s).line.alarmQ = s.line.alarmQ ∧ (enterTripped reason s).cmd.queue = s.cmd.queue ∧
    (enterTripped reason s).cmd.timeTag = s.cmd.timeTag ∧ (enterTripped reason s).recs.capture = s.recs.capture ∧
    (enterTripped reason s).recs.scansLeft = s.recs.scansLeft ∧
    (enterTripped reason s).recs.captureKind = s.recs.captureKind ∧ (enterTripped reason s).recs.gap = s.recs.gap ∧
    (enterTripped reason s).recs.serial = s.recs.serial ∧ (enterTripped reason s).recs.pressure = s.recs.pressure ∧
    (enterTripped reason s).recs.freePages = s.recs.freePages ∧ (enterTripped reason s).seq.table = s.seq.table ∧
    (enterTripped reason s).seq.digest = s.seq.digest ∧ (enterTripped reason s).scan.timer = s.scan.timer ∧
    (enterTripped reason s).scan.runLength = s.scan.runLength ∧
    (enterTripped reason s).scan.runTaken = s.scan.runTaken ∧ (enterTripped reason s).scan.zero = s.scan.zero ∧
    (enterTripped reason s).scan.shunt = s.scan.shunt ∧ (enterTripped reason s).scan.shuntScans = s.scan.shuntScans ∧
    (enterTripped reason s).scan.claimHeld = s.scan.claimHeld ∧
    (enterTripped reason s).scan.shuntActive = s.scan.shuntActive ∧
    (enterTripped reason s).scan.holder = s.scan.holder ∧ (enterTripped reason s).servo.timer = s.servo.timer ∧
    (enterTripped reason s).servo.lam = s.servo.lam ∧ (enterTripped reason s).servo.acc = s.servo.acc ∧
    (enterTripped reason s).servo.integral = s.servo.integral ∧ (enterTripped reason s).servo.drive = s.servo.drive ∧
    (enterTripped reason s).servo.fSet = s.servo.fSet ∧ (enterTripped reason s).servo.fMeas = s.servo.fMeas ∧
    (enterTripped reason s).servo.error = s.servo.error ∧ (enterTripped reason s).servo.lagging = s.servo.lagging ∧
    (enterTripped reason s).servo.tripCount = s.servo.tripCount ∧
    (enterTripped reason s).servo.overLimit = s.servo.overLimit ∧
    (enterTripped reason s).servo.reacquire = s.servo.reacquire ∧
    (enterTripped reason s).servo.loadZero = s.servo.loadZero ∧
    (enterTripped reason s).act.chargeList = s.act.chargeList ∧ (enterTripped reason s).act.lockRef = s.act.lockRef ∧
    (enterTripped reason s).act.lockRefDue = s.act.lockRefDue ∧
    (enterTripped reason s).pins.pressOk = s.pins.pressOk ∧
    (enterTripped reason s).pins.lockEngaged = s.pins.lockEngaged ∧
    (enterTripped reason s).pins.estop = s.pins.estop ∧ (enterTripped reason s).pins.loadCode = s.pins.loadCode ∧
    (enterTripped reason s).pins.bridgeCodes = s.pins.bridgeCodes ∧
    (enterTripped reason s).pins.loopReadings = s.pins.loopReadings ∧
    (enterTripped reason s).line.shuntSlot = s.line.shuntSlot ∧
    (enterTripped reason s).line.shuntDoneBehind = s.line.shuntDoneBehind ∧
    (enterTripped reason s).pins.shunts = s.pins.shunts ∧ (enterTripped reason s).act.state = .tripped ∧
    (enterTripped reason s).seq.state = .idle ∧ (enterTripped reason s).seq.step = 0 ∧
    (enterTripped reason s).servo.clearOrder = true ∧ (enterTripped reason s).pins.iso = false ∧
    (enterTripped reason s).pins.dump = true ∧ (enterTripped reason s).pins.lockCmd = false ∧
    (enterTripped reason s).pins.drive = 0 := by
  simp [enterTripped, setActuator_drive, passesDrive]

@[simp] theorem actuatorOnLatch_frame (new : Latch) (s : State) :
    (actuatorOnLatch new s).pending = s.pending ∧ (actuatorOnLatch new s).age = s.age ∧
    (actuatorOnLatch new s).loader = s.loader ∧ (actuatorOnLatch new s).cfg = s.cfg ∧
    (actuatorOnLatch new s).peers = s.peers ∧ (actuatorOnLatch new s).crack = s.crack ∧
    (actuatorOnLatch new s).alarm = s.alarm ∧ (actuatorOnLatch new s).line.bitRate = s.line.bitRate ∧
    (actuatorOnLatch new s).line.statusPeriod = s.line.statusPeriod ∧
    (actuatorOnLatch new s).line.loadGroup = s.line.loadGroup ∧
    (actuatorOnLatch new s).line.statusTimer = s.line.statusTimer ∧
    (actuatorOnLatch new s).line.chargeSlot = s.line.chargeSlot ∧
    (actuatorOnLatch new s).line.statusSlot = s.line.statusSlot ∧ txClass (actuatorOnLatch new s) = txClass s ∧
    (actuatorOnLatch new s).line.faultCount = s.line.faultCount ∧
    (actuatorOnLatch new s).line.lineFault = s.line.lineFault ∧
    (actuatorOnLatch new s).line.ownCompleted = s.line.ownCompleted ∧
    (actuatorOnLatch new s).line.alarmQ = s.line.alarmQ ∧ (actuatorOnLatch new s).cmd.queue = s.cmd.queue ∧
    (actuatorOnLatch new s).cmd.timeTag = s.cmd.timeTag ∧ (actuatorOnLatch new s).recs.capture = s.recs.capture ∧
    (actuatorOnLatch new s).recs.scansLeft = s.recs.scansLeft ∧
    (actuatorOnLatch new s).recs.captureKind = s.recs.captureKind ∧ (actuatorOnLatch new s).recs.gap = s.recs.gap ∧
    (actuatorOnLatch new s).recs.serial = s.recs.serial ∧ (actuatorOnLatch new s).recs.pressure = s.recs.pressure ∧
    (actuatorOnLatch new s).recs.freePages = s.recs.freePages ∧ (actuatorOnLatch new s).seq.table = s.seq.table ∧
    (actuatorOnLatch new s).seq.digest = s.seq.digest ∧ (actuatorOnLatch new s).scan.timer = s.scan.timer ∧
    (actuatorOnLatch new s).scan.runLength = s.scan.runLength ∧
    (actuatorOnLatch new s).scan.runTaken = s.scan.runTaken ∧ (actuatorOnLatch new s).scan.zero = s.scan.zero ∧
    (actuatorOnLatch new s).scan.shunt = s.scan.shunt ∧ (actuatorOnLatch new s).scan.shuntScans = s.scan.shuntScans ∧
    (actuatorOnLatch new s).scan.claimHeld = s.scan.claimHeld ∧
    (actuatorOnLatch new s).scan.shuntActive = s.scan.shuntActive ∧
    (actuatorOnLatch new s).scan.holder = s.scan.holder ∧ (actuatorOnLatch new s).servo.timer = s.servo.timer ∧
    (actuatorOnLatch new s).servo.lam = s.servo.lam ∧ (actuatorOnLatch new s).servo.acc = s.servo.acc ∧
    (actuatorOnLatch new s).servo.integral = s.servo.integral ∧ (actuatorOnLatch new s).servo.drive = s.servo.drive ∧
    (actuatorOnLatch new s).servo.fSet = s.servo.fSet ∧ (actuatorOnLatch new s).servo.fMeas = s.servo.fMeas ∧
    (actuatorOnLatch new s).servo.error = s.servo.error ∧ (actuatorOnLatch new s).servo.lagging = s.servo.lagging ∧
    (actuatorOnLatch new s).servo.tripCount = s.servo.tripCount ∧
    (actuatorOnLatch new s).servo.overLimit = s.servo.overLimit ∧
    (actuatorOnLatch new s).servo.reacquire = s.servo.reacquire ∧
    (actuatorOnLatch new s).servo.loadZero = s.servo.loadZero ∧
    (actuatorOnLatch new s).act.chargeList = s.act.chargeList ∧ (actuatorOnLatch new s).act.lockRef = s.act.lockRef ∧
    (actuatorOnLatch new s).act.lockRefDue = s.act.lockRefDue ∧
    (actuatorOnLatch new s).pins.pressOk = s.pins.pressOk ∧
    (actuatorOnLatch new s).pins.lockEngaged = s.pins.lockEngaged ∧
    (actuatorOnLatch new s).pins.estop = s.pins.estop ∧ (actuatorOnLatch new s).pins.loadCode = s.pins.loadCode ∧
    (actuatorOnLatch new s).pins.bridgeCodes = s.pins.bridgeCodes ∧
    (actuatorOnLatch new s).pins.loopReadings = s.pins.loopReadings ∧
    (actuatorOnLatch new s).line.shuntSlot = s.line.shuntSlot ∧
    (actuatorOnLatch new s).line.shuntDoneBehind = s.line.shuntDoneBehind ∧
    (actuatorOnLatch new s).pins.shunts = s.pins.shunts := by
  unfold actuatorOnLatch; split <;> simp

/-! ### Alarm unit -/

@[simp] theorem ownRaise_frame (kind : AlarmKind) (channel : Nat) (action : Latch) (s : State) :
    (ownRaise kind channel action s).source = ownStation s ∧ (ownRaise kind channel action s).kind = kind ∧
    (ownRaise kind channel action s).channel = channel ∧ (ownRaise kind channel action s).action = action ∧
    (ownRaise kind channel action s).lam = s.servo.lam ∧ (ownRaise kind channel action s).step = s.seq.step ∧
    (ownRaise kind channel action s).tag = s.cmd.timeTag :=
  ⟨rfl, rfl, rfl, rfl, rfl, rfl, rfl⟩

@[simp] theorem storeRaise_frame (r : Raise) (u : AlarmUnit) :
    (storeRaise r u).causes = u.causes ∧ (storeRaise r u).latch = u.latch := by
  unfold storeRaise
  split <;> (try split) <;> (try split) <;> simp

@[simp] theorem handLatch_frame (new : Latch) (s : State) :
    (handLatch new s).pending = s.pending ∧ (handLatch new s).age = s.age ∧ (handLatch new s).loader = s.loader ∧
    (handLatch new s).cfg = s.cfg ∧ (handLatch new s).peers = s.peers ∧ (handLatch new s).crack = s.crack ∧
    (handLatch new s).alarm = s.alarm ∧ (handLatch new s).line.bitRate = s.line.bitRate ∧
    (handLatch new s).line.statusPeriod = s.line.statusPeriod ∧ (handLatch new s).line.loadGroup = s.line.loadGroup ∧
    (handLatch new s).line.statusTimer = s.line.statusTimer ∧ (handLatch new s).line.chargeSlot = s.line.chargeSlot ∧
    (handLatch new s).line.statusSlot = s.line.statusSlot ∧ txClass (handLatch new s) = txClass s ∧
    (handLatch new s).line.faultCount = s.line.faultCount ∧ (handLatch new s).line.lineFault = s.line.lineFault ∧
    (handLatch new s).line.ownCompleted = s.line.ownCompleted ∧ (handLatch new s).line.alarmQ = s.line.alarmQ ∧
    (handLatch new s).cmd.queue = s.cmd.queue ∧ (handLatch new s).cmd.timeTag = s.cmd.timeTag ∧
    (handLatch new s).recs.capture = s.recs.capture ∧ (handLatch new s).recs.scansLeft = s.recs.scansLeft ∧
    (handLatch new s).recs.captureKind = s.recs.captureKind ∧ (handLatch new s).recs.gap = s.recs.gap ∧
    (handLatch new s).recs.serial = s.recs.serial ∧ (handLatch new s).recs.pressure = s.recs.pressure ∧
    (handLatch new s).recs.freePages = s.recs.freePages ∧ (handLatch new s).seq.table = s.seq.table ∧
    (handLatch new s).seq.digest = s.seq.digest ∧ (handLatch new s).scan.timer = s.scan.timer ∧
    (handLatch new s).scan.runLength = s.scan.runLength ∧ (handLatch new s).scan.runTaken = s.scan.runTaken ∧
    (handLatch new s).scan.zero = s.scan.zero ∧ (handLatch new s).scan.holder = s.scan.holder ∧
    (handLatch new s).servo.timer = s.servo.timer ∧ (handLatch new s).servo.lam = s.servo.lam ∧
    (handLatch new s).servo.acc = s.servo.acc ∧ (handLatch new s).servo.integral = s.servo.integral ∧
    (handLatch new s).servo.drive = s.servo.drive ∧ (handLatch new s).servo.fSet = s.servo.fSet ∧
    (handLatch new s).servo.fMeas = s.servo.fMeas ∧ (handLatch new s).servo.error = s.servo.error ∧
    (handLatch new s).servo.lagging = s.servo.lagging ∧ (handLatch new s).servo.tripCount = s.servo.tripCount ∧
    (handLatch new s).servo.overLimit = s.servo.overLimit ∧ (handLatch new s).servo.reacquire = s.servo.reacquire ∧
    (handLatch new s).servo.loadZero = s.servo.loadZero ∧ (handLatch new s).act.chargeList = s.act.chargeList ∧
    (handLatch new s).act.lockRef = s.act.lockRef ∧ (handLatch new s).act.lockRefDue = s.act.lockRefDue ∧
    (handLatch new s).pins.pressOk = s.pins.pressOk ∧ (handLatch new s).pins.lockEngaged = s.pins.lockEngaged ∧
    (handLatch new s).pins.estop = s.pins.estop ∧ (handLatch new s).pins.loadCode = s.pins.loadCode ∧
    (handLatch new s).pins.bridgeCodes = s.pins.bridgeCodes ∧
    (handLatch new s).pins.loopReadings = s.pins.loopReadings := by
  simp [handLatch]

@[simp] theorem causeOn_frame (c : Cause) (s : State) :
    (causeOn c s).pending = s.pending ∧ (causeOn c s).age = s.age ∧ (causeOn c s).loader = s.loader ∧
    (causeOn c s).cfg = s.cfg ∧ (causeOn c s).pins = s.pins ∧ (causeOn c s).line = s.line ∧
    (causeOn c s).peers = s.peers ∧ (causeOn c s).seq = s.seq ∧ (causeOn c s).servo = s.servo ∧
    (causeOn c s).act = s.act ∧ (causeOn c s).scan = s.scan ∧ (causeOn c s).crack = s.crack ∧
    (causeOn c s).recs = s.recs ∧ (causeOn c s).cmd = s.cmd ∧ (causeOn c s).alarm.latch = s.alarm.latch ∧
    (causeOn c s).alarm.records = s.alarm.records ∧ (causeOn c s).alarm.overfull = s.alarm.overfull := by
  unfold causeOn; split <;> simp

@[simp] theorem causeOff_frame (c : Cause) (s : State) :
    (causeOff c s).pending = s.pending ∧ (causeOff c s).age = s.age ∧ (causeOff c s).loader = s.loader ∧
    (causeOff c s).cfg = s.cfg ∧ (causeOff c s).pins = s.pins ∧ (causeOff c s).line = s.line ∧
    (causeOff c s).peers = s.peers ∧ (causeOff c s).seq = s.seq ∧ (causeOff c s).servo = s.servo ∧
    (causeOff c s).act = s.act ∧ (causeOff c s).scan = s.scan ∧ (causeOff c s).crack = s.crack ∧
    (causeOff c s).recs = s.recs ∧ (causeOff c s).cmd = s.cmd ∧ (causeOff c s).alarm.latch = s.alarm.latch ∧
    (causeOff c s).alarm.records = s.alarm.records ∧ (causeOff c s).alarm.overfull = s.alarm.overfull := by
  simp [causeOff]

@[simp] theorem raiseAlarm_frame (r : Raise) (s : State) :
    (raiseAlarm r s).pending = s.pending ∧ (raiseAlarm r s).age = s.age ∧ (raiseAlarm r s).loader = s.loader ∧
    (raiseAlarm r s).cfg = s.cfg ∧ (raiseAlarm r s).peers = s.peers ∧ (raiseAlarm r s).crack = s.crack ∧
    (raiseAlarm r s).line.bitRate = s.line.bitRate ∧ (raiseAlarm r s).line.statusPeriod = s.line.statusPeriod ∧
    (raiseAlarm r s).line.loadGroup = s.line.loadGroup ∧ (raiseAlarm r s).line.statusTimer = s.line.statusTimer ∧
    (raiseAlarm r s).line.chargeSlot = s.line.chargeSlot ∧ (raiseAlarm r s).line.statusSlot = s.line.statusSlot ∧
    txClass (raiseAlarm r s) = txClass s ∧ (raiseAlarm r s).line.faultCount = s.line.faultCount ∧
    (raiseAlarm r s).line.lineFault = s.line.lineFault ∧ (raiseAlarm r s).line.ownCompleted = s.line.ownCompleted ∧
    (raiseAlarm r s).cmd.queue = s.cmd.queue ∧ (raiseAlarm r s).cmd.timeTag = s.cmd.timeTag ∧
    (raiseAlarm r s).recs.gap = s.recs.gap ∧ (raiseAlarm r s).recs.serial = s.recs.serial ∧
    (raiseAlarm r s).recs.pressure = s.recs.pressure ∧ (raiseAlarm r s).recs.freePages = s.recs.freePages ∧
    (raiseAlarm r s).seq.table = s.seq.table ∧ (raiseAlarm r s).seq.digest = s.seq.digest ∧
    (raiseAlarm r s).scan.timer = s.scan.timer ∧ (raiseAlarm r s).scan.runLength = s.scan.runLength ∧
    (raiseAlarm r s).scan.runTaken = s.scan.runTaken ∧ (raiseAlarm r s).scan.zero = s.scan.zero ∧
    (raiseAlarm r s).scan.holder = s.scan.holder ∧ (raiseAlarm r s).servo.timer = s.servo.timer ∧
    (raiseAlarm r s).servo.lam = s.servo.lam ∧ (raiseAlarm r s).servo.acc = s.servo.acc ∧
    (raiseAlarm r s).servo.integral = s.servo.integral ∧ (raiseAlarm r s).servo.drive = s.servo.drive ∧
    (raiseAlarm r s).servo.fSet = s.servo.fSet ∧ (raiseAlarm r s).servo.fMeas = s.servo.fMeas ∧
    (raiseAlarm r s).servo.error = s.servo.error ∧ (raiseAlarm r s).servo.lagging = s.servo.lagging ∧
    (raiseAlarm r s).servo.tripCount = s.servo.tripCount ∧ (raiseAlarm r s).servo.overLimit = s.servo.overLimit ∧
    (raiseAlarm r s).servo.reacquire = s.servo.reacquire ∧ (raiseAlarm r s).servo.loadZero = s.servo.loadZero ∧
    (raiseAlarm r s).act.chargeList = s.act.chargeList ∧ (raiseAlarm r s).act.lockRef = s.act.lockRef ∧
    (raiseAlarm r s).act.lockRefDue = s.act.lockRefDue ∧ (raiseAlarm r s).pins.pressOk = s.pins.pressOk ∧
    (raiseAlarm r s).pins.lockEngaged = s.pins.lockEngaged ∧ (raiseAlarm r s).pins.estop = s.pins.estop ∧
    (raiseAlarm r s).pins.loadCode = s.pins.loadCode ∧ (raiseAlarm r s).pins.bridgeCodes = s.pins.bridgeCodes ∧
    (raiseAlarm r s).pins.loopReadings = s.pins.loopReadings ∧
    (raiseAlarm r s).alarm.latch = latchMax s.alarm.latch r.action ∧
    (raiseAlarm r s).alarm.causes = s.alarm.causes := by
  unfold raiseAlarm; simp only []; repeat' split
  all_goals simp

@[simp] theorem raiseOwn_frame (kind : AlarmKind) (channel : Nat) (action : Latch) (s : State) :
    (raiseOwn kind channel action s).pending = s.pending ∧ (raiseOwn kind channel action s).age = s.age ∧
    (raiseOwn kind channel action s).loader = s.loader ∧ (raiseOwn kind channel action s).cfg = s.cfg ∧
    (raiseOwn kind channel action s).peers = s.peers ∧ (raiseOwn kind channel action s).crack = s.crack ∧
    (raiseOwn kind channel action s).line.bitRate = s.line.bitRate ∧
    (raiseOwn kind channel action s).line.statusPeriod = s.line.statusPeriod ∧
    (raiseOwn kind channel action s).line.loadGroup = s.line.loadGroup ∧
    (raiseOwn kind channel action s).line.statusTimer = s.line.statusTimer ∧
    (raiseOwn kind channel action s).line.chargeSlot = s.line.chargeSlot ∧
    (raiseOwn kind channel action s).line.statusSlot = s.line.statusSlot ∧
    txClass (raiseOwn kind channel action s) = txClass s ∧
    (raiseOwn kind channel action s).line.faultCount = s.line.faultCount ∧
    (raiseOwn kind channel action s).line.lineFault = s.line.lineFault ∧
    (raiseOwn kind channel action s).line.ownCompleted = s.line.ownCompleted ∧
    (raiseOwn kind channel action s).cmd.queue = s.cmd.queue ∧
    (raiseOwn kind channel action s).cmd.timeTag = s.cmd.timeTag ∧
    (raiseOwn kind channel action s).recs.gap = s.recs.gap ∧
    (raiseOwn kind channel action s).recs.serial = s.recs.serial ∧
    (raiseOwn kind channel action s).recs.pressure = s.recs.pressure ∧
    (raiseOwn kind channel action s).recs.freePages = s.recs.freePages ∧
    (raiseOwn kind channel action s).seq.table = s.seq.table ∧
    (raiseOwn kind channel action s).seq.digest = s.seq.digest ∧
    (raiseOwn kind channel action s).scan.timer = s.scan.timer ∧
    (raiseOwn kind channel action s).scan.runLength = s.scan.runLength ∧
    (raiseOwn kind channel action s).scan.runTaken = s.scan.runTaken ∧
    (raiseOwn kind channel action s).scan.zero = s.scan.zero ∧
    (raiseOwn kind channel action s).scan.holder = s.scan.holder ∧
    (raiseOwn kind channel action s).servo.timer = s.servo.timer ∧
    (raiseOwn kind channel action s).servo.lam = s.servo.lam ∧
    (raiseOwn kind channel action s).servo.acc = s.servo.acc ∧
    (raiseOwn kind channel action s).servo.integral = s.servo.integral ∧
    (raiseOwn kind channel action s).servo.drive = s.servo.drive ∧
    (raiseOwn kind channel action s).servo.fSet = s.servo.fSet ∧
    (raiseOwn kind channel action s).servo.fMeas = s.servo.fMeas ∧
    (raiseOwn kind channel action s).servo.error = s.servo.error ∧
    (raiseOwn kind channel action s).servo.lagging = s.servo.lagging ∧
    (raiseOwn kind channel action s).servo.tripCount = s.servo.tripCount ∧
    (raiseOwn kind channel action s).servo.overLimit = s.servo.overLimit ∧
    (raiseOwn kind channel action s).servo.reacquire = s.servo.reacquire ∧
    (raiseOwn kind channel action s).servo.loadZero = s.servo.loadZero ∧
    (raiseOwn kind channel action s).act.chargeList = s.act.chargeList ∧
    (raiseOwn kind channel action s).act.lockRef = s.act.lockRef ∧
    (raiseOwn kind channel action s).act.lockRefDue = s.act.lockRefDue ∧
    (raiseOwn kind channel action s).pins.pressOk = s.pins.pressOk ∧
    (raiseOwn kind channel action s).pins.lockEngaged = s.pins.lockEngaged ∧
    (raiseOwn kind channel action s).pins.estop = s.pins.estop ∧
    (raiseOwn kind channel action s).pins.loadCode = s.pins.loadCode ∧
    (raiseOwn kind channel action s).pins.bridgeCodes = s.pins.bridgeCodes ∧
    (raiseOwn kind channel action s).pins.loopReadings = s.pins.loopReadings ∧
    (raiseOwn kind channel action s).alarm.latch = latchMax s.alarm.latch action ∧
    (raiseOwn kind channel action s).alarm.causes = s.alarm.causes := by
  simp [raiseOwn]

@[simp] theorem consoleLatch_frame (action : Latch) (s : State) :
    (consoleLatch action s).pending = s.pending ∧ (consoleLatch action s).age = s.age ∧
    (consoleLatch action s).loader = s.loader ∧ (consoleLatch action s).cfg = s.cfg ∧
    (consoleLatch action s).peers = s.peers ∧ (consoleLatch action s).crack = s.crack ∧
    (consoleLatch action s).line.bitRate = s.line.bitRate ∧
    (consoleLatch action s).line.statusPeriod = s.line.statusPeriod ∧
    (consoleLatch action s).line.loadGroup = s.line.loadGroup ∧
    (consoleLatch action s).line.statusTimer = s.line.statusTimer ∧
    (consoleLatch action s).line.chargeSlot = s.line.chargeSlot ∧
    (consoleLatch action s).line.statusSlot = s.line.statusSlot ∧ txClass (consoleLatch action s) = txClass s ∧
    (consoleLatch action s).line.faultCount = s.line.faultCount ∧
    (consoleLatch action s).line.lineFault = s.line.lineFault ∧
    (consoleLatch action s).line.ownCompleted = s.line.ownCompleted ∧
    (consoleLatch action s).line.alarmQ = s.line.alarmQ ∧ (consoleLatch action s).cmd.queue = s.cmd.queue ∧
    (consoleLatch action s).cmd.timeTag = s.cmd.timeTag ∧ (consoleLatch action s).recs.capture = s.recs.capture ∧
    (consoleLatch action s).recs.scansLeft = s.recs.scansLeft ∧
    (consoleLatch action s).recs.captureKind = s.recs.captureKind ∧ (consoleLatch action s).recs.gap = s.recs.gap ∧
    (consoleLatch action s).recs.serial = s.recs.serial ∧ (consoleLatch action s).recs.pressure = s.recs.pressure ∧
    (consoleLatch action s).recs.freePages = s.recs.freePages ∧ (consoleLatch action s).seq.table = s.seq.table ∧
    (consoleLatch action s).seq.digest = s.seq.digest ∧ (consoleLatch action s).scan.timer = s.scan.timer ∧
    (consoleLatch action s).scan.runLength = s.scan.runLength ∧
    (consoleLatch action s).scan.runTaken = s.scan.runTaken ∧ (consoleLatch action s).scan.zero = s.scan.zero ∧
    (consoleLatch action s).scan.holder = s.scan.holder ∧ (consoleLatch action s).servo.timer = s.servo.timer ∧
    (consoleLatch action s).servo.lam = s.servo.lam ∧ (consoleLatch action s).servo.acc = s.servo.acc ∧
    (consoleLatch action s).servo.integral = s.servo.integral ∧ (consoleLatch action s).servo.drive = s.servo.drive ∧
    (consoleLatch action s).servo.fSet = s.servo.fSet ∧ (consoleLatch action s).servo.fMeas = s.servo.fMeas ∧
    (consoleLatch action s).servo.error = s.servo.error ∧ (consoleLatch action s).servo.lagging = s.servo.lagging ∧
    (consoleLatch action s).servo.tripCount = s.servo.tripCount ∧
    (consoleLatch action s).servo.overLimit = s.servo.overLimit ∧
    (consoleLatch action s).servo.reacquire = s.servo.reacquire ∧
    (consoleLatch action s).servo.loadZero = s.servo.loadZero ∧
    (consoleLatch action s).act.chargeList = s.act.chargeList ∧ (consoleLatch action s).act.lockRef = s.act.lockRef ∧
    (consoleLatch action s).act.lockRefDue = s.act.lockRefDue ∧
    (consoleLatch action s).pins.pressOk = s.pins.pressOk ∧
    (consoleLatch action s).pins.lockEngaged = s.pins.lockEngaged ∧
    (consoleLatch action s).pins.estop = s.pins.estop ∧ (consoleLatch action s).pins.loadCode = s.pins.loadCode ∧
    (consoleLatch action s).pins.bridgeCodes = s.pins.bridgeCodes ∧
    (consoleLatch action s).pins.loopReadings = s.pins.loopReadings ∧
    (consoleLatch action s).alarm.latch = latchMax s.alarm.latch action ∧
    (consoleLatch action s).alarm.causes = s.alarm.causes ∧
    (consoleLatch action s).alarm.records = s.alarm.records := by
  unfold consoleLatch; simp only []; split <;> simp_all

end Sys2Proof.Machine
end

