-- ==== Sys2Proof/Laws/FramesDrive.lean ====
section
/-! SUPPORT. What each operation of the level sequencer and of the actuator unit leaves alone, once: the blocks of State it
does not touch, and the fields of the blocks it touches that it keeps or sets whatever the state. -/
namespace Sys2Proof.Machine

open Sys2Proof

/-! ### Level sequencer -/

@[simp] theorem replaceTable_frame (table : List (Option Segment)) (s : State) :
    (replaceTable table s).pending = s.pending ∧ (replaceTable table s).age = s.age ∧
    (replaceTable table s).loader = s.loader ∧ (replaceTable table s).cfg = s.cfg ∧
    (replaceTable table s).pins = s.pins ∧ (replaceTable table s).servo = s.servo ∧
    (replaceTable table s).act = s.act ∧ (replaceTable table s).scan = s.scan ∧
    (replaceTable table s).crack = s.crack ∧ (replaceTable table s).alarm = s.alarm ∧
    (replaceTable table s).recs = s.recs ∧ (replaceTable table s).cmd = s.cmd ∧
    (replaceTable table s).line.bitRate = s.line.bitRate ∧
    (replaceTable table s).line.statusPeriod = s.line.statusPeriod ∧
    (replaceTable table s).line.loadGroup = s.line.loadGroup ∧
    (replaceTable table s).line.statusTimer = s.line.statusTimer ∧
    (replaceTable table s).line.chargeSlot = s.line.chargeSlot ∧
    (replaceTable table s).line.statusSlot = s.line.statusSlot ∧ txClass (replaceTable table s) = txClass s ∧
    (replaceTable table s).line.faultCount = s.line.faultCount ∧
    (replaceTable table s).line.lineFault = s.line.lineFault ∧
    (replaceTable table s).line.ownCompleted = s.line.ownCompleted ∧
    (replaceTable table s).line.alarmQ = s.line.alarmQ ∧ (replaceTable table s).line.shuntSlot = s.line.shuntSlot ∧
    (replaceTable table s).line.shuntDoneBehind = s.line.shuntDoneBehind ∧
    (replaceTable table s).line.replyQ = s.line.replyQ ∧ (replaceTable table s).line.dataQ = s.line.dataQ ∧
    (replaceTable table s).line.heldReplies = s.line.heldReplies ∧
    (replaceTable table s).peers.records = s.peers.records ∧
    (replaceTable table s).peers.memberAbsent = s.peers.memberAbsent ∧ (replaceTable table s).seq.table = table ∧
    (replaceTable table s).seq.digest = digestOf table ∧ (replaceTable table s).seq.state = s.seq.state ∧
    (replaceTable table s).seq.phase = s.seq.phase ∧ (replaceTable table s).seq.step = s.seq.step ∧
    (replaceTable table s).seq.segment = s.seq.segment ∧ (replaceTable table s).seq.work = s.seq.work ∧
    (replaceTable table s).seq.counters = s.seq.counters ∧ (replaceTable table s).seq.hold = s.seq.hold ∧
    (replaceTable table s).seq.extension = s.seq.extension ∧
    (replaceTable table s).seq.extensionUsed = s.seq.extensionUsed ∧
    (replaceTable table s).seq.mismatch = s.seq.mismatch ∧ (replaceTable table s).seq.choice = s.seq.choice := by
  simp [replaceTable, updateDigestFlag]

@[simp] theorem enterEnded_frame (s : State) :
    (enterEnded s).pending = s.pending ∧ (enterEnded s).age = s.age ∧ (enterEnded s).loader = s.loader ∧
    (enterEnded s).cfg = s.cfg ∧ (enterEnded s).pins = s.pins ∧ (enterEnded s).peers = s.peers ∧
    (enterEnded s).servo = s.servo ∧ (enterEnded s).act = s.act ∧ (enterEnded s).scan = s.scan ∧
    (enterEnded s).crack = s.crack ∧ (enterEnded s).alarm = s.alarm ∧ (enterEnded s).cmd = s.cmd ∧
    (enterEnded s).line.bitRate = s.line.bitRate ∧ (enterEnded s).line.statusPeriod = s.line.statusPeriod ∧
    (enterEnded s).line.loadGroup = s.line.loadGroup ∧ (enterEnded s).line.statusTimer = s.line.statusTimer ∧
    (enterEnded s).line.chargeSlot = s.line.chargeSlot ∧ (enterEnded s).line.statusSlot = s.line.statusSlot ∧
    txClass (enterEnded s) = txClass s ∧ (enterEnded s).line.faultCount = s.line.faultCount ∧
    (enterEnded s).line.lineFault = s.line.lineFault ∧ (enterEnded s).line.ownCompleted = s.line.ownCompleted ∧
    (enterEnded s).line.alarmQ = s.line.alarmQ ∧ (enterEnded s).line.shuntSlot = s.line.shuntSlot ∧
    (enterEnded s).line.shuntDoneBehind = s.line.shuntDoneBehind ∧ (enterEnded s).recs.capture = s.recs.capture ∧
    (enterEnded s).recs.scansLeft = s.recs.scansLeft ∧ (enterEnded s).recs.captureKind = s.recs.captureKind ∧
    (enterEnded s).recs.gap = s.recs.gap ∧ (enterEnded s).recs.serial = s.recs.serial ∧
    (enterEnded s).recs.pressure = s.recs.pressure ∧ (enterEnded s).recs.freePages = s.recs.freePages ∧
    (enterEnded s).seq.table = s.seq.table ∧ (enterEnded s).seq.digest = s.seq.digest ∧
    (enterEnded s).seq.step = s.seq.step ∧ (enterEnded s).seq.segment = s.seq.segment ∧
    (enterEnded s).seq.work = s.seq.work ∧ (enterEnded s).seq.counters = s.seq.counters ∧
    (enterEnded s).seq.hold = s.seq.hold ∧ (enterEnded s).seq.extension = s.seq.extension ∧
    (enterEnded s).seq.state = .ended ∧ (enterEnded s).seq.phase = none ∧ (enterEnded s).seq.choice = none ∧
    (enterEnded s).seq.mismatch = none := by
  simp [enterEnded]

@[simp] theorem enterSegment_frame (i : Nat) (s : State) :
    (enterSegment i s).pending = s.pending ∧ (enterSegment i s).age = s.age ∧ (enterSegment i s).loader = s.loader ∧
    (enterSegment i s).cfg = s.cfg ∧ (enterSegment i s).pins = s.pins ∧ (enterSegment i s).peers = s.peers ∧
    (enterSegment i s).servo = s.servo ∧ (enterSegment i s).act = s.act ∧ (enterSegment i s).scan = s.scan ∧
    (enterSegment i s).crack = s.crack ∧ (enterSegment i s).alarm = s.alarm ∧ (enterSegment i s).cmd = s.cmd ∧
    (enterSegment i s).line.bitRate = s.line.bitRate ∧ (enterSegment i s).line.statusPeriod = s.line.statusPeriod ∧
    (enterSegment i s).line.loadGroup = s.line.loadGroup ∧ (enterSegment i s).line.statusTimer = s.line.statusTimer ∧
    (enterSegment i s).line.chargeSlot = s.line.chargeSlot ∧ (enterSegment i s).line.statusSlot = s.line.statusSlot ∧
    txClass (enterSegment i s) = txClass s ∧ (enterSegment i s).line.faultCount = s.line.faultCount ∧
    (enterSegment i s).line.lineFault = s.line.lineFault ∧
    (enterSegment i s).line.ownCompleted = s.line.ownCompleted ∧ (enterSegment i s).line.alarmQ = s.line.alarmQ ∧
    (enterSegment i s).line.shuntSlot = s.line.shuntSlot ∧
    (enterSegment i s).line.shuntDoneBehind = s.line.shuntDoneBehind ∧
    (enterSegment i s).recs.capture = s.recs.capture ∧ (enterSegment i s).recs.scansLeft = s.recs.scansLeft ∧
    (enterSegment i s).recs.captureKind = s.recs.captureKind ∧ (enterSegment i s).recs.gap = s.recs.gap ∧
    (enterSegment i s).recs.serial = s.recs.serial ∧ (enterSegment i s).recs.pressure = s.recs.pressure ∧
    (enterSegment i s).recs.freePages = s.recs.freePages ∧ (enterSegment i s).seq.table = s.seq.table ∧
    (enterSegment i s).seq.digest = s.seq.digest ∧ (enterSegment i s).seq.counters = s.seq.counters := by
  unfold enterSegment; split <;> (try split) <;> simp

@[simp] theorem watchMismatch_frame (s : State) :
    (watchMismatch s).pending = s.pending ∧ (watchMismatch s).age = s.age ∧ (watchMismatch s).loader = s.loader ∧
    (watchMismatch s).cfg = s.cfg ∧ (watchMismatch s).pins = s.pins ∧ (watchMismatch s).line = s.line ∧
    (watchMismatch s).peers = s.peers ∧ (watchMismatch s).servo = s.servo ∧ (watchMismatch s).act = s.act ∧
    (watchMismatch s).scan = s.scan ∧ (watchMismatch s).crack = s.crack ∧ (watchMismatch s).alarm = s.alarm ∧
    (watchMismatch s).recs = s.recs ∧ (watchMismatch s).cmd = s.cmd ∧ (watchMismatch s).seq.table = s.seq.table ∧
    (watchMismatch s).seq.digest = s.seq.digest ∧ (watchMismatch s).seq.state = s.seq.state ∧
    (watchMismatch s).seq.phase = s.seq.phase ∧ (watchMismatch s).seq.step = s.seq.step ∧
    (watchMismatch s).seq.segment = s.seq.segment ∧ (watchMismatch s).seq.work = s.seq.work ∧
    (watchMismatch s).seq.counters = s.seq.counters ∧ (watchMismatch s).seq.hold = s.seq.hold ∧
    (watchMismatch s).seq.extension = s.seq.extension ∧ (watchMismatch s).seq.extensionUsed = s.seq.extensionUsed ∧
    (watchMismatch s).seq.choice = s.seq.choice := by
  unfold watchMismatch; split <;> (try split) <;> simp

@[simp] theorem askGate_frame (s : State) :
    (askGate s).pending = s.pending ∧ (askGate s).age = s.age ∧ (askGate s).loader = s.loader ∧
    (askGate s).cfg = s.cfg ∧ (askGate s).pins = s.pins ∧ (askGate s).peers = s.peers ∧ (askGate s).servo = s.servo ∧
    (askGate s).act = s.act ∧ (askGate s).scan = s.scan ∧ (askGate s).crack = s.crack ∧ (askGate s).alarm = s.alarm ∧
    (askGate s).cmd = s.cmd ∧ (askGate s).line.bitRate = s.line.bitRate ∧
    (askGate s).line.statusPeriod = s.line.statusPeriod ∧ (askGate s).line.loadGroup = s.line.loadGroup ∧
    (askGate s).line.statusTimer = s.line.statusTimer ∧ (askGate s).line.chargeSlot = s.line.chargeSlot ∧
    (askGate s).line.statusSlot = s.line.statusSlot ∧ txClass (askGate s) = txClass s ∧
    (askGate s).line.faultCount = s.line.faultCount ∧ (askGate s).line.lineFault = s.line.lineFault ∧
    (askGate s).line.ownCompleted = s.line.ownCompleted ∧ (askGate s).line.alarmQ = s.line.alarmQ ∧
    (askGate s).line.shuntSlot = s.line.shuntSlot ∧ (askGate s).line.shuntDoneBehind = s.line.shuntDoneBehind ∧
    (askGate s).recs.capture = s.recs.capture ∧ (askGate s).recs.scansLeft = s.recs.scansLeft ∧
    (askGate s).recs.captureKind = s.recs.captureKind ∧ (askGate s).recs.gap = s.recs.gap ∧
    (askGate s).recs.serial = s.recs.serial ∧ (askGate s).recs.pressure = s.recs.pressure ∧
    (askGate s).recs.freePages = s.recs.freePages ∧ (askGate s).seq.table = s.seq.table ∧
    (askGate s).seq.digest = s.seq.digest ∧ (askGate s).seq.counters = s.seq.counters := by
  unfold askGate; split
  · split
    · simp
    · simp only []; split <;> simp
  · simp

@[simp] theorem becomeDone_frame (s : State) :
    (becomeDone s).pending = s.pending ∧ (becomeDone s).age = s.age ∧ (becomeDone s).loader = s.loader ∧
    (becomeDone s).cfg = s.cfg ∧ (becomeDone s).pins = s.pins ∧ (becomeDone s).peers = s.peers ∧
    (becomeDone s).servo = s.servo ∧ (becomeDone s).act = s.act ∧ (becomeDone s).crack = s.crack ∧
    (becomeDone s).alarm = s.alarm ∧ (becomeDone s).cmd = s.cmd ∧ (becomeDone s).line.bitRate = s.line.bitRate ∧
    (becomeDone s).line.statusPeriod = s.line.statusPeriod ∧ (becomeDone s).line.loadGroup = s.line.loadGroup ∧
    (becomeDone s).line.statusTimer = s.line.statusTimer ∧ (becomeDone s).line.chargeSlot = s.line.chargeSlot ∧
    (becomeDone s).line.statusSlot = s.line.statusSlot ∧ txClass (becomeDone s) = txClass s ∧
    (becomeDone s).line.faultCount = s.line.faultCount ∧ (becomeDone s).line.lineFault = s.line.lineFault ∧
    (becomeDone s).line.ownCompleted = s.line.ownCompleted ∧ (becomeDone s).line.alarmQ = s.line.alarmQ ∧
    (becomeDone s).line.shuntSlot = s.line.shuntSlot ∧ (becomeDone s).line.shuntDoneBehind = s.line.shuntDoneBehind ∧
    (becomeDone s).recs.capture = s.recs.capture ∧ (becomeDone s).recs.scansLeft = s.recs.scansLeft ∧
    (becomeDone s).recs.captureKind = s.recs.captureKind ∧ (becomeDone s).recs.gap = s.recs.gap ∧
    (becomeDone s).recs.serial = s.recs.serial ∧ (becomeDone s).recs.pressure = s.recs.pressure ∧
    (becomeDone s).recs.freePages = s.recs.freePages ∧ (becomeDone s).seq.table = s.seq.table ∧
    (becomeDone s).seq.digest = s.seq.digest ∧ (becomeDone s).scan.timer = s.scan.timer ∧
    (becomeDone s).scan.runLength = s.scan.runLength ∧ (becomeDone s).scan.runTaken = s.scan.runTaken ∧
    (becomeDone s).scan.zero = s.scan.zero ∧ (becomeDone s).scan.shunt = s.scan.shunt ∧
    (becomeDone s).scan.shuntScans = s.scan.shuntScans ∧ (becomeDone s).scan.claimHeld = s.scan.claimHeld ∧
    (becomeDone s).scan.shuntActive = s.scan.shuntActive ∧ (becomeDone s).scan.holder = s.scan.holder ∧
    (becomeDone s).scan.settled = false ∧ (becomeDone s).scan.settleTimer = none := by
  unfold becomeDone; simp only []; split <;> simp

@[simp] theorem extensionExpired_frame (s : State) :
    (extensionExpired s).pending = s.pending ∧ (extensionExpired s).age = s.age ∧
    (extensionExpired s).loader = s.loader ∧ (extensionExpired s).cfg = s.cfg ∧
    (extensionExpired s).peers = s.peers ∧ (extensionExpired s).crack = s.crack ∧
    (extensionExpired s).line.bitRate = s.line.bitRate ∧
    (extensionExpired s).line.statusPeriod = s.line.statusPeriod ∧
    (extensionExpired s).line.loadGroup = s.line.loadGroup ∧
    (extensionExpired s).line.statusTimer = s.line.statusTimer ∧
    (extensionExpired s).line.chargeSlot = s.line.chargeSlot ∧
    (extensionExpired s).line.statusSlot = s.line.statusSlot ∧ txClass (extensionExpired s) = txClass s ∧
    (extensionExpired s).line.faultCount = s.line.faultCount ∧
    (extensionExpired s).line.lineFault = s.line.lineFault ∧
    (extensionExpired s).line.ownCompleted = s.line.ownCompleted ∧ (extensionExpired s).cmd.queue = s.cmd.queue ∧
    (extensionExpired s).cmd.timeTag = s.cmd.timeTag ∧ (extensionExpired s).recs.gap = s.recs.gap ∧
    (extensionExpired s).recs.serial = s.recs.serial ∧ (extensionExpired s).recs.pressure = s.recs.pressure ∧
    (extensionExpired s).recs.freePages = s.recs.freePages ∧ (extensionExpired s).seq.table = s.seq.table ∧
    (extensionExpired s).seq.digest = s.seq.digest ∧ (extensionExpired s).scan.timer = s.scan.timer ∧
    (extensionExpired s).scan.runLength = s.scan.runLength ∧ (extensionExpired s).scan.runTaken = s.scan.runTaken ∧
    (extensionExpired s).scan.zero = s.scan.zero ∧ (extensionExpired s).scan.holder = s.scan.holder ∧
    (extensionExpired s).servo.timer = s.servo.timer ∧ (extensionExpired s).servo.lam = s.servo.lam ∧
    (extensionExpired s).servo.acc = s.servo.acc ∧ (extensionExpired s).servo.integral = s.servo.integral ∧
    (extensionExpired s).servo.drive = s.servo.drive ∧ (extensionExpired s).servo.fSet = s.servo.fSet ∧
    (extensionExpired s).servo.fMeas = s.servo.fMeas ∧ (extensionExpired s).servo.error = s.servo.error ∧
    (extensionExpired s).servo.lagging = s.servo.lagging ∧ (extensionExpired s).servo.tripCount = s.servo.tripCount ∧
    (extensionExpired s).servo.overLimit = s.servo.overLimit ∧
    (extensionExpired s).servo.reacquire = s.servo.reacquire ∧
    (extensionExpired s).servo.loadZero = s.servo.loadZero ∧ (extensionExpired s).act.chargeList = s.act.chargeList ∧
    (extensionExpired s).act.lockRef = s.act.lockRef ∧ (extensionExpired s).act.lockRefDue = s.act.lockRefDue ∧
    (extensionExpired s).pins.pressOk = s.pins.pressOk ∧ (extensionExpired s).pins.lockEngaged = s.pins.lockEngaged ∧
    (extensionExpired s).pins.estop = s.pins.estop ∧ (extensionExpired s).pins.loadCode = s.pins.loadCode ∧
    (extensionExpired s).pins.bridgeCodes = s.pins.bridgeCodes ∧
    (extensionExpired s).pins.loopReadings = s.pins.loopReadings ∧
    (extensionExpired s).alarm.causes = s.alarm.causes ∧
    (extensionExpired s).alarm.latch = latchMax s.alarm.latch s.cfg.noSettleAction := by
  unfold extensionExpired; simp only []; split <;> simp

@[simp] theorem startExtension_frame (left : Nat) (s : State) :
    (startExtension left s).pending = s.pending ∧ (startExtension left s).age = s.age ∧
    (startExtension left s).loader = s.loader ∧ (startExtension left s).cfg = s.cfg ∧
    (startExtension left s).peers = s.peers ∧ (startExtension left s).crack = s.crack ∧
    (startExtension left s).line.bitRate = s.line.bitRate ∧
    (startExtension left s).line.statusPeriod = s.line.statusPeriod ∧
    (startExtension left s).line.loadGroup = s.line.loadGroup ∧
    (startExtension left s).line.statusTimer = s.line.statusTimer ∧
    (startExtension left s).line.chargeSlot = s.line.chargeSlot ∧
    (startExtension left s).line.statusSlot = s.line.statusSlot ∧ txClass (startExtension left s) = txClass s ∧
    (startExtension left s).line.faultCount = s.line.faultCount ∧
    (startExtension left s).line.lineFault = s.line.lineFault ∧
    (startExtension left s).line.ownCompleted = s.line.ownCompleted ∧
    (startExtension left s).cmd.queue = s.cmd.queue ∧ (startExtension left s).cmd.timeTag = s.cmd.timeTag ∧
    (startExtension left s).recs.gap = s.recs.gap ∧ (startExtension left s).recs.serial = s.recs.serial ∧
    (startExtension left s).recs.pressure = s.recs.pressure ∧
    (startExtension left s).recs.freePages = s.recs.freePages ∧ (startExtension left s).seq.table = s.seq.table ∧
    (startExtension left s).seq.digest = s.seq.digest ∧ (startExtension left s).scan.timer = s.scan.timer ∧
    (startExtension left s).scan.runLength = s.scan.runLength ∧
    (startExtension left s).scan.runTaken = s.scan.runTaken ∧ (startExtension left s).scan.zero = s.scan.zero ∧
    (startExtension left s).scan.holder = s.scan.holder ∧ (startExtension left s).servo.timer = s.servo.timer ∧
    (startExtension left s).servo.lam = s.servo.lam ∧ (startExtension left s).servo.acc = s.servo.acc ∧
    (startExtension left s).servo.integral = s.servo.integral ∧ (startExtension left s).servo.drive = s.servo.drive ∧
    (startExtension left s).servo.fSet = s.servo.fSet ∧ (startExtension left s).servo.fMeas = s.servo.fMeas ∧
    (startExtension left s).servo.error = s.servo.error ∧ (startExtension left s).servo.lagging = s.servo.lagging ∧
    (startExtension left s).servo.tripCount = s.servo.tripCount ∧
    (startExtension left s).servo.overLimit = s.servo.overLimit ∧
    (startExtension left s).servo.reacquire = s.servo.reacquire ∧
    (startExtension left s).servo.loadZero = s.servo.loadZero ∧
    (startExtension left s).act.chargeList = s.act.chargeList ∧ (startExtension left s).act.lockRef = s.act.lockRef ∧
    (startExtension left s).act.lockRefDue = s.act.lockRefDue ∧
    (startExtension left s).pins.pressOk = s.pins.pressOk ∧
    (startExtension left s).pins.lockEngaged = s.pins.lockEngaged ∧
    (startExtension left s).pins.estop = s.pins.estop ∧ (startExtension left s).pins.loadCode = s.pins.loadCode ∧
    (startExtension left s).pins.bridgeCodes = s.pins.bridgeCodes ∧
    (startExtension left s).pins.loopReadings = s.pins.loopReadings ∧
    (startExtension left s).alarm.causes = s.alarm.causes := by
  unfold startExtension; split <;> simp

@[simp] theorem judgeSettle_frame (s : State) :
    (judgeSettle s).pending = s.pending ∧ (judgeSettle s).age = s.age ∧ (judgeSettle s).loader = s.loader ∧
    (judgeSettle s).cfg = s.cfg ∧ (judgeSettle s).peers = s.peers ∧ (judgeSettle s).crack = s.crack ∧
    (judgeSettle s).line.bitRate = s.line.bitRate ∧ (judgeSettle s).line.statusPeriod = s.line.statusPeriod ∧
    (judgeSettle s).line.loadGroup = s.line.loadGroup ∧ (judgeSettle s).line.statusTimer = s.line.statusTimer ∧
    (judgeSettle s).line.chargeSlot = s.line.chargeSlot ∧ (judgeSettle s).line.statusSlot = s.line.statusSlot ∧
    txClass (judgeSettle s) = txClass s ∧ (judgeSettle s).line.faultCount = s.line.faultCount ∧
    (judgeSettle s).line.lineFault = s.line.lineFault ∧ (judgeSettle s).line.ownCompleted = s.line.ownCompleted ∧
    (judgeSettle s).cmd.queue = s.cmd.queue ∧ (judgeSettle s).cmd.timeTag = s.cmd.timeTag ∧
    (judgeSettle s).recs.gap = s.recs.gap ∧ (judgeSettle s).recs.serial = s.recs.serial ∧
    (judgeSettle s).recs.pressure = s.recs.pressure ∧ (judgeSettle s).recs.freePages = s.recs.freePages ∧
    (judgeSettle s).seq.table = s.seq.table ∧ (judgeSettle s).seq.digest = s.seq.digest ∧
    (judgeSettle s).scan.timer = s.scan.timer ∧ (judgeSettle s).scan.runLength = s.scan.runLength ∧
    (judgeSettle s).scan.runTaken = s.scan.runTaken ∧ (judgeSettle s).scan.zero = s.scan.zero ∧
    (judgeSettle s).scan.holder = s.scan.holder ∧ (judgeSettle s).servo.timer = s.servo.timer ∧
    (judgeSettle s).servo.lam = s.servo.lam ∧ (judgeSettle s).servo.acc = s.servo.acc ∧
    (judgeSettle s).servo.integral = s.servo.integral ∧ (judgeSettle s).servo.drive = s.servo.drive ∧
    (judgeSettle s).servo.fSet = s.servo.fSet ∧ (judgeSettle s).servo.fMeas = s.servo.fMeas ∧
    (judgeSettle s).servo.error = s.servo.error ∧ (judgeSettle s).servo.lagging = s.servo.lagging ∧
    (judgeSettle s).servo.tripCount = s.servo.tripCount ∧ (judgeSettle s).servo.overLimit = s.servo.overLimit ∧
    (judgeSettle s).servo.reacquire = s.servo.reacquire ∧ (judgeSettle s).servo.loadZero = s.servo.loadZero ∧
    (judgeSettle s).act.chargeList = s.act.chargeList ∧ (judgeSettle s).act.lockRef = s.act.lockRef ∧
    (judgeSettle s).act.lockRefDue = s.act.lockRefDue ∧ (judgeSettle s).pins.pressOk = s.pins.pressOk ∧
    (judgeSettle s).pins.lockEngaged = s.pins.lockEngaged ∧ (judgeSettle s).pins.estop = s.pins.estop ∧
    (judgeSettle s).pins.loadCode = s.pins.loadCode ∧ (judgeSettle s).pins.bridgeCodes = s.pins.bridgeCodes ∧
    (judgeSettle s).pins.loopReadings = s.pins.loopReadings ∧ (judgeSettle s).alarm.causes = s.alarm.causes := by
  unfold judgeSettle; simp only []; split <;> simp

@[simp] theorem startHold_frame (left : Nat) (s : State) :
    (startHold left s).pending = s.pending ∧ (startHold left s).age = s.age ∧ (startHold left s).loader = s.loader ∧
    (startHold left s).cfg = s.cfg ∧ (startHold left s).peers = s.peers ∧ (startHold left s).crack = s.crack ∧
    (startHold left s).line.bitRate = s.line.bitRate ∧ (startHold left s).line.statusPeriod = s.line.statusPeriod ∧
    (startHold left s).line.loadGroup = s.line.loadGroup ∧ (startHold left s).line.statusTimer = s.line.statusTimer ∧
    (startHold left s).line.chargeSlot = s.line.chargeSlot ∧ (startHold left s).line.statusSlot = s.line.statusSlot ∧
    txClass (startHold left s) = txClass s ∧ (startHold left s).line.faultCount = s.line.faultCount ∧
    (startHold left s).line.lineFault = s.line.lineFault ∧
    (startHold left s).line.ownCompleted = s.line.ownCompleted ∧ (startHold left s).cmd.queue = s.cmd.queue ∧
    (startHold left s).cmd.timeTag = s.cmd.timeTag ∧ (startHold left s).recs.gap = s.recs.gap ∧
    (startHold left s).recs.serial = s.recs.serial ∧ (startHold left s).recs.pressure = s.recs.pressure ∧
    (startHold left s).recs.freePages = s.recs.freePages ∧ (startHold left s).seq.table = s.seq.table ∧
    (startHold left s).seq.digest = s.seq.digest ∧ (startHold left s).scan.timer = s.scan.timer ∧
    (startHold left s).scan.runLength = s.scan.runLength ∧ (startHold left s).scan.runTaken = s.scan.runTaken ∧
    (startHold left s).scan.zero = s.scan.zero ∧ (startHold left s).scan.holder = s.scan.holder ∧
    (startHold left s).servo.timer = s.servo.timer ∧ (startHold left s).servo.lam = s.servo.lam ∧
    (startHold left s).servo.acc = s.servo.acc ∧ (startHold left s).servo.integral = s.servo.integral ∧
    (startHold left s).servo.drive = s.servo.drive ∧ (startHold left s).servo.fSet = s.servo.fSet ∧
    (startHold left s).servo.fMeas = s.servo.fMeas ∧ (startHold left s).servo.error = s.servo.error ∧
    (startHold left s).servo.lagging = s.servo.lagging ∧ (startHold left s).servo.tripCount = s.servo.tripCount ∧
    (startHold left s).servo.overLimit = s.servo.overLimit ∧ (startHold left s).servo.reacquire = s.servo.reacquire ∧
    (startHold left s).servo.loadZero = s.servo.loadZero ∧ (startHold left s).act.chargeList = s.act.chargeList ∧
    (startHold left s).act.lockRef = s.act.lockRef ∧ (startHold left s).act.lockRefDue = s.act.lockRefDue ∧
    (startHold left s).pins.pressOk = s.pins.pressOk ∧ (startHold left s).pins.lockEngaged = s.pins.lockEngaged ∧
    (startHold left s).pins.estop = s.pins.estop ∧ (startHold left s).pins.loadCode = s.pins.loadCode ∧
    (startHold left s).pins.bridgeCodes = s.pins.bridgeCodes ∧
    (startHold left s).pins.loopReadings = s.pins.loopReadings ∧
    (startHold left s).alarm.causes = s.alarm.causes := by
  unfold startHold; split <;> simp

@[simp] theorem startDwell_frame (s : State) :
    (startDwell s).pending = s.pending ∧ (startDwell s).age = s.age ∧ (startDwell s).loader = s.loader ∧
    (startDwell s).cfg = s.cfg ∧ (startDwell s).peers = s.peers ∧ (startDwell s).crack = s.crack ∧
    (startDwell s).line.bitRate = s.line.bitRate ∧ (startDwell s).line.statusPeriod = s.line.statusPeriod ∧
    (startDwell s).line.loadGroup = s.line.loadGroup ∧ (startDwell s).line.statusTimer = s.line.statusTimer ∧
    (startDwell s).line.chargeSlot = s.line.chargeSlot ∧ (startDwell s).line.statusSlot = s.line.statusSlot ∧
    txClass (startDwell s) = txClass s ∧ (startDwell s).line.faultCount = s.line.faultCount ∧
    (startDwell s).line.lineFault = s.line.lineFault ∧ (startDwell s).line.ownCompleted = s.line.ownCompleted ∧
    (startDwell s).cmd.queue = s.cmd.queue ∧ (startDwell s).cmd.timeTag = s.cmd.timeTag ∧
    (startDwell s).recs.gap = s.recs.gap ∧ (startDwell s).recs.serial = s.recs.serial ∧
    (startDwell s).recs.pressure = s.recs.pressure ∧ (startDwell s).recs.freePages = s.recs.freePages ∧
    (startDwell s).seq.table = s.seq.table ∧ (startDwell s).seq.digest = s.seq.digest ∧
    (startDwell s).scan.timer = s.scan.timer ∧ (startDwell s).scan.runLength = s.scan.runLength ∧
    (startDwell s).scan.runTaken = s.scan.runTaken ∧ (startDwell s).scan.zero = s.scan.zero ∧
    (startDwell s).scan.holder = s.scan.holder ∧ (startDwell s).servo.timer = s.servo.timer ∧
    (startDwell s).servo.lam = s.servo.lam ∧ (startDwell s).servo.acc = s.servo.acc ∧
    (startDwell s).servo.integral = s.servo.integral ∧ (startDwell s).servo.drive = s.servo.drive ∧
    (startDwell s).servo.fSet = s.servo.fSet ∧ (startDwell s).servo.fMeas = s.servo.fMeas ∧
    (startDwell s).servo.error = s.servo.error ∧ (startDwell s).servo.lagging = s.servo.lagging ∧
    (startDwell s).servo.tripCount = s.servo.tripCount ∧ (startDwell s).servo.overLimit = s.servo.overLimit ∧
    (startDwell s).servo.reacquire = s.servo.reacquire ∧ (startDwell s).servo.loadZero = s.servo.loadZero ∧
    (startDwell s).act.chargeList = s.act.chargeList ∧ (startDwell s).act.lockRef = s.act.lockRef ∧
    (startDwell s).act.lockRefDue = s.act.lockRefDue ∧ (startDwell s).pins.pressOk = s.pins.pressOk ∧
    (startDwell s).pins.lockEngaged = s.pins.lockEngaged ∧ (startDwell s).pins.estop = s.pins.estop ∧
    (startDwell s).pins.loadCode = s.pins.loadCode ∧ (startDwell s).pins.bridgeCodes = s.pins.bridgeCodes ∧
    (startDwell s).pins.loopReadings = s.pins.loopReadings ∧ (startDwell s).alarm.causes = s.alarm.causes := by
  simp [startDwell]

@[simp] theorem sequencerOnSettled_frame (s : State) :
    (sequencerOnSettled s).pending = s.pending ∧ (sequencerOnSettled s).age = s.age ∧
    (sequencerOnSettled s).loader = s.loader ∧ (sequencerOnSettled s).cfg = s.cfg ∧
    (sequencerOnSettled s).pins = s.pins ∧ (sequencerOnSettled s).peers = s.peers ∧
    (sequencerOnSettled s).servo = s.servo ∧ (sequencerOnSettled s).act = s.act ∧
    (sequencerOnSettled s).crack = s.crack ∧ (sequencerOnSettled s).alarm = s.alarm ∧
    (sequencerOnSettled s).cmd = s.cmd ∧ (sequencerOnSettled s).line.bitRate = s.line.bitRate ∧
    (sequencerOnSettled s).line.statusPeriod = s.line.statusPeriod ∧
    (sequencerOnSettled s).line.loadGroup = s.line.loadGroup ∧
    (sequencerOnSettled s).line.statusTimer = s.line.statusTimer ∧
    (sequencerOnSettled s).line.chargeSlot = s.line.chargeSlot ∧
    (sequencerOnSettled s).line.statusSlot = s.line.statusSlot ∧ txClass (sequencerOnSettled s) = txClass s ∧
    (sequencerOnSettled s).line.faultCount = s.line.faultCount ∧
    (sequencerOnSettled s).line.lineFault = s.line.lineFault ∧
    (sequencerOnSettled s).line.ownCompleted = s.line.ownCompleted ∧
    (sequencerOnSettled s).line.alarmQ = s.line.alarmQ ∧ (sequencerOnSettled s).line.shuntSlot = s.line.shuntSlot ∧
    (sequencerOnSettled s).line.shuntDoneBehind = s.line.shuntDoneBehind ∧
    (sequencerOnSettled s).recs.capture = s.recs.capture ∧ (sequencerOnSettled s).recs.scansLeft = s.recs.scansLeft ∧
    (sequencerOnSettled s).recs.captureKind = s.recs.captureKind ∧ (sequencerOnSettled s).recs.gap = s.recs.gap ∧
    (sequencerOnSettled s).recs.serial = s.recs.serial ∧ (sequencerOnSettled s).recs.pressure = s.recs.pressure ∧
    (sequencerOnSettled s).recs.freePages = s.recs.freePages ∧ (sequencerOnSettled s).seq.table = s.seq.table ∧
    (sequencerOnSettled s).seq.digest = s.seq.digest ∧ (sequencerOnSettled s).scan.timer = s.scan.timer ∧
    (sequencerOnSettled s).scan.runLength = s.scan.runLength ∧
    (sequencerOnSettled s).scan.runTaken = s.scan.runTaken ∧ (sequencerOnSettled s).scan.zero = s.scan.zero ∧
    (sequencerOnSettled s).scan.shunt = s.scan.shunt ∧ (sequencerOnSettled s).scan.shuntScans = s.scan.shuntScans ∧
    (sequencerOnSettled s).scan.claimHeld = s.scan.claimHeld ∧
    (sequencerOnSettled s).scan.shuntActive = s.scan.shuntActive ∧
    (sequencerOnSettled s).scan.holder = s.scan.holder := by
  unfold sequencerOnSettled; split <;> (try split) <;> simp

@[simp] theorem unloadingEnds_frame (s : State) :
    (unloadingEnds s).pending = s.pending ∧ (unloadingEnds s).age = s.age ∧ (unloadingEnds s).loader = s.loader ∧
    (unloadingEnds s).cfg = s.cfg ∧ (unloadingEnds s).pins = s.pins ∧ (unloadingEnds s).peers = s.peers ∧
    (unloadingEnds s).servo = s.servo ∧ (unloadingEnds s).act = s.act ∧ (unloadingEnds s).scan = s.scan ∧
    (unloadingEnds s).crack = s.crack ∧ (unloadingEnds s).alarm = s.alarm ∧ (unloadingEnds s).cmd = s.cmd ∧
    (unloadingEnds s).line.bitRate = s.line.bitRate ∧ (unloadingEnds s).line.statusPeriod = s.line.statusPeriod ∧
    (unloadingEnds s).line.loadGroup = s.line.loadGroup ∧ (unloadingEnds s).line.statusTimer = s.line.statusTimer ∧
    (unloadingEnds s).line.chargeSlot = s.line.chargeSlot ∧ (unloadingEnds s).line.statusSlot = s.line.statusSlot ∧
    txClass (unloadingEnds s) = txClass s ∧ (unloadingEnds s).line.faultCount = s.line.faultCount ∧
    (unloadingEnds s).line.lineFault = s.line.lineFault ∧ (unloadingEnds s).line.ownCompleted = s.line.ownCompleted ∧
    (unloadingEnds s).line.alarmQ = s.line.alarmQ ∧ (unloadingEnds s).line.shuntSlot = s.line.shuntSlot ∧
    (unloadingEnds s).line.shuntDoneBehind = s.line.shuntDoneBehind ∧
    (unloadingEnds s).recs.capture = s.recs.capture ∧ (unloadingEnds s).recs.scansLeft = s.recs.scansLeft ∧
    (unloadingEnds s).recs.captureKind = s.recs.captureKind ∧ (unloadingEnds s).recs.gap = s.recs.gap ∧
    (unloadingEnds s).recs.serial = s.recs.serial ∧ (unloadingEnds s).recs.pressure = s.recs.pressure ∧
    (unloadingEnds s).recs.freePages = s.recs.freePages ∧ (unloadingEnds s).seq.table = s.seq.table ∧
    (unloadingEnds s).seq.digest = s.seq.digest ∧ (unloadingEnds s).seq.state = .idle ∧
    (unloadingEnds s).seq.phase = none ∧ (unloadingEnds s).seq.step = 0 ∧ (unloadingEnds s).seq.segment = 0 ∧
    (unloadingEnds s).seq.work = s.seq.work ∧ (unloadingEnds s).seq.hold = s.seq.hold ∧
    (unloadingEnds s).seq.extension = s.seq.extension := by
  simp [unloadingEnds]

@[simp] theorem sequencerOnLevel_frame (s : State) :
    (sequencerOnLevel s).pending = s.pending ∧ (sequencerOnLevel s).age = s.age ∧
    (sequencerOnLevel s).loader = s.loader ∧ (sequencerOnLevel s).cfg = s.cfg ∧
    (sequencerOnLevel s).peers = s.peers ∧ (sequencerOnLevel s).crack = s.crack ∧
    (sequencerOnLevel s).line.bitRate = s.line.bitRate ∧
    (sequencerOnLevel s).line.statusPeriod = s.line.statusPeriod ∧
    (sequencerOnLevel s).line.loadGroup = s.line.loadGroup ∧
    (sequencerOnLevel s).line.statusTimer = s.line.statusTimer ∧
    (sequencerOnLevel s).line.chargeSlot = s.line.chargeSlot ∧
    (sequencerOnLevel s).line.statusSlot = s.line.statusSlot ∧ txClass (sequencerOnLevel s) = txClass s ∧
    (sequencerOnLevel s).line.faultCount = s.line.faultCount ∧
    (sequencerOnLevel s).line.lineFault = s.line.lineFault ∧
    (sequencerOnLevel s).line.ownCompleted = s.line.ownCompleted ∧ (sequencerOnLevel s).cmd.queue = s.cmd.queue ∧
    (sequencerOnLevel s).cmd.timeTag = s.cmd.timeTag ∧ (sequencerOnLevel s).recs.gap = s.recs.gap ∧
    (sequencerOnLevel s).recs.serial = s.recs.serial ∧ (sequencerOnLevel s).recs.pressure = s.recs.pressure ∧
    (sequencerOnLevel s).recs.freePages = s.recs.freePages ∧ (sequencerOnLevel s).seq.table = s.seq.table ∧
    (sequencerOnLevel s).seq.digest = s.seq.digest ∧ (sequencerOnLevel s).scan.timer = s.scan.timer ∧
    (sequencerOnLevel s).scan.runLength = s.scan.runLength ∧ (sequencerOnLevel s).scan.runTaken = s.scan.runTaken ∧
    (sequencerOnLevel s).scan.zero = s.scan.zero ∧ (sequencerOnLevel s).scan.holder = s.scan.holder ∧
    (sequencerOnLevel s).servo.timer = s.servo.timer ∧ (sequencerOnLevel s).servo.lam = s.servo.lam ∧
    (sequencerOnLevel s).servo.acc = s.servo.acc ∧ (sequencerOnLevel s).servo.integral = s.servo.integral ∧
    (sequencerOnLevel s).servo.drive = s.servo.drive ∧ (sequencerOnLevel s).servo.fSet = s.servo.fSet ∧
    (sequencerOnLevel s).servo.fMeas = s.servo.fMeas ∧ (sequencerOnLevel s).servo.error = s.servo.error ∧
    (sequencerOnLevel s).servo.lagging = s.servo.lagging ∧ (sequencerOnLevel s).servo.tripCount = s.servo.tripCount ∧
    (sequencerOnLevel s).servo.overLimit = s.servo.overLimit ∧
    (sequencerOnLevel s).servo.reacquire = s.servo.reacquire ∧
    (sequencerOnLevel s).servo.loadZero = s.servo.loadZero ∧ (sequencerOnLevel s).act.chargeList = s.act.chargeList ∧
    (sequencerOnLevel s).act.lockRef = s.act.lockRef ∧ (sequencerOnLevel s).act.lockRefDue = s.act.lockRefDue ∧
    (sequencerOnLevel s).pins.pressOk = s.pins.pressOk ∧ (sequencerOnLevel s).pins.lockEngaged = s.pins.lockEngaged ∧
    (sequencerOnLevel s).pins.estop = s.pins.estop ∧ (sequencerOnLevel s).pins.loadCode = s.pins.loadCode ∧
    (sequencerOnLevel s).pins.bridgeCodes = s.pins.bridgeCodes ∧
    (sequencerOnLevel s).pins.loopReadings = s.pins.loopReadings ∧
    (sequencerOnLevel s).alarm.causes = s.alarm.causes := by
  unfold sequencerOnLevel; split <;> (try split) <;> simp

@[simp] theorem startRun_frame (s : State) :
    (startRun s).pending = s.pending ∧ (startRun s).age = s.age ∧ (startRun s).loader = s.loader ∧
    (startRun s).cfg = s.cfg ∧ (startRun s).pins = s.pins ∧ (startRun s).peers = s.peers ∧
    (startRun s).servo = s.servo ∧ (startRun s).act = s.act ∧ (startRun s).scan = s.scan ∧
    (startRun s).crack = s.crack ∧ (startRun s).alarm = s.alarm ∧ (startRun s).cmd = s.cmd ∧
    (startRun s).line.bitRate = s.line.bitRate ∧ (startRun s).line.statusPeriod = s.line.statusPeriod ∧
    (startRun s).line.loadGroup = s.line.loadGroup ∧ (startRun s).line.statusTimer = s.line.statusTimer ∧
    (startRun s).line.chargeSlot = s.line.chargeSlot ∧ (startRun s).line.statusSlot = s.line.statusSlot ∧
    txClass (startRun s) = txClass s ∧ (startRun s).line.faultCount = s.line.faultCount ∧
    (startRun s).line.lineFault = s.line.lineFault ∧ (startRun s).line.ownCompleted = s.line.ownCompleted ∧
    (startRun s).line.alarmQ = s.line.alarmQ ∧ (startRun s).line.shuntSlot = s.line.shuntSlot ∧
    (startRun s).line.shuntDoneBehind = s.line.shuntDoneBehind ∧ (startRun s).recs.capture = s.recs.capture ∧
    (startRun s).recs.scansLeft = s.recs.scansLeft ∧ (startRun s).recs.captureKind = s.recs.captureKind ∧
    (startRun s).recs.gap = s.recs.gap ∧ (startRun s).recs.serial = s.recs.serial ∧
    (startRun s).recs.pressure = s.recs.pressure ∧ (startRun s).recs.freePages = s.recs.freePages ∧
    (startRun s).seq.table = s.seq.table ∧ (startRun s).seq.digest = s.seq.digest := by
  simp [startRun]

@[simp] theorem resumeDwell_frame (s : State) :
    (resumeDwell s).pending = s.pending ∧ (resumeDwell s).age = s.age ∧ (resumeDwell s).loader = s.loader ∧
    (resumeDwell s).cfg = s.cfg ∧ (resumeDwell s).peers = s.peers ∧ (resumeDwell s).crack = s.crack ∧
    (resumeDwell s).line.bitRate = s.line.bitRate ∧ (resumeDwell s).line.statusPeriod = s.line.statusPeriod ∧
    (resumeDwell s).line.loadGroup = s.line.loadGroup ∧ (resumeDwell s).line.statusTimer = s.line.statusTimer ∧
    (resumeDwell s).line.chargeSlot = s.line.chargeSlot ∧ (resumeDwell s).line.statusSlot = s.line.statusSlot ∧
    txClass (resumeDwell s) = txClass s ∧ (resumeDwell s).line.faultCount = s.line.faultCount ∧
    (resumeDwell s).line.lineFault = s.line.lineFault ∧ (resumeDwell s).line.ownCompleted = s.line.ownCompleted ∧
    (resumeDwell s).cmd.queue = s.cmd.queue ∧ (resumeDwell s).cmd.timeTag = s.cmd.timeTag ∧
    (resumeDwell s).recs.gap = s.recs.gap ∧ (resumeDwell s).recs.serial = s.recs.serial ∧
    (resumeDwell s).recs.pressure = s.recs.pressure ∧ (resumeDwell s).recs.freePages = s.recs.freePages ∧
    (resumeDwell s).seq.table = s.seq.table ∧ (resumeDwell s).seq.digest = s.seq.digest ∧
    (resumeDwell s).scan.timer = s.scan.timer ∧ (resumeDwell s).scan.runLength = s.scan.runLength ∧
    (resumeDwell s).scan.runTaken = s.scan.runTaken ∧ (resumeDwell s).scan.zero = s.scan.zero ∧
    (resumeDwell s).scan.holder = s.scan.holder ∧ (resumeDwell s).servo.timer = s.servo.timer ∧
    (resumeDwell s).servo.lam = s.servo.lam ∧ (resumeDwell s).servo.acc = s.servo.acc ∧
    (resumeDwell s).servo.integral = s.servo.integral ∧ (resumeDwell s).servo.drive = s.servo.drive ∧
    (resumeDwell s).servo.fSet = s.servo.fSet ∧ (resumeDwell s).servo.fMeas = s.servo.fMeas ∧
    (resumeDwell s).servo.error = s.servo.error ∧ (resumeDwell s).servo.lagging = s.servo.lagging ∧
    (resumeDwell s).servo.tripCount = s.servo.tripCount ∧ (resumeDwell s).servo.overLimit = s.servo.overLimit ∧
    (resumeDwell s).servo.reacquire = s.servo.reacquire ∧ (resumeDwell s).servo.loadZero = s.servo.loadZero ∧
    (resumeDwell s).act.chargeList = s.act.chargeList ∧ (resumeDwell s).act.lockRef = s.act.lockRef ∧
    (resumeDwell s).act.lockRefDue = s.act.lockRefDue ∧ (resumeDwell s).pins.pressOk = s.pins.pressOk ∧
    (resumeDwell s).pins.lockEngaged = s.pins.lockEngaged ∧ (resumeDwell s).pins.estop = s.pins.estop ∧
    (resumeDwell s).pins.loadCode = s.pins.loadCode ∧ (resumeDwell s).pins.bridgeCodes = s.pins.bridgeCodes ∧
    (resumeDwell s).pins.loopReadings = s.pins.loopReadings ∧ (resumeDwell s).alarm.causes = s.alarm.causes := by
  unfold resumeDwell; split <;> (try split) <;> simp

@[simp] theorem sequencerOnResume_frame (s : State) :
    (sequencerOnResume s).pending = s.pending ∧ (sequencerOnResume s).age = s.age ∧
    (sequencerOnResume s).loader = s.loader ∧ (sequencerOnResume s).cfg = s.cfg ∧
    (sequencerOnResume s).peers = s.peers ∧ (sequencerOnResume s).crack = s.crack ∧
    (sequencerOnResume s).line.bitRate = s.line.bitRate ∧
    (sequencerOnResume s).line.statusPeriod = s.line.statusPeriod ∧
    (sequencerOnResume s).line.loadGroup = s.line.loadGroup ∧
    (sequencerOnResume s).line.statusTimer = s.line.statusTimer ∧
    (sequencerOnResume s).line.chargeSlot = s.line.chargeSlot ∧
    (sequencerOnResume s).line.statusSlot = s.line.statusSlot ∧ txClass (sequencerOnResume s) = txClass s ∧
    (sequencerOnResume s).line.faultCount = s.line.faultCount ∧
    (sequencerOnResume s).line.lineFault = s.line.lineFault ∧
    (sequencerOnResume s).line.ownCompleted = s.line.ownCompleted ∧ (sequencerOnResume s).cmd.queue = s.cmd.queue ∧
    (sequencerOnResume s).cmd.timeTag = s.cmd.timeTag ∧ (sequencerOnResume s).recs.gap = s.recs.gap ∧
    (sequencerOnResume s).recs.serial = s.recs.serial ∧ (sequencerOnResume s).recs.pressure = s.recs.pressure ∧
    (sequencerOnResume s).recs.freePages = s.recs.freePages ∧ (sequencerOnResume s).seq.table = s.seq.table ∧
    (sequencerOnResume s).seq.digest = s.seq.digest ∧ (sequencerOnResume s).scan.timer = s.scan.timer ∧
    (sequencerOnResume s).scan.runLength = s.scan.runLength ∧ (sequencerOnResume s).scan.runTaken = s.scan.runTaken ∧
    (sequencerOnResume s).scan.zero = s.scan.zero ∧ (sequencerOnResume s).scan.holder = s.scan.holder ∧
    (sequencerOnResume s).servo.timer = s.servo.timer ∧ (sequencerOnResume s).servo.lam = s.servo.lam ∧
    (sequencerOnResume s).servo.acc = s.servo.acc ∧ (sequencerOnResume s).servo.integral = s.servo.integral ∧
    (sequencerOnResume s).servo.drive = s.servo.drive ∧ (sequencerOnResume s).servo.fSet = s.servo.fSet ∧
    (sequencerOnResume s).servo.fMeas = s.servo.fMeas ∧ (sequencerOnResume s).servo.error = s.servo.error ∧
    (sequencerOnResume s).servo.lagging = s.servo.lagging ∧
    (sequencerOnResume s).servo.tripCount = s.servo.tripCount ∧
    (sequencerOnResume s).servo.overLimit = s.servo.overLimit ∧
    (sequencerOnResume s).servo.reacquire = s.servo.reacquire ∧
    (sequencerOnResume s).servo.loadZero = s.servo.loadZero ∧
    (sequencerOnResume s).act.chargeList = s.act.chargeList ∧ (sequencerOnResume s).act.lockRef = s.act.lockRef ∧
    (sequencerOnResume s).act.lockRefDue = s.act.lockRefDue ∧ (sequencerOnResume s).pins.pressOk = s.pins.pressOk ∧
    (sequencerOnResume s).pins.lockEngaged = s.pins.lockEngaged ∧ (sequencerOnResume s).pins.estop = s.pins.estop ∧
    (sequencerOnResume s).pins.loadCode = s.pins.loadCode ∧
    (sequencerOnResume s).pins.bridgeCodes = s.pins.bridgeCodes ∧
    (sequencerOnResume s).pins.loopReadings = s.pins.loopReadings ∧
    (sequencerOnResume s).alarm.causes = s.alarm.causes := by
  unfold sequencerOnResume; split
  · simp only []; split <;> simp
  · simp

/-! ### Actuator unit -/

@[simp] theorem enterState_frame (st : ActState) (iso dump lockCmd : Bool) (s : State) :
    (enterState st iso dump lockCmd s).pending = s.pending ∧ (enterState st iso dump lockCmd s).age = s.age ∧
    (enterState st iso dump lockCmd s).loader = s.loader ∧ (enterState st iso dump lockCmd s).cfg = s.cfg ∧
    (enterState st iso dump lockCmd s).peers = s.peers ∧ (enterState st iso dump lockCmd s).servo = s.servo ∧
    (enterState st iso dump lockCmd s).crack = s.crack ∧ (enterState st iso dump lockCmd s).alarm = s.alarm ∧
    (enterState st iso dump lockCmd s).cmd = s.cmd ∧
    (enterState st iso dump lockCmd s).line.bitRate = s.line.bitRate ∧
    (enterState st iso dump lockCmd s).line.statusPeriod = s.line.statusPeriod ∧
    (enterState st iso dump lockCmd s).line.loadGroup = s.line.loadGroup ∧
    (enterState st iso dump lockCmd s).line.statusTimer = s.line.statusTimer ∧
    (enterState st iso dump lockCmd s).line.chargeSlot = s.line.chargeSlot ∧
    (enterState st iso dump lockCmd s).line.statusSlot = s.line.statusSlot ∧
    txClass (enterState st iso dump lockCmd s) = txClass s ∧
    (enterState st iso dump lockCmd s).line.faultCount = s.line.faultCount ∧
    (enterState st iso dump lockCmd s).line.lineFault = s.line.lineFault ∧
    (enterState st iso dump lockCmd s).line.ownCompleted = s.line.ownCompleted ∧
    (enterState st iso dump lockCmd s).line.alarmQ = s.line.alarmQ ∧
    (enterState st iso dump lockCmd s).line.shuntSlot = s.line.shuntSlot ∧
    (enterState st iso dump lockCmd s).line.shuntDoneBehind = s.line.shuntDoneBehind ∧
    (enterState st iso dump lockCmd s).recs.capture = s.recs.capture ∧
    (enterState st iso dump lockCmd s).recs.scansLeft = s.recs.scansLeft ∧
    (enterState st iso dump lockCmd s).recs.captureKind = s.recs.captureKind ∧
    (enterState st iso dump lockCmd s).recs.gap = s.recs.gap ∧
    (enterState st iso dump lockCmd s).recs.serial = s.recs.serial ∧
    (enterState st iso dump lockCmd s).recs.pressure = s.recs.pressure ∧
    (enterState st iso dump lockCmd s).recs.freePages = s.recs.freePages ∧
    (enterState st iso dump lockCmd s).seq.table = s.seq.table ∧
    (enterState st iso dump lockCmd s).seq.digest = s.seq.digest ∧
    (enterState st iso dump lockCmd s).scan.timer = s.scan.timer ∧
    (enterState st iso dump lockCmd s).scan.runLength = s.scan.runLength ∧
    (enterState st iso dump lockCmd s).scan.runTaken = s.scan.runTaken ∧
    (enterState st iso dump lockCmd s).scan.zero = s.scan.zero ∧
    (enterState st iso dump lockCmd s).scan.shunt = s.scan.shunt ∧
    (enterState st iso dump lockCmd s).scan.shuntScans = s.scan.shuntScans ∧
    (enterState st iso dump lockCmd s).scan.claimHeld = s.scan.claimHeld ∧
    (enterState st iso dump lockCmd s).scan.shuntActive = s.scan.shuntActive ∧
    (enterState st iso dump lockCmd s).scan.holder = s.scan.holder ∧
    (enterState st iso dump lockCmd s).act.chargeList = s.act.chargeList ∧
    (enterState st iso dump lockCmd s).act.lockRef = s.act.lockRef ∧
    (enterState st iso dump lockCmd s).act.lockRefDue = s.act.lockRefDue ∧
    (enterState st iso dump lockCmd s).pins.pressOk = s.pins.pressOk ∧
    (enterState st iso dump lockCmd s).pins.lockEngaged = s.pins.lockEngaged ∧
    (enterState st iso dump lockCmd s).pins.estop = s.pins.estop ∧
    (enterState st iso dump lockCmd s).pins.loadCode = s.pins.loadCode ∧
    (enterState st iso dump lockCmd s).pins.bridgeCodes = s.pins.bridgeCodes ∧
    (enterState st iso dump lockCmd s).pins.loopReadings = s.pins.loopReadings ∧
    (enterState st iso dump lockCmd s).pins.shunts = s.pins.shunts ∧
    (enterState st iso dump lockCmd s).act.purpose = s.act.purpose ∧
    (enterState st iso dump lockCmd s).act.ownPlaced = s.act.ownPlaced ∧
    (enterState st iso dump lockCmd s).act.ownHeld = s.act.ownHeld ∧
    (enterState st iso dump lockCmd s).act.chargeTimer = s.act.chargeTimer ∧
    (enterState st iso dump lockCmd s).act.lockTimer = s.act.lockTimer ∧
    (enterState st iso dump lockCmd s).act.deadline = s.act.deadline ∧
    (enterState st iso dump lockCmd s).act.acquisition = s.act.acquisition ∧
    (enterState st iso dump lockCmd s).act.releasing = s.act.releasing ∧
    (enterState st iso dump lockCmd s).act.lockCheck = s.act.lockCheck ∧
    (enterState st iso dump lockCmd s).act.state = st ∧ (enterState st iso dump lockCmd s).pins.iso = iso ∧
    (enterState st iso dump lockCmd s).pins.dump = dump ∧
    (enterState st iso dump lockCmd s).pins.lockCmd = lockCmd := by
  simp [enterState]

@[simp] theorem consultList_frame (s : State) :
    (consultList s).pending = s.pending ∧ (consultList s).age = s.age ∧ (consultList s).loader = s.loader ∧
    (consultList s).cfg = s.cfg ∧ (consultList s).pins = s.pins ∧ (consultList s).line = s.line ∧
    (consultList s).peers = s.peers ∧ (consultList s).seq = s.seq ∧ (consultList s).servo = s.servo ∧
    (consultList s).scan = s.scan ∧ (consultList s).crack = s.crack ∧ (consultList s).alarm = s.alarm ∧
    (consultList s).recs = s.recs ∧ (consultList s).cmd = s.cmd ∧ (consultList s).act.state = s.act.state ∧
    (consultList s).act.lockRef = s.act.lockRef ∧ (consultList s).act.lockRefDue = s.act.lockRefDue ∧
    (consultList s).act.purpose = s.act.purpose ∧ (consultList s).act.ownPlaced = s.act.ownPlaced ∧
    (consultList s).act.ownHeld = s.act.ownHeld ∧ (consultList s).act.chargeTimer = s.act.chargeTimer ∧
    (consultList s).act.lockTimer = s.act.lockTimer ∧ (consultList s).act.deadline = s.act.deadline ∧
    (consultList s).act.acquisition = s.act.acquisition ∧ (consultList s).act.releasing = s.act.releasing ∧
    (consultList s).act.lockCheck = s.act.lockCheck := by
  simp [consultList]

@[simp] theorem appendCharge_frame (station : Nat) (s : State) :
    (appendCharge station s).pending = s.pending ∧ (appendCharge station s).age = s.age ∧
    (appendCharge station s).loader = s.loader ∧ (appendCharge station s).cfg = s.cfg ∧
    (appendCharge station s).pins = s.pins ∧ (appendCharge station s).line = s.line ∧
    (appendCharge station s).peers = s.peers ∧ (appendCharge station s).seq = s.seq ∧
    (appendCharge station s).servo = s.servo ∧ (appendCharge station s).scan = s.scan ∧
    (appendCharge station s).crack = s.crack ∧ (appendCharge station s).alarm = s.alarm ∧
    (appendCharge station s).recs = s.recs ∧ (appendCharge station s).cmd = s.cmd ∧
    (appendCharge station s).act.state = s.act.state ∧ (appendCharge station s).act.lockRef = s.act.lockRef ∧
    (appendCharge station s).act.lockRefDue = s.act.lockRefDue ∧
    (appendCharge station s).act.purpose = s.act.purpose ∧ (appendCharge station s).act.ownPlaced = s.act.ownPlaced ∧
    (appendCharge station s).act.ownHeld = s.act.ownHeld ∧
    (appendCharge station s).act.chargeTimer = s.act.chargeTimer ∧
    (appendCharge station s).act.lockTimer = s.act.lockTimer ∧
    (appendCharge station s).act.deadline = s.act.deadline ∧
    (appendCharge station s).act.acquisition = s.act.acquisition ∧
    (appendCharge station s).act.releasing = s.act.releasing ∧
    (appendCharge station s).act.lockCheck = s.act.lockCheck := by
  simp [appendCharge]

@[simp] theorem placeCharge_frame (s : State) :
    (placeCharge s).pending = s.pending ∧ (placeCharge s).age = s.age ∧ (placeCharge s).loader = s.loader ∧
    (placeCharge s).cfg = s.cfg ∧ (placeCharge s).pins = s.pins ∧ (placeCharge s).peers = s.peers ∧
    (placeCharge s).seq = s.seq ∧ (placeCharge s).servo = s.servo ∧ (placeCharge s).scan = s.scan ∧
    (placeCharge s).crack = s.crack ∧ (placeCharge s).alarm = s.alarm ∧ (placeCharge s).recs = s.recs ∧
    (placeCharge s).cmd = s.cmd ∧ (placeCharge s).line.bitRate = s.line.bitRate ∧
    (placeCharge s).line.statusPeriod = s.line.statusPeriod ∧ (placeCharge s).line.loadGroup = s.line.loadGroup ∧
    (placeCharge s).line.statusTimer = s.line.statusTimer ∧ (placeCharge s).line.statusSlot = s.line.statusSlot ∧
    (placeCharge s).line.tx = s.line.tx ∧ (placeCharge s).line.faultCount = s.line.faultCount ∧
    (placeCharge s).line.lineFault = s.line.lineFault ∧ (placeCharge s).line.ownCompleted = s.line.ownCompleted ∧
    (placeCharge s).line.alarmQ = s.line.alarmQ ∧ (placeCharge s).line.shuntSlot = s.line.shuntSlot ∧
    (placeCharge s).line.shuntDoneBehind = s.line.shuntDoneBehind ∧ (placeCharge s).line.replyQ = s.line.replyQ ∧
    (placeCharge s).line.dataQ = s.line.dataQ ∧ (placeCharge s).line.heldReplies = s.line.heldReplies ∧
    (placeCharge s).line.events = s.line.events ∧ (placeCharge s).line.afterTake = s.line.afterTake ∧
    (placeCharge s).act.state = s.act.state ∧ (placeCharge s).act.purpose = s.act.purpose ∧
    (placeCharge s).act.chargeList = s.act.chargeList ∧ (placeCharge s).act.lockRef = s.act.lockRef ∧
    (placeCharge s).act.lockRefDue = s.act.lockRefDue := by
  unfold placeCharge; split <;> (try split) <;> simp

@[simp] theorem judgeWait_frame (s : State) :
    (judgeWait s).pending = s.pending ∧ (judgeWait s).age = s.age ∧ (judgeWait s).loader = s.loader ∧
    (judgeWait s).cfg = s.cfg ∧ (judgeWait s).pins = s.pins ∧ (judgeWait s).peers = s.peers ∧
    (judgeWait s).seq = s.seq ∧ (judgeWait s).servo = s.servo ∧ (judgeWait s).scan = s.scan ∧
    (judgeWait s).crack = s.crack ∧ (judgeWait s).alarm = s.alarm ∧ (judgeWait s).recs = s.recs ∧
    (judgeWait s).cmd = s.cmd ∧ (judgeWait s).line.bitRate = s.line.bitRate ∧
    (judgeWait s).line.statusPeriod = s.line.statusPeriod ∧ (judgeWait s).line.loadGroup = s.line.loadGroup ∧
    (judgeWait s).line.statusTimer = s.line.statusTimer ∧ (judgeWait s).line.statusSlot = s.line.statusSlot ∧
    (judgeWait s).line.tx = s.line.tx ∧ (judgeWait s).line.faultCount = s.line.faultCount ∧
    (judgeWait s).line.lineFault = s.line.lineFault ∧ (judgeWait s).line.ownCompleted = s.line.ownCompleted ∧
    (judgeWait s).line.alarmQ = s.line.alarmQ ∧ (judgeWait s).line.shuntSlot = s.line.shuntSlot ∧
    (judgeWait s).line.shuntDoneBehind = s.line.shuntDoneBehind ∧ (judgeWait s).line.replyQ = s.line.replyQ ∧
    (judgeWait s).line.dataQ = s.line.dataQ ∧ (judgeWait s).line.heldReplies = s.line.heldReplies ∧
    (judgeWait s).line.events = s.line.events ∧ (judgeWait s).line.afterTake = s.line.afterTake ∧
    (judgeWait s).act.state = s.act.state ∧ (judgeWait s).act.purpose = s.act.purpose ∧
    (judgeWait s).act.lockRef = s.act.lockRef ∧ (judgeWait s).act.lockRefDue = s.act.lockRefDue := by
  unfold judgeWait; simp only []; split <;> simp

@[simp] theorem chargeSlotEmptied_frame (s : State) :
    (chargeSlotEmptied s).pending = s.pending ∧ (chargeSlotEmptied s).age = s.age ∧
    (chargeSlotEmptied s).loader = s.loader ∧ (chargeSlotEmptied s).cfg = s.cfg ∧
    (chargeSlotEmptied s).pins = s.pins ∧ (chargeSlotEmptied s).peers = s.peers ∧ (chargeSlotEmptied s).seq = s.seq ∧
    (chargeSlotEmptied s).servo = s.servo ∧ (chargeSlotEmptied s).scan = s.scan ∧
    (chargeSlotEmptied s).crack = s.crack ∧ (chargeSlotEmptied s).alarm = s.alarm ∧
    (chargeSlotEmptied s).recs = s.recs ∧ (chargeSlotEmptied s).cmd = s.cmd ∧
    (chargeSlotEmptied s).line.bitRate = s.line.bitRate ∧
    (chargeSlotEmptied s).line.statusPeriod = s.line.statusPeriod ∧
    (chargeSlotEmptied s).line.loadGroup = s.line.loadGroup ∧
    (chargeSlotEmptied s).line.statusTimer = s.line.statusTimer ∧
    (chargeSlotEmptied s).line.statusSlot = s.line.statusSlot ∧ (chargeSlotEmptied s).line.tx = s.line.tx ∧
    (chargeSlotEmptied s).line.faultCount = s.line.faultCount ∧
    (chargeSlotEmptied s).line.lineFault = s.line.lineFault ∧
    (chargeSlotEmptied s).line.ownCompleted = s.line.ownCompleted ∧
    (chargeSlotEmptied s).line.alarmQ = s.line.alarmQ ∧ (chargeSlotEmptied s).line.shuntSlot = s.line.shuntSlot ∧
    (chargeSlotEmptied s).line.shuntDoneBehind = s.line.shuntDoneBehind ∧
    (chargeSlotEmptied s).line.replyQ = s.line.replyQ ∧ (chargeSlotEmptied s).line.dataQ = s.line.dataQ ∧
    (chargeSlotEmptied s).line.heldReplies = s.line.heldReplies ∧ (chargeSlotEmptied s).line.events = s.line.events ∧
    (chargeSlotEmptied s).line.afterTake = s.line.afterTake ∧ (chargeSlotEmptied s).act.state = s.act.state ∧
    (chargeSlotEmptied s).act.purpose = s.act.purpose ∧ (chargeSlotEmptied s).act.lockRef = s.act.lockRef ∧
    (chargeSlotEmptied s).act.lockRefDue = s.act.lockRefDue := by
  unfold chargeSlotEmptied; split <;> simp

@[simp] theorem enterWait_frame (p : ChargePurpose) (s : State) :
    (enterWait p s).pending = s.pending ∧ (enterWait p s).age = s.age ∧ (enterWait p s).loader = s.loader ∧
    (enterWait p s).cfg = s.cfg ∧ (enterWait p s).peers = s.peers ∧ (enterWait p s).servo = s.servo ∧
    (enterWait p s).crack = s.crack ∧ (enterWait p s).alarm = s.alarm ∧ (enterWait p s).cmd = s.cmd ∧
    (enterWait p s).line.bitRate = s.line.bitRate ∧ (enterWait p s).line.statusPeriod = s.line.statusPeriod ∧
    (enterWait p s).line.loadGroup = s.line.loadGroup ∧ (enterWait p s).line.statusTimer = s.line.statusTimer ∧
    (enterWait p s).line.statusSlot = s.line.statusSlot ∧ txClass (enterWait p s) = txClass s ∧
    (enterWait p s).line.faultCount = s.line.faultCount ∧ (enterWait p s).line.lineFault = s.line.lineFault ∧
    (enterWait p s).line.ownCompleted = s.line.ownCompleted ∧ (enterWait p s).line.alarmQ = s.line.alarmQ ∧
    (enterWait p s).line.shuntSlot = s.line.shuntSlot ∧
    (enterWait p s).line.shuntDoneBehind = s.line.shuntDoneBehind ∧ (enterWait p s).recs.capture = s.recs.capture ∧
    (enterWait p s).recs.scansLeft = s.recs.scansLeft ∧ (enterWait p s).recs.captureKind = s.recs.captureKind ∧
    (enterWait p s).recs.gap = s.recs.gap ∧ (enterWait p s).recs.serial = s.recs.serial ∧
    (enterWait p s).recs.pressure = s.recs.pressure ∧ (enterWait p s).recs.freePages = s.recs.freePages ∧
    (enterWait p s).seq.table = s.seq.table ∧ (enterWait p s).seq.digest = s.seq.digest ∧
    (enterWait p s).scan.timer = s.scan.timer ∧ (enterWait p s).scan.runLength = s.scan.runLength ∧
    (enterWait p s).scan.runTaken = s.scan.runTaken ∧ (enterWait p s).scan.zero = s.scan.zero ∧
    (enterWait p s).scan.shunt = s.scan.shunt ∧ (enterWait p s).scan.shuntScans = s.scan.shuntScans ∧
    (enterWait p s).scan.claimHeld = s.scan.claimHeld ∧ (enterWait p s).scan.shuntActive = s.scan.shuntActive ∧
    (enterWait p s).scan.holder = s.scan.holder ∧ (enterWait p s).pins.pressOk = s.pins.pressOk ∧
    (enterWait p s).pins.lockEngaged = s.pins.lockEngaged ∧ (enterWait p s).pins.estop = s.pins.estop ∧
    (enterWait p s).pins.loadCode = s.pins.loadCode ∧ (enterWait p s).pins.bridgeCodes = s.pins.bridgeCodes ∧
    (enterWait p s).pins.loopReadings = s.pins.loopReadings ∧ (enterWait p s).pins.shunts = s.pins.shunts ∧
    (enterWait p s).act.state = .waitWindow ∧ (enterWait p s).act.purpose = some p := by
  simp [enterWait]

@[simp] theorem loadLockCheck_frame (s : State) :
    (loadLockCheck s).pending = s.pending ∧ (loadLockCheck s).age = s.age ∧ (loadLockCheck s).loader = s.loader ∧
    (loadLockCheck s).cfg = s.cfg ∧ (loadLockCheck s).pins = s.pins ∧ (loadLockCheck s).line = s.line ∧
    (loadLockCheck s).peers = s.peers ∧ (loadLockCheck s).seq = s.seq ∧ (loadLockCheck s).servo = s.servo ∧
    (loadLockCheck s).scan = s.scan ∧ (loadLockCheck s).crack = s.crack ∧ (loadLockCheck s).alarm = s.alarm ∧
    (loadLockCheck s).recs = s.recs ∧ (loadLockCheck s).cmd = s.cmd ∧ (loadLockCheck s).act.state = s.act.state ∧
    (loadLockCheck s).act.purpose = s.act.purpose ∧ (loadLockCheck s).act.chargeList = s.act.chargeList ∧
    (loadLockCheck s).act.lockRef = s.act.lockRef ∧ (loadLockCheck s).act.lockRefDue = s.act.lockRefDue := by
  simp [loadLockCheck]

@[simp] theorem makeLockCheck_frame (s : State) :
    (makeLockCheck s).pending = s.pending ∧ (makeLockCheck s).age = s.age ∧ (makeLockCheck s).loader = s.loader ∧
    (makeLockCheck s).cfg = s.cfg ∧ (makeLockCheck s).peers = s.peers ∧ (makeLockCheck s).crack = s.crack ∧
    (makeLockCheck s).line.bitRate = s.line.bitRate ∧ (makeLockCheck s).line.statusPeriod = s.line.statusPeriod ∧
    (makeLockCheck s).line.loadGroup = s.line.loadGroup ∧ (makeLockCheck s).line.statusTimer = s.line.statusTimer ∧
    (makeLockCheck s).line.chargeSlot = s.line.chargeSlot ∧ (makeLockCheck s).line.statusSlot = s.line.statusSlot ∧
    txClass (makeLockCheck s) = txClass s ∧ (makeLockCheck s).line.faultCount = s.line.faultCount ∧
    (makeLockCheck s).line.lineFault = s.line.lineFault ∧ (makeLockCheck s).line.ownCompleted = s.line.ownCompleted ∧
    (makeLockCheck s).cmd.queue = s.cmd.queue ∧ (makeLockCheck s).cmd.timeTag = s.cmd.timeTag ∧
    (makeLockCheck s).recs.gap = s.recs.gap ∧ (makeLockCheck s).recs.serial = s.recs.serial ∧
    (makeLockCheck s).recs.pressure = s.recs.pressure ∧ (makeLockCheck s).recs.freePages = s.recs.freePages ∧
    (makeLockCheck s).seq.table = s.seq.table ∧ (makeLockCheck s).seq.digest = s.seq.digest ∧
    (makeLockCheck s).scan.timer = s.scan.timer ∧ (makeLockCheck s).scan.runLength = s.scan.runLength ∧
    (makeLockCheck s).scan.runTaken = s.scan.runTaken ∧ (makeLockCheck s).scan.zero = s.scan.zero ∧
    (makeLockCheck s).scan.holder = s.scan.holder ∧ (makeLockCheck s).servo.timer = s.servo.timer ∧
    (makeLockCheck s).servo.lam = s.servo.lam ∧ (makeLockCheck s).servo.acc = s.servo.acc ∧
    (makeLockCheck s).servo.integral = s.servo.integral ∧ (makeLockCheck s).servo.drive = s.servo.drive ∧
    (makeLockCheck s).servo.fSet = s.servo.fSet ∧ (makeLockCheck s).servo.fMeas = s.servo.fMeas ∧
    (makeLockCheck s).servo.error = s.servo.error ∧ (makeLockCheck s).servo.lagging = s.servo.lagging ∧
    (makeLockCheck s).servo.tripCount = s.servo.tripCount ∧ (makeLockCheck s).servo.overLimit = s.servo.overLimit ∧
    (makeLockCheck s).servo.reacquire = s.servo.reacquire ∧ (makeLockCheck s).servo.loadZero = s.servo.loadZero ∧
    (makeLockCheck s).act.chargeList = s.act.chargeList ∧ (makeLockCheck s).act.lockRef = s.act.lockRef ∧
    (makeLockCheck s).act.lockRefDue = s.act.lockRefDue ∧ (makeLockCheck s).pins.pressOk = s.pins.pressOk ∧
    (makeLockCheck s).pins.lockEngaged = s.pins.lockEngaged ∧ (makeLockCheck s).pins.estop = s.pins.estop ∧
    (makeLockCheck s).pins.loadCode = s.pins.loadCode ∧ (makeLockCheck s).pins.bridgeCodes = s.pins.bridgeCodes ∧
    (makeLockCheck s).pins.loopReadings = s.pins.loopReadings ∧ (makeLockCheck s).alarm.causes = s.alarm.causes := by
  unfold makeLockCheck; split <;> (try split) <;> simp

@[simp] theorem enterLive_frame (kind : QueuedKind) (s : State) :
    (enterLive kind s).pending = s.pending ∧ (enterLive kind s).age = s.age ∧ (enterLive kind s).loader = s.loader ∧
    (enterLive kind s).cfg = s.cfg ∧ (enterLive kind s).peers = s.peers ∧ (enterLive kind s).crack = s.crack ∧
    (enterLive kind s).alarm = s.alarm ∧ (enterLive kind s).line.bitRate = s.line.bitRate ∧
    (enterLive kind s).line.statusPeriod = s.line.statusPeriod ∧
    (enterLive kind s).line.loadGroup = s.line.loadGroup ∧ (enterLive kind s).line.statusTimer = s.line.statusTimer ∧
    (enterLive kind s).line.chargeSlot = s.line.chargeSlot ∧ (enterLive kind s).line.statusSlot = s.line.statusSlot ∧
    txClass (enterLive kind s) = txClass s ∧ (enterLive kind s).line.faultCount = s.line.faultCount ∧
    (enterLive kind s).line.lineFault = s.line.lineFault ∧
    (enterLive kind s).line.ownCompleted = s.line.ownCompleted ∧ (enterLive kind s).line.alarmQ = s.line.alarmQ ∧
    (enterLive kind s).line.shuntSlot = s.line.shuntSlot ∧
    (enterLive kind s).line.shuntDoneBehind = s.line.shuntDoneBehind ∧
    (enterLive kind s).recs.capture = s.recs.capture ∧ (enterLive kind s).recs.scansLeft = s.recs.scansLeft ∧
    (enterLive kind s).recs.captureKind = s.recs.captureKind ∧ (enterLive kind s).recs.gap = s.recs.gap ∧
    (enterLive kind s).recs.serial = s.recs.serial ∧ (enterLive kind s).recs.pressure = s.recs.pressure ∧
    (enterLive kind s).recs.freePages = s.recs.freePages ∧ (enterLive kind s).seq.table = s.seq.table ∧
    (enterLive kind s).seq.digest = s.seq.digest ∧ (enterLive kind s).scan.timer = s.scan.timer ∧
    (enterLive kind s).scan.runLength = s.scan.runLength ∧ (enterLive kind s).scan.runTaken = s.scan.runTaken ∧
    (enterLive kind s).scan.zero = s.scan.zero ∧ (enterLive kind s).scan.shunt = s.scan.shunt ∧
    (enterLive kind s).scan.shuntScans = s.scan.shuntScans ∧ (enterLive kind s).scan.claimHeld = s.scan.claimHeld ∧
    (enterLive kind s).scan.shuntActive = s.scan.shuntActive ∧ (enterLive kind s).scan.holder = s.scan.holder ∧
    (enterLive kind s).servo.timer = s.servo.timer ∧ (enterLive kind s).servo.lam = s.servo.lam ∧
    (enterLive kind s).servo.acc = s.servo.acc ∧ (enterLive kind s).servo.integral = s.servo.integral ∧
    (enterLive kind s).servo.drive = s.servo.drive ∧ (enterLive kind s).servo.fSet = s.servo.fSet ∧
    (enterLive kind s).servo.fMeas = s.servo.fMeas ∧ (enterLive kind s).servo.error = s.servo.error ∧
    (enterLive kind s).servo.lagging = s.servo.lagging ∧ (enterLive kind s).servo.tripCount = s.servo.tripCount ∧
    (enterLive kind s).servo.overLimit = s.servo.overLimit ∧ (enterLive kind s).servo.loadZero = s.servo.loadZero ∧
    (enterLive kind s).act.chargeList = s.act.chargeList ∧ (enterLive kind s).act.lockRef = s.act.lockRef ∧
    (enterLive kind s).act.lockRefDue = s.act.lockRefDue ∧ (enterLive kind s).pins.pressOk = s.pins.pressOk ∧
    (enterLive kind s).pins.lockEngaged = s.pins.lockEngaged ∧ (enterLive kind s).pins.estop = s.pins.estop ∧
    (enterLive kind s).pins.loadCode = s.pins.loadCode ∧ (enterLive kind s).pins.bridgeCodes = s.pins.bridgeCodes ∧
    (enterLive kind s).pins.loopReadings = s.pins.loopReadings ∧ (enterLive kind s).cmd.queue = s.cmd.queue ∧
    (enterLive kind s).cmd.timeTag = s.cmd.timeTag ∧ (enterLive kind s).pins.shunts = s.pins.shunts ∧
    (enterLive kind s).act.state = .live ∧ (enterLive kind s).pins.iso = true ∧
    (enterLive kind s).pins.dump = false ∧ (enterLive kind s).pins.lockCmd = false ∧
    (enterLive kind s).servo.clearOrder = s.servo.clearOrder := by
  simp [enterLive]

@[simp] theorem enterCharging_frame (s : State) :
    (enterCharging s).pending = s.pending ∧ (enterCharging s).age = s.age ∧ (enterCharging s).loader = s.loader ∧
    (enterCharging s).cfg = s.cfg ∧ (enterCharging s).peers = s.peers ∧ (enterCharging s).crack = s.crack ∧
    (enterCharging s).alarm = s.alarm ∧ (enterCharging s).line.bitRate = s.line.bitRate ∧
    (enterCharging s).line.statusPeriod = s.line.statusPeriod ∧ (enterCharging s).line.loadGroup = s.line.loadGroup ∧
    (enterCharging s).line.statusTimer = s.line.statusTimer ∧ (enterCharging s).line.chargeSlot = s.line.chargeSlot ∧
    (enterCharging s).line.statusSlot = s.line.statusSlot ∧ txClass (enterCharging s) = txClass s ∧
    (enterCharging s).line.faultCount = s.line.faultCount ∧ (enterCharging s).line.lineFault = s.line.lineFault ∧
    (enterCharging s).line.ownCompleted = s.line.ownCompleted ∧ (enterCharging s).line.alarmQ = s.line.alarmQ ∧
    (enterCharging s).line.shuntSlot = s.line.shuntSlot ∧
    (enterCharging s).line.shuntDoneBehind = s.line.shuntDoneBehind ∧
    (enterCharging s).recs.capture = s.recs.capture ∧ (enterCharging s).recs.scansLeft = s.recs.scansLeft ∧
    (enterCharging s).recs.captureKind = s.recs.captureKind ∧ (enterCharging s).recs.gap = s.recs.gap ∧
    (enterCharging s).recs.serial = s.recs.serial ∧ (enterCharging s).recs.pressure = s.recs.pressure ∧
    (enterCharging s).recs.freePages = s.recs.freePages ∧ (enterCharging s).seq.table = s.seq.table ∧
    (enterCharging s).seq.digest = s.seq.digest ∧ (enterCharging s).scan.timer = s.scan.timer ∧
    (enterCharging s).scan.runLength = s.scan.runLength ∧ (enterCharging s).scan.runTaken = s.scan.runTaken ∧
    (enterCharging s).scan.zero = s.scan.zero ∧ (enterCharging s).scan.shunt = s.scan.shunt ∧
    (enterCharging s).scan.shuntScans = s.scan.shuntScans ∧ (enterCharging s).scan.claimHeld = s.scan.claimHeld ∧
    (enterCharging s).scan.shuntActive = s.scan.shuntActive ∧ (enterCharging s).scan.holder = s.scan.holder ∧
    (enterCharging s).servo.timer = s.servo.timer ∧ (enterCharging s).servo.lam = s.servo.lam ∧
    (enterCharging s).servo.acc = s.servo.acc ∧ (enterCharging s).servo.integral = s.servo.integral ∧
    (enterCharging s).servo.drive = s.servo.drive ∧ (enterCharging s).servo.fSet = s.servo.fSet ∧
    (enterCharging s).servo.fMeas = s.servo.fMeas ∧ (enterCharging s).servo.error = s.servo.error ∧
    (enterCharging s).servo.lagging = s.servo.lagging ∧ (enterCharging s).servo.tripCount = s.servo.tripCount ∧
    (enterCharging s).servo.overLimit = s.servo.overLimit ∧ (enterCharging s).servo.loadZero = s.servo.loadZero ∧
    (enterCharging s).act.chargeList = s.act.chargeList ∧ (enterCharging s).act.lockRef = s.act.lockRef ∧
    (enterCharging s).act.lockRefDue = s.act.lockRefDue ∧ (enterCharging s).pins.pressOk = s.pins.pressOk ∧
    (enterCharging s).pins.lockEngaged = s.pins.lockEngaged ∧ (enterCharging s).pins.estop = s.pins.estop ∧
    (enterCharging s).pins.loadCode = s.pins.loadCode ∧ (enterCharging s).pins.bridgeCodes = s.pins.bridgeCodes ∧
    (enterCharging s).pins.loopReadings = s.pins.loopReadings ∧ (enterCharging s).cmd.queue = s.cmd.queue ∧
    (enterCharging s).cmd.timeTag = s.cmd.timeTag ∧ (enterCharging s).pins.shunts = s.pins.shunts ∧
    (enterCharging s).servo.clearOrder = s.servo.clearOrder := by
  unfold enterCharging; simp only []; split <;> simp

@[simp] theorem enterUnlockCharge_frame (s : State) :
    (enterUnlockCharge s).pending = s.pending ∧ (enterUnlockCharge s).age = s.age ∧
    (enterUnlockCharge s).loader = s.loader ∧ (enterUnlockCharge s).cfg = s.cfg ∧
    (enterUnlockCharge s).peers = s.peers ∧ (enterUnlockCharge s).crack = s.crack ∧
    (enterUnlockCharge s).alarm = s.alarm ∧ (enterUnlockCharge s).cmd = s.cmd ∧
    (enterUnlockCharge s).line.bitRate = s.line.bitRate ∧
    (enterUnlockCharge s).line.statusPeriod = s.line.statusPeriod ∧
    (enterUnlockCharge s).line.loadGroup = s.line.loadGroup ∧
    (enterUnlockCharge s).line.statusTimer = s.line.statusTimer ∧
    (enterUnlockCharge s).line.chargeSlot = s.line.chargeSlot ∧
    (enterUnlockCharge s).line.statusSlot = s.line.statusSlot ∧ txClass (enterUnlockCharge s) = txClass s ∧
    (enterUnlockCharge s).line.faultCount = s.line.faultCount ∧
    (enterUnlockCharge s).line.lineFault = s.line.lineFault ∧
    (enterUnlockCharge s).line.ownCompleted = s.line.ownCompleted ∧
    (enterUnlockCharge s).line.alarmQ = s.line.alarmQ ∧ (enterUnlockCharge s).line.shuntSlot = s.line.shuntSlot ∧
    (enterUnlockCharge s).line.shuntDoneBehind = s.line.shuntDoneBehind ∧
    (enterUnlockCharge s).recs.capture = s.recs.capture ∧ (enterUnlockCharge s).recs.scansLeft = s.recs.scansLeft ∧
    (enterUnlockCharge s).recs.captureKind = s.recs.captureKind ∧ (enterUnlockCharge s).recs.gap = s.recs.gap ∧
    (enterUnlockCharge s).recs.serial = s.recs.serial ∧ (enterUnlockCharge s).recs.pressure = s.recs.pressure ∧
    (enterUnlockCharge s).recs.freePages = s.recs.freePages ∧ (enterUnlockCharge s).seq.table = s.seq.table ∧
    (enterUnlockCharge s).seq.digest = s.seq.digest ∧ (enterUnlockCharge s).scan.timer = s.scan.timer ∧
    (enterUnlockCharge s).scan.runLength = s.scan.runLength ∧ (enterUnlockCharge s).scan.runTaken = s.scan.runTaken ∧
    (enterUnlockCharge s).scan.zero = s.scan.zero ∧ (enterUnlockCharge s).scan.shunt = s.scan.shunt ∧
    (enterUnlockCharge s).scan.shuntScans = s.scan.shuntScans ∧
    (enterUnlockCharge s).scan.claimHeld = s.scan.claimHeld ∧
    (enterUnlockCharge s).scan.shuntActive = s.scan.shuntActive ∧ (enterUnlockCharge s).scan.holder = s.scan.holder ∧
    (enterUnlockCharge s).servo.timer = s.servo.timer ∧ (enterUnlockCharge s).servo.lam = s.servo.lam ∧
    (enterUnlockCharge s).servo.acc = s.servo.acc ∧ (enterUnlockCharge s).servo.drive = s.servo.drive ∧
    (enterUnlockCharge s).servo.fSet = s.servo.fSet ∧ (enterUnlockCharge s).servo.fMeas = s.servo.fMeas ∧
    (enterUnlockCharge s).servo.error = s.servo.error ∧ (enterUnlockCharge s).servo.lagging = s.servo.lagging ∧
    (enterUnlockCharge s).servo.tripCount = s.servo.tripCount ∧
    (enterUnlockCharge s).servo.overLimit = s.servo.overLimit ∧
    (enterUnlockCharge s).servo.reacquire = s.servo.reacquire ∧
    (enterUnlockCharge s).servo.loadZero = s.servo.loadZero ∧
    (enterUnlockCharge s).act.chargeList = s.act.chargeList ∧ (enterUnlockCharge s).act.lockRef = s.act.lockRef ∧
    (enterUnlockCharge s).act.lockRefDue = s.act.lockRefDue ∧ (enterUnlockCharge s).pins.pressOk = s.pins.pressOk ∧
    (enterUnlockCharge s).pins.lockEngaged = s.pins.lockEngaged ∧ (enterUnlockCharge s).pins.estop = s.pins.estop ∧
    (enterUnlockCharge s).pins.loadCode = s.pins.loadCode ∧
    (enterUnlockCharge s).pins.bridgeCodes = s.pins.bridgeCodes ∧
    (enterUnlockCharge s).pins.loopReadings = s.pins.loopReadings ∧
    (enterUnlockCharge s).pins.shunts = s.pins.shunts ∧ (enterUnlockCharge s).act.state = .unlockCharge ∧
    (enterUnlockCharge s).servo.clearOrder = s.servo.clearOrder ∧ (enterUnlockCharge s).servo.integral = 0 := by
  simp [enterUnlockCharge]

@[simp] theorem enterLocked_frame (s : State) :
    (enterLocked s).pending = s.pending ∧ (enterLocked s).age = s.age ∧ (enterLocked s).loader = s.loader ∧
    (enterLocked s).cfg = s.cfg ∧ (enterLocked s).peers = s.peers ∧ (enterLocked s).servo = s.servo ∧
    (enterLocked s).crack = s.crack ∧ (enterLocked s).alarm = s.alarm ∧ (enterLocked s).cmd = s.cmd ∧
    (enterLocked s).line.bitRate = s.line.bitRate ∧ (enterLocked s).line.statusPeriod = s.line.statusPeriod ∧
    (enterLocked s).line.loadGroup = s.line.loadGroup ∧ (enterLocked s).line.statusTimer = s.line.statusTimer ∧
    (enterLocked s).line.chargeSlot = s.line.chargeSlot ∧ (enterLocked s).line.statusSlot = s.line.statusSlot ∧
    txClass (enterLocked s) = txClass s ∧ (enterLocked s).line.faultCount = s.line.faultCount ∧
    (enterLocked s).line.lineFault = s.line.lineFault ∧ (enterLocked s).line.ownCompleted = s.line.ownCompleted ∧
    (enterLocked s).line.alarmQ = s.line.alarmQ ∧ (enterLocked s).line.shuntSlot = s.line.shuntSlot ∧
    (enterLocked s).line.shuntDoneBehind = s.line.shuntDoneBehind ∧ (enterLocked s).recs.capture = s.recs.capture ∧
    (enterLocked s).recs.scansLeft = s.recs.scansLeft ∧ (enterLocked s).recs.captureKind = s.recs.captureKind ∧
    (enterLocked s).recs.gap = s.recs.gap ∧ (enterLocked s).recs.serial = s.recs.serial ∧
    (enterLocked s).recs.pressure = s.recs.pressure ∧ (enterLocked s).recs.freePages = s.recs.freePages ∧
    (enterLocked s).seq.table = s.seq.table ∧ (enterLocked s).seq.digest = s.seq.digest ∧
    (enterLocked s).scan.timer = s.scan.timer ∧ (enterLocked s).scan.runLength = s.scan.runLength ∧
    (enterLocked s).scan.runTaken = s.scan.runTaken ∧ (enterLocked s).scan.zero = s.scan.zero ∧
    (enterLocked s).scan.shunt = s.scan.shunt ∧ (enterLocked s).scan.shuntScans = s.scan.shuntScans ∧
    (enterLocked s).scan.claimHeld = s.scan.claimHeld ∧ (enterLocked s).scan.shuntActive = s.scan.shuntActive ∧
    (enterLocked s).scan.holder = s.scan.holder ∧ (enterLocked s).act.chargeList = s.act.chargeList ∧
    (enterLocked s).act.lockRef = s.act.lockRef ∧ (enterLocked s).act.lockRefDue = s.act.lockRefDue ∧
    (enterLocked s).pins.pressOk = s.pins.pressOk ∧ (enterLocked s).pins.lockEngaged = s.pins.lockEngaged ∧
    (enterLocked s).pins.estop = s.pins.estop ∧ (enterLocked s).pins.loadCode = s.pins.loadCode ∧
    (enterLocked s).pins.bridgeCodes = s.pins.bridgeCodes ∧ (enterLocked s).pins.loopReadings = s.pins.loopReadings ∧
    (enterLocked s).pins.shunts = s.pins.shunts ∧ (enterLocked s).act.state = .locked ∧
    (enterLocked s).pins.iso = false ∧ (enterLocked s).pins.dump = false ∧ (enterLocked s).pins.lockCmd = true := by
  simp [enterLocked]

@[simp] theorem lockSeats_frame (s : State) :
    (lockSeats s).pending = s.pending ∧ (lockSeats s).age = s.age ∧ (lockSeats s).loader = s.loader ∧
    (lockSeats s).cfg = s.cfg ∧ (lockSeats s).peers = s.peers ∧ (lockSeats s).servo = s.servo ∧
    (lockSeats s).crack = s.crack ∧ (lockSeats s).alarm = s.alarm ∧ (lockSeats s).line.bitRate = s.line.bitRate ∧
    (lockSeats s).line.statusPeriod = s.line.statusPeriod ∧ (lockSeats s).line.loadGroup = s.line.loadGroup ∧
    (lockSeats s).line.statusTimer = s.line.statusTimer ∧ (lockSeats s).line.chargeSlot = s.line.chargeSlot ∧
    (lockSeats s).line.statusSlot = s.line.statusSlot ∧ txClass (lockSeats s) = txClass s ∧
    (lockSeats s).line.faultCount = s.line.faultCount ∧ (lockSeats s).line.lineFault = s.line.lineFault ∧
    (lockSeats s).line.ownCompleted = s.line.ownCompleted ∧ (lockSeats s).line.alarmQ = s.line.alarmQ ∧
    (lockSeats s).line.shuntSlot = s.line.shuntSlot ∧ (lockSeats s).line.shuntDoneBehind = s.line.shuntDoneBehind ∧
    (lockSeats s).recs.capture = s.recs.capture ∧ (lockSeats s).recs.scansLeft = s.recs.scansLeft ∧
    (lockSeats s).recs.captureKind = s.recs.captureKind ∧ (lockSeats s).recs.gap = s.recs.gap ∧
    (lockSeats s).recs.serial = s.recs.serial ∧ (lockSeats s).recs.pressure = s.recs.pressure ∧
    (lockSeats s).recs.freePages = s.recs.freePages ∧ (lockSeats s).seq.table = s.seq.table ∧
    (lockSeats s).seq.digest = s.seq.digest ∧ (lockSeats s).scan.timer = s.scan.timer ∧
    (lockSeats s).scan.runLength = s.scan.runLength ∧ (lockSeats s).scan.runTaken = s.scan.runTaken ∧
    (lockSeats s).scan.zero = s.scan.zero ∧ (lockSeats s).scan.shunt = s.scan.shunt ∧
    (lockSeats s).scan.shuntScans = s.scan.shuntScans ∧ (lockSeats s).scan.claimHeld = s.scan.claimHeld ∧
    (lockSeats s).scan.shuntActive = s.scan.shuntActive ∧ (lockSeats s).scan.holder = s.scan.holder ∧
    (lockSeats s).pins.pressOk = s.pins.pressOk ∧ (lockSeats s).pins.lockEngaged = s.pins.lockEngaged ∧
    (lockSeats s).pins.estop = s.pins.estop ∧ (lockSeats s).pins.loadCode = s.pins.loadCode ∧
    (lockSeats s).pins.bridgeCodes = s.pins.bridgeCodes ∧ (lockSeats s).pins.loopReadings = s.pins.loopReadings ∧
    (lockSeats s).cmd.queue = s.cmd.queue ∧ (lockSeats s).cmd.timeTag = s.cmd.timeTag ∧
    (lockSeats s).pins.shunts = s.pins.shunts ∧ (lockSeats s).act.state = .locked ∧ (lockSeats s).pins.iso = false ∧
    (lockSeats s).pins.dump = false ∧ (lockSeats s).pins.lockCmd = true ∧
    (lockSeats s).act.lockRef = some s.servo.fMeas ∧ (lockSeats s).act.chargeList = s.act.chargeList := by
  simp [lockSeats]

@[simp] theorem enterLocking_frame (s : State) :
    (enterLocking s).pending = s.pending ∧ (enterLocking s).age = s.age ∧ (enterLocking s).loader = s.loader ∧
    (enterLocking s).cfg = s.cfg ∧ (enterLocking s).peers = s.peers ∧ (enterLocking s).servo = s.servo ∧
    (enterLocking s).crack = s.crack ∧ (enterLocking s).alarm = s.alarm ∧
    (enterLocking s).line.bitRate = s.line.bitRate ∧ (enterLocking s).line.statusPeriod = s.line.statusPeriod ∧
    (enterLocking s).line.loadGroup = s.line.loadGroup ∧ (enterLocking s).line.statusTimer = s.line.statusTimer ∧
    (enterLocking s).line.chargeSlot = s.line.chargeSlot ∧ (enterLocking s).line.statusSlot = s.line.statusSlot ∧
    txClass (enterLocking s) = txClass s ∧ (enterLocking s).line.faultCount = s.line.faultCount ∧
    (enterLocking s).line.lineFault = s.line.lineFault ∧ (enterLocking s).line.ownCompleted = s.line.ownCompleted ∧
    (enterLocking s).line.alarmQ = s.line.alarmQ ∧ (enterLocking s).line.shuntSlot = s.line.shuntSlot ∧
    (enterLocking s).line.shuntDoneBehind = s.line.shuntDoneBehind ∧ (enterLocking s).recs.capture = s.recs.capture ∧
    (enterLocking s).recs.scansLeft = s.recs.scansLeft ∧ (enterLocking s).recs.captureKind = s.recs.captureKind ∧
    (enterLocking s).recs.gap = s.recs.gap ∧ (enterLocking s).recs.serial = s.recs.serial ∧
    (enterLocking s).recs.pressure = s.recs.pressure ∧ (enterLocking s).recs.freePages = s.recs.freePages ∧
    (enterLocking s).seq.table = s.seq.table ∧ (enterLocking s).seq.digest = s.seq.digest ∧
    (enterLocking s).scan.timer = s.scan.timer ∧ (enterLocking s).scan.runLength = s.scan.runLength ∧
    (enterLocking s).scan.runTaken = s.scan.runTaken ∧ (enterLocking s).scan.zero = s.scan.zero ∧
    (enterLocking s).scan.shunt = s.scan.shunt ∧ (enterLocking s).scan.shuntScans = s.scan.shuntScans ∧
    (enterLocking s).scan.claimHeld = s.scan.claimHeld ∧ (enterLocking s).scan.shuntActive = s.scan.shuntActive ∧
    (enterLocking s).scan.holder = s.scan.holder ∧ (enterLocking s).pins.pressOk = s.pins.pressOk ∧
    (enterLocking s).pins.lockEngaged = s.pins.lockEngaged ∧ (enterLocking s).pins.estop = s.pins.estop ∧
    (enterLocking s).pins.loadCode = s.pins.loadCode ∧ (enterLocking s).pins.bridgeCodes = s.pins.bridgeCodes ∧
    (enterLocking s).pins.loopReadings = s.pins.loopReadings ∧ (enterLocking s).cmd.queue = s.cmd.queue ∧
    (enterLocking s).cmd.timeTag = s.cmd.timeTag ∧ (enterLocking s).pins.shunts = s.pins.shunts ∧
    (enterLocking s).act.chargeList = s.act.chargeList := by
  unfold enterLocking; simp only []; split <;> simp

@[simp] theorem enterVented_frame (s : State) :
    (enterVented s).pending = s.pending ∧ (enterVented s).age = s.age ∧ (enterVented s).loader = s.loader ∧
    (enterVented s).cfg = s.cfg ∧ (enterVented s).peers = s.peers ∧ (enterVented s).servo = s.servo ∧
    (enterVented s).crack = s.crack ∧ (enterVented s).alarm = s.alarm ∧ (enterVented s).cmd = s.cmd ∧
    (enterVented s).line.bitRate = s.line.bitRate ∧ (enterVented s).line.statusPeriod = s.line.statusPeriod ∧
    (enterVented s).line.loadGroup = s.line.loadGroup ∧ (enterVented s).line.statusTimer = s.line.statusTimer ∧
    (enterVented s).line.chargeSlot = s.line.chargeSlot ∧ (enterVented s).line.statusSlot = s.line.statusSlot ∧
    txClass (enterVented s) = txClass s ∧ (enterVented s).line.faultCount = s.line.faultCount ∧
    (enterVented s).line.lineFault = s.line.lineFault ∧ (enterVented s).line.ownCompleted = s.line.ownCompleted ∧
    (enterVented s).line.alarmQ = s.line.alarmQ ∧ (enterVented s).line.shuntSlot = s.line.shuntSlot ∧
    (enterVented s).line.shuntDoneBehind = s.line.shuntDoneBehind ∧ (enterVented s).recs.capture = s.recs.capture ∧
    (enterVented s).recs.scansLeft = s.recs.scansLeft ∧ (enterVented s).recs.captureKind = s.recs.captureKind ∧
    (enterVented s).recs.gap = s.recs.gap ∧ (enterVented s).recs.serial = s.recs.serial ∧
    (enterVented s).recs.pressure = s.recs.pressure ∧ (enterVented s).recs.freePages = s.recs.freePages ∧
    (enterVented s).seq.table = s.seq.table ∧ (enterVented s).seq.digest = s.seq.digest ∧
    (enterVented s).scan.timer = s.scan.timer ∧ (enterVented s).scan.runLength = s.scan.runLength ∧
    (enterVented s).scan.runTaken = s.scan.runTaken ∧ (enterVented s).scan.zero = s.scan.zero ∧
    (enterVented s).scan.shunt = s.scan.shunt ∧ (enterVented s).scan.shuntScans = s.scan.shuntScans ∧
    (enterVented s).scan.claimHeld = s.scan.claimHeld ∧ (enterVented s).scan.shuntActive = s.scan.shuntActive ∧
    (enterVented s).scan.holder = s.scan.holder ∧ (enterVented s).act.chargeList = s.act.chargeList ∧
    (enterVented s).act.lockRef = s.act.lockRef ∧ (enterVented s).act.lockRefDue = s.act.lockRefDue ∧
    (enterVented s).pins.pressOk = s.pins.pressOk ∧ (enterVented s).pins.lockEngaged = s.pins.lockEngaged ∧
    (enterVented s).pins.estop = s.pins.estop ∧ (enterVented s).pins.loadCode = s.pins.loadCode ∧
    (enterVented s).pins.bridgeCodes = s.pins.bridgeCodes ∧ (enterVented s).pins.loopReadings = s.pins.loopReadings ∧
    (enterVented s).pins.shunts = s.pins.shunts ∧ (enterVented s).act.purpose = s.act.purpose ∧
    (enterVented s).act.ownPlaced = s.act.ownPlaced ∧ (enterVented s).act.ownHeld = s.act.ownHeld ∧
    (enterVented s).act.chargeTimer = s.act.chargeTimer ∧ (enterVented s).act.lockTimer = s.act.lockTimer ∧
    (enterVented s).act.deadline = s.act.deadline ∧ (enterVented s).act.acquisition = s.act.acquisition ∧
    (enterVented s).act.releasing = s.act.releasing ∧ (enterVented s).act.lockCheck = s.act.lockCheck ∧
    (enterVented s).act.state = .vented ∧ (enterVented s).pins.iso = false ∧ (enterVented s).pins.dump = true ∧
    (enterVented s).pins.lockCmd = false := by
  simp [enterVented]

@[simp] theorem chargeFails_frame (s : State) :
    (chargeFails s).pending = s.pending ∧ (chargeFails s).age = s.age ∧ (chargeFails s).loader = s.loader ∧
    (chargeFails s).cfg = s.cfg ∧ (chargeFails s).peers = s.peers ∧ (chargeFails s).crack = s.crack ∧
    (chargeFails s).line.bitRate = s.line.bitRate ∧ (chargeFails s).line.statusPeriod = s.line.statusPeriod ∧
    (chargeFails s).line.loadGroup = s.line.loadGroup ∧ (chargeFails s).line.statusTimer = s.line.statusTimer ∧
    (chargeFails s).line.chargeSlot = s.line.chargeSlot ∧ (chargeFails s).line.statusSlot = s.line.statusSlot ∧
    txClass (chargeFails s) = txClass s ∧ (chargeFails s).line.faultCount = s.line.faultCount ∧
    (chargeFails s).line.lineFault = s.line.lineFault ∧ (chargeFails s).line.ownCompleted = s.line.ownCompleted ∧
    (chargeFails s).cmd.queue = s.cmd.queue ∧ (chargeFails s).cmd.timeTag = s.cmd.timeTag ∧
    (chargeFails s).recs.gap = s.recs.gap ∧ (chargeFails s).recs.serial = s.recs.serial ∧
    (chargeFails s).recs.pressure = s.recs.pressure ∧ (chargeFails s).recs.freePages = s.recs.freePages ∧
    (chargeFails s).seq.table = s.seq.table ∧ (chargeFails s).seq.digest = s.seq.digest ∧
    (chargeFails s).scan.timer = s.scan.timer ∧ (chargeFails s).scan.runLength = s.scan.runLength ∧
    (chargeFails s).scan.runTaken = s.scan.runTaken ∧ (chargeFails s).scan.zero = s.scan.zero ∧
    (chargeFails s).scan.holder = s.scan.holder ∧ (chargeFails s).servo.timer = s.servo.timer ∧
    (chargeFails s).servo.lam = s.servo.lam ∧ (chargeFails s).servo.acc = s.servo.acc ∧
    (chargeFails s).servo.integral = s.servo.integral ∧ (chargeFails s).servo.drive = s.servo.drive ∧
    (chargeFails s).servo.fSet = s.servo.fSet ∧ (chargeFails s).servo.fMeas = s.servo.fMeas ∧
    (chargeFails s).servo.error = s.servo.error ∧ (chargeFails s).servo.lagging = s.servo.lagging ∧
    (chargeFails s).servo.tripCount = s.servo.tripCount ∧ (chargeFails s).servo.overLimit = s.servo.overLimit ∧
    (chargeFails s).servo.reacquire = s.servo.reacquire ∧ (chargeFails s).servo.loadZero = s.servo.loadZero ∧
    (chargeFails s).act.chargeList = s.act.chargeList ∧ (chargeFails s).act.lockRef = s.act.lockRef ∧
    (chargeFails s).act.lockRefDue = s.act.lockRefDue ∧ (chargeFails s).pins.pressOk = s.pins.pressOk ∧
    (chargeFails s).pins.lockEngaged = s.pins.lockEngaged ∧ (chargeFails s).pins.estop = s.pins.estop ∧
    (chargeFails s).pins.loadCode = s.pins.loadCode ∧ (chargeFails s).pins.bridgeCodes = s.pins.bridgeCodes ∧
    (chargeFails s).pins.loopReadings = s.pins.loopReadings ∧ (chargeFails s).alarm.causes = s.alarm.causes ∧
    (chargeFails s).act.state = .vented ∧ (chargeFails s).pins.iso = false ∧ (chargeFails s).pins.dump = true ∧
    (chargeFails s).pins.lockCmd = false ∧ (chargeFails s).alarm.latch = latchMax s.alarm.latch .hold := by
  simp [chargeFails]

@[simp] theorem lockFails_frame (s : State) :
    (lockFails s).pending = s.pending ∧ (lockFails s).age = s.age ∧ (lockFails s).loader = s.loader ∧
    (lockFails s).cfg = s.cfg ∧ (lockFails s).peers = s.peers ∧ (lockFails s).crack = s.crack ∧
    (lockFails s).line.bitRate = s.line.bitRate ∧ (lockFails s).line.statusPeriod = s.line.statusPeriod ∧
    (lockFails s).line.loadGroup = s.line.loadGroup ∧ (lockFails s).line.statusTimer = s.line.statusTimer ∧
    (lockFails s).line.chargeSlot = s.line.chargeSlot ∧ (lockFails s).line.statusSlot = s.line.statusSlot ∧
    txClass (lockFails s) = txClass s ∧ (lockFails s).line.faultCount = s.line.faultCount ∧
    (lockFails s).line.lineFault = s.line.lineFault ∧ (lockFails s).line.ownCompleted = s.line.ownCompleted ∧
    (lockFails s).cmd.queue = s.cmd.queue ∧ (lockFails s).cmd.timeTag = s.cmd.timeTag ∧
    (lockFails s).recs.gap = s.recs.gap ∧ (lockFails s).recs.serial = s.recs.serial ∧
    (lockFails s).recs.pressure = s.recs.pressure ∧ (lockFails s).recs.freePages = s.recs.freePages ∧
    (lockFails s).seq.table = s.seq.table ∧ (lockFails s).seq.digest = s.seq.digest ∧
    (lockFails s).scan.timer = s.scan.timer ∧ (lockFails s).scan.runLength = s.scan.runLength ∧
    (lockFails s).scan.runTaken = s.scan.runTaken ∧ (lockFails s).scan.zero = s.scan.zero ∧
    (lockFails s).scan.holder = s.scan.holder ∧ (lockFails s).servo.timer = s.servo.timer ∧
    (lockFails s).servo.lam = s.servo.lam ∧ (lockFails s).servo.acc = s.servo.acc ∧
    (lockFails s).servo.integral = s.servo.integral ∧ (lockFails s).servo.drive = s.servo.drive ∧
    (lockFails s).servo.fSet = s.servo.fSet ∧ (lockFails s).servo.fMeas = s.servo.fMeas ∧
    (lockFails s).servo.error = s.servo.error ∧ (lockFails s).servo.lagging = s.servo.lagging ∧
    (lockFails s).servo.tripCount = s.servo.tripCount ∧ (lockFails s).servo.overLimit = s.servo.overLimit ∧
    (lockFails s).servo.reacquire = s.servo.reacquire ∧ (lockFails s).servo.loadZero = s.servo.loadZero ∧
    (lockFails s).act.chargeList = s.act.chargeList ∧ (lockFails s).act.lockRef = s.act.lockRef ∧
    (lockFails s).act.lockRefDue = s.act.lockRefDue ∧ (lockFails s).pins.pressOk = s.pins.pressOk ∧
    (lockFails s).pins.lockEngaged = s.pins.lockEngaged ∧ (lockFails s).pins.estop = s.pins.estop ∧
    (lockFails s).pins.loadCode = s.pins.loadCode ∧ (lockFails s).pins.bridgeCodes = s.pins.bridgeCodes ∧
    (lockFails s).pins.loopReadings = s.pins.loopReadings ∧ (lockFails s).alarm.causes = s.alarm.causes ∧
    (lockFails s).act.state = .live ∧ (lockFails s).pins.iso = true ∧ (lockFails s).pins.dump = false ∧
    (lockFails s).pins.lockCmd = false ∧ (lockFails s).alarm.latch = latchMax s.alarm.latch .hold := by
  simp [lockFails]

@[simp] theorem unlockFails_frame (s : State) :
    (unlockFails s).pending = s.pending ∧ (unlockFails s).age = s.age ∧ (unlockFails s).loader = s.loader ∧
    (unlockFails s).cfg = s.cfg ∧ (unlockFails s).peers = s.peers ∧ (unlockFails s).crack = s.crack ∧
    (unlockFails s).line.bitRate = s.line.bitRate ∧ (unlockFails s).line.statusPeriod = s.line.statusPeriod ∧
    (unlockFails s).line.loadGroup = s.line.loadGroup ∧ (unlockFails s).line.statusTimer = s.line.statusTimer ∧
    (unlockFails s).line.chargeSlot = s.line.chargeSlot ∧ (unlockFails s).line.statusSlot = s.line.statusSlot ∧
    txClass (unlockFails s) = txClass s ∧ (unlockFails s).line.faultCount = s.line.faultCount ∧
    (unlockFails s).line.lineFault = s.line.lineFault ∧ (unlockFails s).line.ownCompleted = s.line.ownCompleted ∧
    (unlockFails s).cmd.queue = s.cmd.queue ∧ (unlockFails s).cmd.timeTag = s.cmd.timeTag ∧
    (unlockFails s).recs.gap = s.recs.gap ∧ (unlockFails s).recs.serial = s.recs.serial ∧
    (unlockFails s).recs.pressure = s.recs.pressure ∧ (unlockFails s).recs.freePages = s.recs.freePages ∧
    (unlockFails s).seq.table = s.seq.table ∧ (unlockFails s).seq.digest = s.seq.digest ∧
    (unlockFails s).scan.timer = s.scan.timer ∧ (unlockFails s).scan.runLength = s.scan.runLength ∧
    (unlockFails s).scan.runTaken = s.scan.runTaken ∧ (unlockFails s).scan.zero = s.scan.zero ∧
    (unlockFails s).scan.holder = s.scan.holder ∧ (unlockFails s).servo.timer = s.servo.timer ∧
    (unlockFails s).servo.lam = s.servo.lam ∧ (unlockFails s).servo.acc = s.servo.acc ∧
    (unlockFails s).servo.integral = 0 ∧ (unlockFails s).servo.drive = s.servo.drive ∧
    (unlockFails s).servo.fSet = s.servo.fSet ∧ (unlockFails s).servo.fMeas = s.servo.fMeas ∧
    (unlockFails s).servo.error = s.servo.error ∧ (unlockFails s).servo.lagging = s.servo.lagging ∧
    (unlockFails s).servo.tripCount = s.servo.tripCount ∧ (unlockFails s).servo.overLimit = s.servo.overLimit ∧
    (unlockFails s).servo.reacquire = s.servo.reacquire ∧ (unlockFails s).servo.loadZero = s.servo.loadZero ∧
    (unlockFails s).act.chargeList = s.act.chargeList ∧ (unlockFails s).act.lockRef = s.act.lockRef ∧
    (unlockFails s).act.lockRefDue = s.act.lockRefDue ∧ (unlockFails s).pins.pressOk = s.pins.pressOk ∧
    (unlockFails s).pins.lockEngaged = s.pins.lockEngaged ∧ (unlockFails s).pins.estop = s.pins.estop ∧
    (unlockFails s).pins.loadCode = s.pins.loadCode ∧ (unlockFails s).pins.bridgeCodes = s.pins.bridgeCodes ∧
    (unlockFails s).pins.loopReadings = s.pins.loopReadings ∧ (unlockFails s).alarm.causes = s.alarm.causes ∧
    (unlockFails s).act.state = .locked ∧ (unlockFails s).pins.iso = false ∧ (unlockFails s).pins.dump = false ∧
    (unlockFails s).pins.lockCmd = true ∧ (unlockFails s).alarm.latch = latchMax s.alarm.latch .hold := by
  simp [unlockFails]

@[simp] theorem acquisitionTest_frame (s : State) :
    (acquisitionTest s).pending = s.pending ∧ (acquisitionTest s).age = s.age ∧
    (acquisitionTest s).loader = s.loader ∧ (acquisitionTest s).cfg = s.cfg ∧ (acquisitionTest s).pins = s.pins ∧
    (acquisitionTest s).line = s.line ∧ (acquisitionTest s).peers = s.peers ∧ (acquisitionTest s).seq = s.seq ∧
    (acquisitionTest s).servo = s.servo ∧ (acquisitionTest s).scan = s.scan ∧ (acquisitionTest s).crack = s.crack ∧
    (acquisitionTest s).alarm = s.alarm ∧ (acquisitionTest s).recs = s.recs ∧ (acquisitionTest s).cmd = s.cmd ∧
    (acquisitionTest s).act.state = s.act.state ∧ (acquisitionTest s).act.purpose = s.act.purpose ∧
    (acquisitionTest s).act.lockRef = s.act.lockRef ∧ (acquisitionTest s).act.lockRefDue = s.act.lockRefDue ∧
    (acquisitionTest s).act.chargeList = s.act.chargeList := by
  unfold acquisitionTest; split <;> (try split) <;> (try split) <;> simp

@[simp] theorem beginRelease_frame (s : State) :
    (beginRelease s).pending = s.pending ∧ (beginRelease s).age = s.age ∧ (beginRelease s).loader = s.loader ∧
    (beginRelease s).cfg = s.cfg ∧ (beginRelease s).peers = s.peers ∧ (beginRelease s).crack = s.crack ∧
    (beginRelease s).alarm = s.alarm ∧ (beginRelease s).line.bitRate = s.line.bitRate ∧
    (beginRelease s).line.statusPeriod = s.line.statusPeriod ∧ (beginRelease s).line.loadGroup = s.line.loadGroup ∧
    (beginRelease s).line.statusTimer = s.line.statusTimer ∧ (beginRelease s).line.chargeSlot = s.line.chargeSlot ∧
    (beginRelease s).line.statusSlot = s.line.statusSlot ∧ txClass (beginRelease s) = txClass s ∧
    (beginRelease s).line.faultCount = s.line.faultCount ∧ (beginRelease s).line.lineFault = s.line.lineFault ∧
    (beginRelease s).line.ownCompleted = s.line.ownCompleted ∧ (beginRelease s).line.alarmQ = s.line.alarmQ ∧
    (beginRelease s).line.shuntSlot = s.line.shuntSlot ∧
    (beginRelease s).line.shuntDoneBehind = s.line.shuntDoneBehind ∧ (beginRelease s).recs.capture = s.recs.capture ∧
    (beginRelease s).recs.scansLeft = s.recs.scansLeft ∧ (beginRelease s).recs.captureKind = s.recs.captureKind ∧
    (beginRelease s).recs.gap = s.recs.gap ∧ (beginRelease s).recs.serial = s.recs.serial ∧
    (beginRelease s).recs.pressure = s.recs.pressure ∧ (beginRelease s).recs.freePages = s.recs.freePages ∧
    (beginRelease s).seq.table = s.seq.table ∧ (beginRelease s).seq.digest = s.seq.digest ∧
    (beginRelease s).scan.timer = s.scan.timer ∧ (beginRelease s).scan.runLength = s.scan.runLength ∧
    (beginRelease s).scan.runTaken = s.scan.runTaken ∧ (beginRelease s).scan.zero = s.scan.zero ∧
    (beginRelease s).scan.shunt = s.scan.shunt ∧ (beginRelease s).scan.shuntScans = s.scan.shuntScans ∧
    (beginRelease s).scan.claimHeld = s.scan.claimHeld ∧ (beginRelease s).scan.shuntActive = s.scan.shuntActive ∧
    (beginRelease s).scan.holder = s.scan.holder ∧ (beginRelease s).servo.timer = s.servo.timer ∧
    (beginRelease s).servo.lam = s.servo.lam ∧ (beginRelease s).servo.acc = s.servo.acc ∧
    (beginRelease s).servo.integral = s.servo.integral ∧ (beginRelease s).servo.drive = s.servo.drive ∧
    (beginRelease s).servo.fSet = s.servo.fSet ∧ (beginRelease s).servo.fMeas = s.servo.fMeas ∧
    (beginRelease s).servo.error = s.servo.error ∧ (beginRelease s).servo.lagging = s.servo.lagging ∧
    (beginRelease s).servo.tripCount = s.servo.tripCount ∧ (beginRelease s).servo.overLimit = s.servo.overLimit ∧
    (beginRelease s).servo.loadZero = s.servo.loadZero ∧ (beginRelease s).act.chargeList = s.act.chargeList ∧
    (beginRelease s).act.lockRef = s.act.lockRef ∧ (beginRelease s).act.lockRefDue = s.act.lockRefDue ∧
    (beginRelease s).pins.pressOk = s.pins.pressOk ∧ (beginRelease s).pins.lockEngaged = s.pins.lockEngaged ∧
    (beginRelease s).pins.estop = s.pins.estop ∧ (beginRelease s).pins.loadCode = s.pins.loadCode ∧
    (beginRelease s).pins.bridgeCodes = s.pins.bridgeCodes ∧
    (beginRelease s).pins.loopReadings = s.pins.loopReadings ∧ (beginRelease s).cmd.queue = s.cmd.queue ∧
    (beginRelease s).cmd.timeTag = s.cmd.timeTag ∧ (beginRelease s).pins.shunts = s.pins.shunts ∧
    (beginRelease s).servo.clearOrder = s.servo.clearOrder := by
  unfold beginRelease; simp only []; split <;> simp

@[simp] theorem judgeCharge_frame (s : State) :
    (judgeCharge s).pending = s.pending ∧ (judgeCharge s).age = s.age ∧ (judgeCharge s).loader = s.loader ∧
    (judgeCharge s).cfg = s.cfg ∧ (judgeCharge s).peers = s.peers ∧ (judgeCharge s).servo = s.servo ∧
    (judgeCharge s).crack = s.crack ∧ (judgeCharge s).alarm = s.alarm ∧
    (judgeCharge s).line.bitRate = s.line.bitRate ∧ (judgeCharge s).line.statusPeriod = s.line.statusPeriod ∧
    (judgeCharge s).line.loadGroup = s.line.loadGroup ∧ (judgeCharge s).line.statusTimer = s.line.statusTimer ∧
    (judgeCharge s).line.statusSlot = s.line.statusSlot ∧ txClass (judgeCharge s) = txClass s ∧
    (judgeCharge s).line.faultCount = s.line.faultCount ∧ (judgeCharge s).line.lineFault = s.line.lineFault ∧
    (judgeCharge s).line.ownCompleted = s.line.ownCompleted ∧ (judgeCharge s).line.alarmQ = s.line.alarmQ ∧
    (judgeCharge s).line.shuntSlot = s.line.shuntSlot ∧
    (judgeCharge s).line.shuntDoneBehind = s.line.shuntDoneBehind ∧ (judgeCharge s).recs.capture = s.recs.capture ∧
    (judgeCharge s).recs.scansLeft = s.recs.scansLeft ∧ (judgeCharge s).recs.captureKind = s.recs.captureKind ∧
    (judgeCharge s).recs.gap = s.recs.gap ∧ (judgeCharge s).recs.serial = s.recs.serial ∧
    (judgeCharge s).recs.pressure = s.recs.pressure ∧ (judgeCharge s).recs.freePages = s.recs.freePages ∧
    (judgeCharge s).seq.table = s.seq.table ∧ (judgeCharge s).seq.digest = s.seq.digest ∧
    (judgeCharge s).scan.timer = s.scan.timer ∧ (judgeCharge s).scan.runLength = s.scan.runLength ∧
    (judgeCharge s).scan.runTaken = s.scan.runTaken ∧ (judgeCharge s).scan.zero = s.scan.zero ∧
    (judgeCharge s).scan.shunt = s.scan.shunt ∧ (judgeCharge s).scan.shuntScans = s.scan.shuntScans ∧
    (judgeCharge s).scan.claimHeld = s.scan.claimHeld ∧ (judgeCharge s).scan.shuntActive = s.scan.shuntActive ∧
    (judgeCharge s).scan.holder = s.scan.holder ∧ (judgeCharge s).pins.pressOk = s.pins.pressOk ∧
    (judgeCharge s).pins.lockEngaged = s.pins.lockEngaged ∧ (judgeCharge s).pins.estop = s.pins.estop ∧
    (judgeCharge s).pins.loadCode = s.pins.loadCode ∧ (judgeCharge s).pins.bridgeCodes = s.pins.bridgeCodes ∧
    (judgeCharge s).pins.loopReadings = s.pins.loopReadings ∧ (judgeCharge s).cmd.queue = s.cmd.queue ∧
    (judgeCharge s).cmd.timeTag = s.cmd.timeTag ∧ (judgeCharge s).pins.shunts = s.pins.shunts := by
  unfold judgeCharge; repeat' split
  all_goals simp

@[simp] theorem judgeVent_frame (s : State) :
    (judgeVent s).pending = s.pending ∧ (judgeVent s).age = s.age ∧ (judgeVent s).loader = s.loader ∧
    (judgeVent s).cfg = s.cfg ∧ (judgeVent s).peers = s.peers ∧ (judgeVent s).servo = s.servo ∧
    (judgeVent s).crack = s.crack ∧ (judgeVent s).alarm = s.alarm ∧ (judgeVent s).line.bitRate = s.line.bitRate ∧
    (judgeVent s).line.statusPeriod = s.line.statusPeriod ∧ (judgeVent s).line.loadGroup = s.line.loadGroup ∧
    (judgeVent s).line.statusTimer = s.line.statusTimer ∧ (judgeVent s).line.statusSlot = s.line.statusSlot ∧
    txClass (judgeVent s) = txClass s ∧ (judgeVent s).line.faultCount = s.line.faultCount ∧
    (judgeVent s).line.lineFault = s.line.lineFault ∧ (judgeVent s).line.ownCompleted = s.line.ownCompleted ∧
    (judgeVent s).line.alarmQ = s.line.alarmQ ∧ (judgeVent s).line.shuntSlot = s.line.shuntSlot ∧
    (judgeVent s).line.shuntDoneBehind = s.line.shuntDoneBehind ∧ (judgeVent s).recs.capture = s.recs.capture ∧
    (judgeVent s).recs.scansLeft = s.recs.scansLeft ∧ (judgeVent s).recs.captureKind = s.recs.captureKind ∧
    (judgeVent s).recs.gap = s.recs.gap ∧ (judgeVent s).recs.serial = s.recs.serial ∧
    (judgeVent s).recs.pressure = s.recs.pressure ∧ (judgeVent s).recs.freePages = s.recs.freePages ∧
    (judgeVent s).seq.table = s.seq.table ∧ (judgeVent s).seq.digest = s.seq.digest ∧
    (judgeVent s).scan.timer = s.scan.timer ∧ (judgeVent s).scan.runLength = s.scan.runLength ∧
    (judgeVent s).scan.runTaken = s.scan.runTaken ∧ (judgeVent s).scan.zero = s.scan.zero ∧
    (judgeVent s).scan.shunt = s.scan.shunt ∧ (judgeVent s).scan.shuntScans = s.scan.shuntScans ∧
    (judgeVent s).scan.claimHeld = s.scan.claimHeld ∧ (judgeVent s).scan.shuntActive = s.scan.shuntActive ∧
    (judgeVent s).scan.holder = s.scan.holder ∧ (judgeVent s).pins.pressOk = s.pins.pressOk ∧
    (judgeVent s).pins.lockEngaged = s.pins.lockEngaged ∧ (judgeVent s).pins.estop = s.pins.estop ∧
    (judgeVent s).pins.loadCode = s.pins.loadCode ∧ (judgeVent s).pins.bridgeCodes = s.pins.bridgeCodes ∧
    (judgeVent s).pins.loopReadings = s.pins.loopReadings ∧ (judgeVent s).cmd.queue = s.cmd.queue ∧
    (judgeVent s).cmd.timeTag = s.cmd.timeTag ∧ (judgeVent s).pins.shunts = s.pins.shunts := by
  unfold judgeVent; repeat' split
  all_goals simp

@[simp] theorem judgeLock_frame (s : State) :
    (judgeLock s).pending = s.pending ∧ (judgeLock s).age = s.age ∧ (judgeLock s).loader = s.loader ∧
    (judgeLock s).cfg = s.cfg ∧ (judgeLock s).peers = s.peers ∧ (judgeLock s).servo = s.servo ∧
    (judgeLock s).crack = s.crack ∧ (judgeLock s).alarm = s.alarm ∧ (judgeLock s).line.bitRate = s.line.bitRate ∧
    (judgeLock s).line.statusPeriod = s.line.statusPeriod ∧ (judgeLock s).line.loadGroup = s.line.loadGroup ∧
    (judgeLock s).line.statusTimer = s.line.statusTimer ∧ (judgeLock s).line.statusSlot = s.line.statusSlot ∧
    txClass (judgeLock s) = txClass s ∧ (judgeLock s).line.faultCount = s.line.faultCount ∧
    (judgeLock s).line.lineFault = s.line.lineFault ∧ (judgeLock s).line.ownCompleted = s.line.ownCompleted ∧
    (judgeLock s).line.alarmQ = s.line.alarmQ ∧ (judgeLock s).line.shuntSlot = s.line.shuntSlot ∧
    (judgeLock s).line.shuntDoneBehind = s.line.shuntDoneBehind ∧ (judgeLock s).recs.capture = s.recs.capture ∧
    (judgeLock s).recs.scansLeft = s.recs.scansLeft ∧ (judgeLock s).recs.captureKind = s.recs.captureKind ∧
    (judgeLock s).recs.gap = s.recs.gap ∧ (judgeLock s).recs.serial = s.recs.serial ∧
    (judgeLock s).recs.pressure = s.recs.pressure ∧ (judgeLock s).recs.freePages = s.recs.freePages ∧
    (judgeLock s).seq.table = s.seq.table ∧ (judgeLock s).seq.digest = s.seq.digest ∧
    (judgeLock s).scan.timer = s.scan.timer ∧ (judgeLock s).scan.runLength = s.scan.runLength ∧
    (judgeLock s).scan.runTaken = s.scan.runTaken ∧ (judgeLock s).scan.zero = s.scan.zero ∧
    (judgeLock s).scan.shunt = s.scan.shunt ∧ (judgeLock s).scan.shuntScans = s.scan.shuntScans ∧
    (judgeLock s).scan.claimHeld = s.scan.claimHeld ∧ (judgeLock s).scan.shuntActive = s.scan.shuntActive ∧
    (judgeLock s).scan.holder = s.scan.holder ∧ (judgeLock s).pins.pressOk = s.pins.pressOk ∧
    (judgeLock s).pins.lockEngaged = s.pins.lockEngaged ∧ (judgeLock s).pins.estop = s.pins.estop ∧
    (judgeLock s).pins.loadCode = s.pins.loadCode ∧ (judgeLock s).pins.bridgeCodes = s.pins.bridgeCodes ∧
    (judgeLock s).pins.loopReadings = s.pins.loopReadings ∧ (judgeLock s).cmd.queue = s.cmd.queue ∧
    (judgeLock s).cmd.timeTag = s.cmd.timeTag ∧ (judgeLock s).pins.shunts = s.pins.shunts := by
  unfold judgeLock; repeat' split
  all_goals simp

@[simp] theorem judgeUnlock_frame (s : State) :
    (judgeUnlock s).pending = s.pending ∧ (judgeUnlock s).age = s.age ∧ (judgeUnlock s).loader = s.loader ∧
    (judgeUnlock s).cfg = s.cfg ∧ (judgeUnlock s).peers = s.peers ∧ (judgeUnlock s).servo = s.servo ∧
    (judgeUnlock s).crack = s.crack ∧ (judgeUnlock s).alarm = s.alarm ∧
    (judgeUnlock s).line.bitRate = s.line.bitRate ∧ (judgeUnlock s).line.statusPeriod = s.line.statusPeriod ∧
    (judgeUnlock s).line.loadGroup = s.line.loadGroup ∧ (judgeUnlock s).line.statusTimer = s.line.statusTimer ∧
    (judgeUnlock s).line.statusSlot = s.line.statusSlot ∧ txClass (judgeUnlock s) = txClass s ∧
    (judgeUnlock s).line.faultCount = s.line.faultCount ∧ (judgeUnlock s).line.lineFault = s.line.lineFault ∧
    (judgeUnlock s).line.ownCompleted = s.line.ownCompleted ∧ (judgeUnlock s).line.alarmQ = s.line.alarmQ ∧
    (judgeUnlock s).line.shuntSlot = s.line.shuntSlot ∧
    (judgeUnlock s).line.shuntDoneBehind = s.line.shuntDoneBehind ∧ (judgeUnlock s).recs.capture = s.recs.capture ∧
    (judgeUnlock s).recs.scansLeft = s.recs.scansLeft ∧ (judgeUnlock s).recs.captureKind = s.recs.captureKind ∧
    (judgeUnlock s).recs.gap = s.recs.gap ∧ (judgeUnlock s).recs.serial = s.recs.serial ∧
    (judgeUnlock s).recs.pressure = s.recs.pressure ∧ (judgeUnlock s).recs.freePages = s.recs.freePages ∧
    (judgeUnlock s).seq.table = s.seq.table ∧ (judgeUnlock s).seq.digest = s.seq.digest ∧
    (judgeUnlock s).scan.timer = s.scan.timer ∧ (judgeUnlock s).scan.runLength = s.scan.runLength ∧
    (judgeUnlock s).scan.runTaken = s.scan.runTaken ∧ (judgeUnlock s).scan.zero = s.scan.zero ∧
    (judgeUnlock s).scan.shunt = s.scan.shunt ∧ (judgeUnlock s).scan.shuntScans = s.scan.shuntScans ∧
    (judgeUnlock s).scan.claimHeld = s.scan.claimHeld ∧ (judgeUnlock s).scan.shuntActive = s.scan.shuntActive ∧
    (judgeUnlock s).scan.holder = s.scan.holder ∧ (judgeUnlock s).pins.pressOk = s.pins.pressOk ∧
    (judgeUnlock s).pins.lockEngaged = s.pins.lockEngaged ∧ (judgeUnlock s).pins.estop = s.pins.estop ∧
    (judgeUnlock s).pins.loadCode = s.pins.loadCode ∧ (judgeUnlock s).pins.bridgeCodes = s.pins.bridgeCodes ∧
    (judgeUnlock s).pins.loopReadings = s.pins.loopReadings ∧ (judgeUnlock s).cmd.queue = s.cmd.queue ∧
    (judgeUnlock s).cmd.timeTag = s.cmd.timeTag ∧ (judgeUnlock s).pins.shunts = s.pins.shunts := by
  unfold judgeUnlock; repeat' split
  all_goals simp

@[simp] theorem judgeCleartrip_frame (s : State) :
    (judgeCleartrip s).pending = s.pending ∧ (judgeCleartrip s).age = s.age ∧ (judgeCleartrip s).loader = s.loader ∧
    (judgeCleartrip s).cfg = s.cfg ∧ (judgeCleartrip s).peers = s.peers ∧ (judgeCleartrip s).servo = s.servo ∧
    (judgeCleartrip s).crack = s.crack ∧ (judgeCleartrip s).alarm = s.alarm ∧
    (judgeCleartrip s).line.bitRate = s.line.bitRate ∧ (judgeCleartrip s).line.statusPeriod = s.line.statusPeriod ∧
    (judgeCleartrip s).line.loadGroup = s.line.loadGroup ∧ (judgeCleartrip s).line.statusTimer = s.line.statusTimer ∧
    (judgeCleartrip s).line.statusSlot = s.line.statusSlot ∧ txClass (judgeCleartrip s) = txClass s ∧
    (judgeCleartrip s).line.faultCount = s.line.faultCount ∧ (judgeCleartrip s).line.lineFault = s.line.lineFault ∧
    (judgeCleartrip s).line.ownCompleted = s.line.ownCompleted ∧ (judgeCleartrip s).line.alarmQ = s.line.alarmQ ∧
    (judgeCleartrip s).line.shuntSlot = s.line.shuntSlot ∧
    (judgeCleartrip s).line.shuntDoneBehind = s.line.shuntDoneBehind ∧
    (judgeCleartrip s).recs.capture = s.recs.capture ∧ (judgeCleartrip s).recs.scansLeft = s.recs.scansLeft ∧
    (judgeCleartrip s).recs.captureKind = s.recs.captureKind ∧ (judgeCleartrip s).recs.gap = s.recs.gap ∧
    (judgeCleartrip s).recs.serial = s.recs.serial ∧ (judgeCleartrip s).recs.pressure = s.recs.pressure ∧
    (judgeCleartrip s).recs.freePages = s.recs.freePages ∧ (judgeCleartrip s).seq.table = s.seq.table ∧
    (judgeCleartrip s).seq.digest = s.seq.digest ∧ (judgeCleartrip s).scan.timer = s.scan.timer ∧
    (judgeCleartrip s).scan.runLength = s.scan.runLength ∧ (judgeCleartrip s).scan.runTaken = s.scan.runTaken ∧
    (judgeCleartrip s).scan.zero = s.scan.zero ∧ (judgeCleartrip s).scan.shunt = s.scan.shunt ∧
    (judgeCleartrip s).scan.shuntScans = s.scan.shuntScans ∧ (judgeCleartrip s).scan.claimHeld = s.scan.claimHeld ∧
    (judgeCleartrip s).scan.shuntActive = s.scan.shuntActive ∧ (judgeCleartrip s).scan.holder = s.scan.holder ∧
    (judgeCleartrip s).pins.pressOk = s.pins.pressOk ∧ (judgeCleartrip s).pins.lockEngaged = s.pins.lockEngaged ∧
    (judgeCleartrip s).pins.estop = s.pins.estop ∧ (judgeCleartrip s).pins.loadCode = s.pins.loadCode ∧
    (judgeCleartrip s).pins.bridgeCodes = s.pins.bridgeCodes ∧
    (judgeCleartrip s).pins.loopReadings = s.pins.loopReadings ∧ (judgeCleartrip s).cmd.queue = s.cmd.queue ∧
    (judgeCleartrip s).cmd.timeTag = s.cmd.timeTag ∧ (judgeCleartrip s).pins.shunts = s.pins.shunts := by
  unfold judgeCleartrip; repeat' split
  all_goals simp

@[simp] theorem decideWindow_frame (s : State) :
    (decideWindow s).pending = s.pending ∧ (decideWindow s).age = s.age ∧ (decideWindow s).loader = s.loader ∧
    (decideWindow s).cfg = s.cfg ∧ (decideWindow s).peers = s.peers ∧ (decideWindow s).crack = s.crack ∧
    (decideWindow s).alarm = s.alarm ∧ (decideWindow s).line.bitRate = s.line.bitRate ∧
    (decideWindow s).line.statusPeriod = s.line.statusPeriod ∧ (decideWindow s).line.loadGroup = s.line.loadGroup ∧
    (decideWindow s).line.statusTimer = s.line.statusTimer ∧ (decideWindow s).line.chargeSlot = s.line.chargeSlot ∧
    (decideWindow s).line.statusSlot = s.line.statusSlot ∧ txClass (decideWindow s) = txClass s ∧
    (decideWindow s).line.faultCount = s.line.faultCount ∧ (decideWindow s).line.lineFault = s.line.lineFault ∧
    (decideWindow s).line.ownCompleted = s.line.ownCompleted ∧ (decideWindow s).line.alarmQ = s.line.alarmQ ∧
    (decideWindow s).line.shuntSlot = s.line.shuntSlot ∧
    (decideWindow s).line.shuntDoneBehind = s.line.shuntDoneBehind ∧ (decideWindow s).recs.capture = s.recs.capture ∧
    (decideWindow s).recs.scansLeft = s.recs.scansLeft ∧ (decideWindow s).recs.captureKind = s.recs.captureKind ∧
    (decideWindow s).recs.gap = s.recs.gap ∧ (decideWindow s).recs.serial = s.recs.serial ∧
    (decideWindow s).recs.pressure = s.recs.pressure ∧ (decideWindow s).recs.freePages = s.recs.freePages ∧
    (decideWindow s).seq.table = s.seq.table ∧ (decideWindow s).seq.digest = s.seq.digest ∧
    (decideWindow s).scan.timer = s.scan.timer ∧ (decideWindow s).scan.runLength = s.scan.runLength ∧
    (decideWindow s).scan.runTaken = s.scan.runTaken ∧ (decideWindow s).scan.zero = s.scan.zero ∧
    (decideWindow s).scan.shunt = s.scan.shunt ∧ (decideWindow s).scan.shuntScans = s.scan.shuntScans ∧
    (decideWindow s).scan.claimHeld = s.scan.claimHeld ∧ (decideWindow s).scan.shuntActive = s.scan.shuntActive ∧
    (decideWindow s).scan.holder = s.scan.holder ∧ (decideWindow s).servo.timer = s.servo.timer ∧
    (decideWindow s).servo.lam = s.servo.lam ∧ (decideWindow s).servo.acc = s.servo.acc ∧
    (decideWindow s).servo.drive = s.servo.drive ∧ (decideWindow s).servo.fSet = s.servo.fSet ∧
    (decideWindow s).servo.fMeas = s.servo.fMeas ∧ (decideWindow s).servo.error = s.servo.error ∧
    (decideWindow s).servo.lagging = s.servo.lagging ∧ (decideWindow s).servo.tripCount = s.servo.tripCount ∧
    (decideWindow s).servo.overLimit = s.servo.overLimit ∧ (decideWindow s).servo.loadZero = s.servo.loadZero ∧
    (decideWindow s).pins.pressOk = s.pins.pressOk ∧ (decideWindow s).pins.lockEngaged = s.pins.lockEngaged ∧
    (decideWindow s).pins.estop = s.pins.estop ∧ (decideWindow s).pins.loadCode = s.pins.loadCode ∧
    (decideWindow s).pins.bridgeCodes = s.pins.bridgeCodes ∧
    (decideWindow s).pins.loopReadings = s.pins.loopReadings ∧ (decideWindow s).cmd.queue = s.cmd.queue ∧
    (decideWindow s).cmd.timeTag = s.cmd.timeTag ∧ (decideWindow s).pins.shunts = s.pins.shunts ∧
    (decideWindow s).servo.clearOrder = s.servo.clearOrder := by
  unfold decideWindow; simp only []; split <;> (try split) <;> simp

@[simp] theorem ownChargeCompleted_frame (s : State) :
    (ownChargeCompleted s).pending = s.pending ∧ (ownChargeCompleted s).age = s.age ∧
    (ownChargeCompleted s).loader = s.loader ∧ (ownChargeCompleted s).cfg = s.cfg ∧
    (ownChargeCompleted s).peers = s.peers ∧ (ownChargeCompleted s).crack = s.crack ∧
    (ownChargeCompleted s).alarm = s.alarm ∧ (ownChargeCompleted s).line.bitRate = s.line.bitRate ∧
    (ownChargeCompleted s).line.statusPeriod = s.line.statusPeriod ∧
    (ownChargeCompleted s).line.loadGroup = s.line.loadGroup ∧
    (ownChargeCompleted s).line.statusTimer = s.line.statusTimer ∧
    (ownChargeCompleted s).line.statusSlot = s.line.statusSlot ∧ txClass (ownChargeCompleted s) = txClass s ∧
    (ownChargeCompleted s).line.faultCount = s.line.faultCount ∧
    (ownChargeCompleted s).line.lineFault = s.line.lineFault ∧
    (ownChargeCompleted s).line.ownCompleted = s.line.ownCompleted ∧
    (ownChargeCompleted s).line.alarmQ = s.line.alarmQ ∧ (ownChargeCompleted s).line.shuntSlot = s.line.shuntSlot ∧
    (ownChargeCompleted s).line.shuntDoneBehind = s.line.shuntDoneBehind ∧
    (ownChargeCompleted s).recs.capture = s.recs.capture ∧ (ownChargeCompleted s).recs.scansLeft = s.recs.scansLeft ∧
    (ownChargeCompleted s).recs.captureKind = s.recs.captureKind ∧ (ownChargeCompleted s).recs.gap = s.recs.gap ∧
    (ownChargeCompleted s).recs.serial = s.recs.serial ∧ (ownChargeCompleted s).recs.pressure = s.recs.pressure ∧
    (ownChargeCompleted s).recs.freePages = s.recs.freePages ∧ (ownChargeCompleted s).seq.table = s.seq.table ∧
    (ownChargeCompleted s).seq.digest = s.seq.digest ∧ (ownChargeCompleted s).scan.timer = s.scan.timer ∧
    (ownChargeCompleted s).scan.runLength = s.scan.runLength ∧
    (ownChargeCompleted s).scan.runTaken = s.scan.runTaken ∧ (ownChargeCompleted s).scan.zero = s.scan.zero ∧
    (ownChargeCompleted s).scan.shunt = s.scan.shunt ∧ (ownChargeCompleted s).scan.shuntScans = s.scan.shuntScans ∧
    (ownChargeCompleted s).scan.claimHeld = s.scan.claimHeld ∧
    (ownChargeCompleted s).scan.shuntActive = s.scan.shuntActive ∧
    (ownChargeCompleted s).scan.holder = s.scan.holder ∧ (ownChargeCompleted s).servo.timer = s.servo.timer ∧
    (ownChargeCompleted s).servo.lam = s.servo.lam ∧ (ownChargeCompleted s).servo.acc = s.servo.acc ∧
    (ownChargeCompleted s).servo.drive = s.servo.drive ∧ (ownChargeCompleted s).servo.fSet = s.servo.fSet ∧
    (ownChargeCompleted s).servo.fMeas = s.servo.fMeas ∧ (ownChargeCompleted s).servo.error = s.servo.error ∧
    (ownChargeCompleted s).servo.lagging = s.servo.lagging ∧
    (ownChargeCompleted s).servo.tripCount = s.servo.tripCount ∧
    (ownChargeCompleted s).servo.overLimit = s.servo.overLimit ∧
    (ownChargeCompleted s).servo.loadZero = s.servo.loadZero ∧ (ownChargeCompleted s).pins.pressOk = s.pins.pressOk ∧
    (ownChargeCompleted s).pins.lockEngaged = s.pins.lockEngaged ∧ (ownChargeCompleted s).pins.estop = s.pins.estop ∧
    (ownChargeCompleted s).pins.loadCode = s.pins.loadCode ∧
    (ownChargeCompleted s).pins.bridgeCodes = s.pins.bridgeCodes ∧
    (ownChargeCompleted s).pins.loopReadings = s.pins.loopReadings ∧ (ownChargeCompleted s).cmd.queue = s.cmd.queue ∧
    (ownChargeCompleted s).cmd.timeTag = s.cmd.timeTag ∧ (ownChargeCompleted s).pins.shunts = s.pins.shunts ∧
    (ownChargeCompleted s).servo.clearOrder = s.servo.clearOrder := by
  unfold ownChargeCompleted; simp only []; split <;> simp

@[simp] theorem windowExpires_frame (s : State) :
    (windowExpires s).pending = s.pending ∧ (windowExpires s).age = s.age ∧ (windowExpires s).loader = s.loader ∧
    (windowExpires s).cfg = s.cfg ∧ (windowExpires s).pins = s.pins ∧ (windowExpires s).peers = s.peers ∧
    (windowExpires s).seq = s.seq ∧ (windowExpires s).servo = s.servo ∧ (windowExpires s).scan = s.scan ∧
    (windowExpires s).crack = s.crack ∧ (windowExpires s).alarm = s.alarm ∧ (windowExpires s).recs = s.recs ∧
    (windowExpires s).cmd = s.cmd ∧ (windowExpires s).line.bitRate = s.line.bitRate ∧
    (windowExpires s).line.statusPeriod = s.line.statusPeriod ∧ (windowExpires s).line.loadGroup = s.line.loadGroup ∧
    (windowExpires s).line.statusTimer = s.line.statusTimer ∧ (windowExpires s).line.statusSlot = s.line.statusSlot ∧
    (windowExpires s).line.tx = s.line.tx ∧ (windowExpires s).line.faultCount = s.line.faultCount ∧
    (windowExpires s).line.lineFault = s.line.lineFault ∧ (windowExpires s).line.ownCompleted = s.line.ownCompleted ∧
    (windowExpires s).line.alarmQ = s.line.alarmQ ∧ (windowExpires s).line.shuntSlot = s.line.shuntSlot ∧
    (windowExpires s).line.shuntDoneBehind = s.line.shuntDoneBehind ∧ (windowExpires s).line.replyQ = s.line.replyQ ∧
    (windowExpires s).line.dataQ = s.line.dataQ ∧ (windowExpires s).line.heldReplies = s.line.heldReplies ∧
    (windowExpires s).line.events = s.line.events ∧ (windowExpires s).line.afterTake = s.line.afterTake ∧
    (windowExpires s).act.state = s.act.state ∧ (windowExpires s).act.purpose = s.act.purpose ∧
    (windowExpires s).act.lockRef = s.act.lockRef ∧ (windowExpires s).act.lockRefDue = s.act.lockRefDue := by
  simp [windowExpires]

@[simp] theorem pressOkChanged_frame (s : State) :
    (pressOkChanged s).pending = s.pending ∧ (pressOkChanged s).age = s.age ∧ (pressOkChanged s).loader = s.loader ∧
    (pressOkChanged s).cfg = s.cfg ∧ (pressOkChanged s).peers = s.peers ∧ (pressOkChanged s).crack = s.crack ∧
    (pressOkChanged s).alarm = s.alarm ∧ (pressOkChanged s).line.bitRate = s.line.bitRate ∧
    (pressOkChanged s).line.statusPeriod = s.line.statusPeriod ∧
    (pressOkChanged s).line.loadGroup = s.line.loadGroup ∧ (pressOkChanged s).line.statusTimer = s.line.statusTimer ∧
    (pressOkChanged s).line.chargeSlot = s.line.chargeSlot ∧ (pressOkChanged s).line.statusSlot = s.line.statusSlot ∧
    txClass (pressOkChanged s) = txClass s ∧ (pressOkChanged s).line.faultCount = s.line.faultCount ∧
    (pressOkChanged s).line.lineFault = s.line.lineFault ∧
    (pressOkChanged s).line.ownCompleted = s.line.ownCompleted ∧ (pressOkChanged s).line.alarmQ = s.line.alarmQ ∧
    (pressOkChanged s).line.shuntSlot = s.line.shuntSlot ∧
    (pressOkChanged s).line.shuntDoneBehind = s.line.shuntDoneBehind ∧
    (pressOkChanged s).recs.capture = s.recs.capture ∧ (pressOkChanged s).recs.scansLeft = s.recs.scansLeft ∧
    (pressOkChanged s).recs.captureKind = s.recs.captureKind ∧ (pressOkChanged s).recs.gap = s.recs.gap ∧
    (pressOkChanged s).recs.serial = s.recs.serial ∧ (pressOkChanged s).recs.pressure = s.recs.pressure ∧
    (pressOkChanged s).recs.freePages = s.recs.freePages ∧ (pressOkChanged s).seq.table = s.seq.table ∧
    (pressOkChanged s).seq.digest = s.seq.digest ∧ (pressOkChanged s).scan.timer = s.scan.timer ∧
    (pressOkChanged s).scan.runLength = s.scan.runLength ∧ (pressOkChanged s).scan.runTaken = s.scan.runTaken ∧
    (pressOkChanged s).scan.zero = s.scan.zero ∧ (pressOkChanged s).scan.shunt = s.scan.shunt ∧
    (pressOkChanged s).scan.shuntScans = s.scan.shuntScans ∧ (pressOkChanged s).scan.claimHeld = s.scan.claimHeld ∧
    (pressOkChanged s).scan.shuntActive = s.scan.shuntActive ∧ (pressOkChanged s).scan.holder = s.scan.holder ∧
    (pressOkChanged s).servo.timer = s.servo.timer ∧ (pressOkChanged s).servo.lam = s.servo.lam ∧
    (pressOkChanged s).servo.acc = s.servo.acc ∧ (pressOkChanged s).servo.integral = s.servo.integral ∧
    (pressOkChanged s).servo.drive = s.servo.drive ∧ (pressOkChanged s).servo.fSet = s.servo.fSet ∧
    (pressOkChanged s).servo.fMeas = s.servo.fMeas ∧ (pressOkChanged s).servo.error = s.servo.error ∧
    (pressOkChanged s).servo.lagging = s.servo.lagging ∧ (pressOkChanged s).servo.tripCount = s.servo.tripCount ∧
    (pressOkChanged s).servo.overLimit = s.servo.overLimit ∧ (pressOkChanged s).servo.loadZero = s.servo.loadZero ∧
    (pressOkChanged s).act.chargeList = s.act.chargeList ∧ (pressOkChanged s).act.lockRef = s.act.lockRef ∧
    (pressOkChanged s).act.lockRefDue = s.act.lockRefDue ∧ (pressOkChanged s).pins.pressOk = s.pins.pressOk ∧
    (pressOkChanged s).pins.lockEngaged = s.pins.lockEngaged ∧ (pressOkChanged s).pins.estop = s.pins.estop ∧
    (pressOkChanged s).pins.loadCode = s.pins.loadCode ∧ (pressOkChanged s).pins.bridgeCodes = s.pins.bridgeCodes ∧
    (pressOkChanged s).pins.loopReadings = s.pins.loopReadings ∧ (pressOkChanged s).cmd.queue = s.cmd.queue ∧
    (pressOkChanged s).cmd.timeTag = s.cmd.timeTag ∧ (pressOkChanged s).pins.shunts = s.pins.shunts ∧
    (pressOkChanged s).servo.clearOrder = s.servo.clearOrder := by
  unfold pressOkChanged; split <;> (try split) <;> simp

@[simp] theorem lockEngagedChanged_frame (s : State) :
    (lockEngagedChanged s).pending = s.pending ∧ (lockEngagedChanged s).age = s.age ∧
    (lockEngagedChanged s).loader = s.loader ∧ (lockEngagedChanged s).cfg = s.cfg ∧
    (lockEngagedChanged s).peers = s.peers ∧ (lockEngagedChanged s).crack = s.crack ∧
    (lockEngagedChanged s).line.bitRate = s.line.bitRate ∧
    (lockEngagedChanged s).line.statusPeriod = s.line.statusPeriod ∧
    (lockEngagedChanged s).line.loadGroup = s.line.loadGroup ∧
    (lockEngagedChanged s).line.statusTimer = s.line.statusTimer ∧
    (lockEngagedChanged s).line.chargeSlot = s.line.chargeSlot ∧
    (lockEngagedChanged s).line.statusSlot = s.line.statusSlot ∧ txClass (lockEngagedChanged s) = txClass s ∧
    (lockEngagedChanged s).line.faultCount = s.line.faultCount ∧
    (lockEngagedChanged s).line.lineFault = s.line.lineFault ∧
    (lockEngagedChanged s).line.ownCompleted = s.line.ownCompleted ∧ (lockEngagedChanged s).cmd.queue = s.cmd.queue ∧
    (lockEngagedChanged s).cmd.timeTag = s.cmd.timeTag ∧ (lockEngagedChanged s).recs.gap = s.recs.gap ∧
    (lockEngagedChanged s).recs.serial = s.recs.serial ∧ (lockEngagedChanged s).recs.pressure = s.recs.pressure ∧
    (lockEngagedChanged s).recs.freePages = s.recs.freePages ∧ (lockEngagedChanged s).seq.table = s.seq.table ∧
    (lockEngagedChanged s).seq.digest = s.seq.digest ∧ (lockEngagedChanged s).scan.timer = s.scan.timer ∧
    (lockEngagedChanged s).scan.runLength = s.scan.runLength ∧
    (lockEngagedChanged s).scan.runTaken = s.scan.runTaken ∧ (lockEngagedChanged s).scan.zero = s.scan.zero ∧
    (lockEngagedChanged s).scan.holder = s.scan.holder ∧ (lockEngagedChanged s).pins.pressOk = s.pins.pressOk ∧
    (lockEngagedChanged s).pins.lockEngaged = s.pins.lockEngaged ∧ (lockEngagedChanged s).pins.estop = s.pins.estop ∧
    (lockEngagedChanged s).pins.loadCode = s.pins.loadCode ∧
    (lockEngagedChanged s).pins.bridgeCodes = s.pins.bridgeCodes ∧
    (lockEngagedChanged s).pins.loopReadings = s.pins.loopReadings ∧
    (lockEngagedChanged s).alarm.causes = s.alarm.causes ∧ (lockEngagedChanged s).servo.timer = s.servo.timer ∧
    (lockEngagedChanged s).servo.lam = s.servo.lam ∧ (lockEngagedChanged s).servo.acc = s.servo.acc ∧
    (lockEngagedChanged s).servo.integral = s.servo.integral ∧ (lockEngagedChanged s).servo.drive = s.servo.drive ∧
    (lockEngagedChanged s).servo.fSet = s.servo.fSet ∧ (lockEngagedChanged s).servo.fMeas = s.servo.fMeas ∧
    (lockEngagedChanged s).servo.error = s.servo.error ∧ (lockEngagedChanged s).servo.lagging = s.servo.lagging ∧
    (lockEngagedChanged s).servo.tripCount = s.servo.tripCount ∧
    (lockEngagedChanged s).servo.overLimit = s.servo.overLimit ∧
    (lockEngagedChanged s).servo.loadZero = s.servo.loadZero ∧
    (lockEngagedChanged s).act.chargeList = s.act.chargeList := by
  unfold lockEngagedChanged; repeat' split
  all_goals simp

@[simp] theorem lockCheckExpires_frame (s : State) :
    (lockCheckExpires s).pending = s.pending ∧ (lockCheckExpires s).age = s.age ∧
    (lockCheckExpires s).loader = s.loader ∧ (lockCheckExpires s).cfg = s.cfg ∧
    (lockCheckExpires s).peers = s.peers ∧ (lockCheckExpires s).crack = s.crack ∧
    (lockCheckExpires s).line.bitRate = s.line.bitRate ∧
    (lockCheckExpires s).line.statusPeriod = s.line.statusPeriod ∧
    (lockCheckExpires s).line.loadGroup = s.line.loadGroup ∧
    (lockCheckExpires s).line.statusTimer = s.line.statusTimer ∧
    (lockCheckExpires s).line.chargeSlot = s.line.chargeSlot ∧
    (lockCheckExpires s).line.statusSlot = s.line.statusSlot ∧ txClass (lockCheckExpires s) = txClass s ∧
    (lockCheckExpires s).line.faultCount = s.line.faultCount ∧
    (lockCheckExpires s).line.lineFault = s.line.lineFault ∧
    (lockCheckExpires s).line.ownCompleted = s.line.ownCompleted ∧ (lockCheckExpires s).cmd.queue = s.cmd.queue ∧
    (lockCheckExpires s).cmd.timeTag = s.cmd.timeTag ∧ (lockCheckExpires s).recs.gap = s.recs.gap ∧
    (lockCheckExpires s).recs.serial = s.recs.serial ∧ (lockCheckExpires s).recs.pressure = s.recs.pressure ∧
    (lockCheckExpires s).recs.freePages = s.recs.freePages ∧ (lockCheckExpires s).seq.table = s.seq.table ∧
    (lockCheckExpires s).seq.digest = s.seq.digest ∧ (lockCheckExpires s).scan.timer = s.scan.timer ∧
    (lockCheckExpires s).scan.runLength = s.scan.runLength ∧ (lockCheckExpires s).scan.runTaken = s.scan.runTaken ∧
    (lockCheckExpires s).scan.zero = s.scan.zero ∧ (lockCheckExpires s).scan.holder = s.scan.holder ∧
    (lockCheckExpires s).servo.timer = s.servo.timer ∧ (lockCheckExpires s).servo.lam = s.servo.lam ∧
    (lockCheckExpires s).servo.acc = s.servo.acc ∧ (lockCheckExpires s).servo.integral = s.servo.integral ∧
    (lockCheckExpires s).servo.drive = s.servo.drive ∧ (lockCheckExpires s).servo.fSet = s.servo.fSet ∧
    (lockCheckExpires s).servo.fMeas = s.servo.fMeas ∧ (lockCheckExpires s).servo.error = s.servo.error ∧
    (lockCheckExpires s).servo.lagging = s.servo.lagging ∧ (lockCheckExpires s).servo.tripCount = s.servo.tripCount ∧
    (lockCheckExpires s).servo.overLimit = s.servo.overLimit ∧
    (lockCheckExpires s).servo.reacquire = s.servo.reacquire ∧
    (lockCheckExpires s).servo.loadZero = s.servo.loadZero ∧ (lockCheckExpires s).act.chargeList = s.act.chargeList ∧
    (lockCheckExpires s).act.lockRef = s.act.lockRef ∧ (lockCheckExpires s).act.lockRefDue = s.act.lockRefDue ∧
    (lockCheckExpires s).pins.pressOk = s.pins.pressOk ∧ (lockCheckExpires s).pins.lockEngaged = s.pins.lockEngaged ∧
    (lockCheckExpires s).pins.estop = s.pins.estop ∧ (lockCheckExpires s).pins.loadCode = s.pins.loadCode ∧
    (lockCheckExpires s).pins.bridgeCodes = s.pins.bridgeCodes ∧
    (lockCheckExpires s).pins.loopReadings = s.pins.loopReadings ∧
    (lockCheckExpires s).alarm.causes = s.alarm.causes := by
  simp [lockCheckExpires]

@[simp] theorem firstLockRef_frame (s : State) :
    (firstLockRef s).pending = s.pending ∧ (firstLockRef s).age = s.age ∧ (firstLockRef s).loader = s.loader ∧
    (firstLockRef s).cfg = s.cfg ∧ (firstLockRef s).pins = s.pins ∧ (firstLockRef s).line = s.line ∧
    (firstLockRef s).peers = s.peers ∧ (firstLockRef s).seq = s.seq ∧ (firstLockRef s).servo = s.servo ∧
    (firstLockRef s).scan = s.scan ∧ (firstLockRef s).crack = s.crack ∧ (firstLockRef s).alarm = s.alarm ∧
    (firstLockRef s).recs = s.recs ∧ (firstLockRef s).cmd = s.cmd ∧ (firstLockRef s).act.state = s.act.state ∧
    (firstLockRef s).act.purpose = s.act.purpose ∧ (firstLockRef s).act.chargeList = s.act.chargeList := by
  unfold firstLockRef; split <;> (try (simp only []; split)) <;> simp

@[simp] theorem tripOnEstop_frame (s : State) :
    (tripOnEstop s).pending = s.pending ∧ (tripOnEstop s).age = s.age ∧ (tripOnEstop s).loader = s.loader ∧
    (tripOnEstop s).cfg = s.cfg ∧ (tripOnEstop s).peers = s.peers ∧ (tripOnEstop s).crack = s.crack ∧
    (tripOnEstop s).alarm = s.alarm ∧ (tripOnEstop s).line.bitRate = s.line.bitRate ∧
    (tripOnEstop s).line.statusPeriod = s.line.statusPeriod ∧ (tripOnEstop s).line.loadGroup = s.line.loadGroup ∧
    (tripOnEstop s).line.statusTimer = s.line.statusTimer ∧ (tripOnEstop s).line.chargeSlot = s.line.chargeSlot ∧
    (tripOnEstop s).line.statusSlot = s.line.statusSlot ∧ txClass (tripOnEstop s) = txClass s ∧
    (tripOnEstop s).line.faultCount = s.line.faultCount ∧ (tripOnEstop s).line.lineFault = s.line.lineFault ∧
    (tripOnEstop s).line.ownCompleted = s.line.ownCompleted ∧ (tripOnEstop s).line.alarmQ = s.line.alarmQ ∧
    (tripOnEstop s).line.shuntSlot = s.line.shuntSlot ∧
    (tripOnEstop s).line.shuntDoneBehind = s.line.shuntDoneBehind ∧ (tripOnEstop s).cmd.queue = s.cmd.queue ∧
    (tripOnEstop s).cmd.timeTag = s.cmd.timeTag ∧ (tripOnEstop s).recs.capture = s.recs.capture ∧
    (tripOnEstop s).recs.scansLeft = s.recs.scansLeft ∧ (tripOnEstop s).recs.captureKind = s.recs.captureKind ∧
    (tripOnEstop s).recs.gap = s.recs.gap ∧ (tripOnEstop s).recs.serial = s.recs.serial ∧
    (tripOnEstop s).recs.pressure = s.recs.pressure ∧ (tripOnEstop s).recs.freePages = s.recs.freePages ∧
    (tripOnEstop s).seq.table = s.seq.table ∧ (tripOnEstop s).seq.digest = s.seq.digest ∧
    (tripOnEstop s).scan.timer = s.scan.timer ∧ (tripOnEstop s).scan.runLength = s.scan.runLength ∧
    (tripOnEstop s).scan.runTaken = s.scan.runTaken ∧ (tripOnEstop s).scan.zero = s.scan.zero ∧
    (tripOnEstop s).scan.shunt = s.scan.shunt ∧ (tripOnEstop s).scan.shuntScans = s.scan.shuntScans ∧
    (tripOnEstop s).scan.claimHeld = s.scan.claimHeld ∧ (tripOnEstop s).scan.shuntActive = s.scan.shuntActive ∧
    (tripOnEstop s).scan.holder = s.scan.holder ∧ (tripOnEstop s).servo.timer = s.servo.timer ∧
    (tripOnEstop s).servo.lam = s.servo.lam ∧ (tripOnEstop s).servo.acc = s.servo.acc ∧
    (tripOnEstop s).servo.integral = s.servo.integral ∧ (tripOnEstop s).servo.drive = s.servo.drive ∧
    (tripOnEstop s).servo.fSet = s.servo.fSet ∧ (tripOnEstop s).servo.fMeas = s.servo.fMeas ∧
    (tripOnEstop s).servo.error = s.servo.error ∧ (tripOnEstop s).servo.lagging = s.servo.lagging ∧
    (tripOnEstop s).servo.tripCount = s.servo.tripCount ∧ (tripOnEstop s).servo.overLimit = s.servo.overLimit ∧
    (tripOnEstop s).servo.reacquire = s.servo.reacquire ∧ (tripOnEstop s).servo.loadZero = s.servo.loadZero ∧
    (tripOnEstop s).act.chargeList = s.act.chargeList ∧ (tripOnEstop s).act.lockRef = s.act.lockRef ∧
    (tripOnEstop s).act.lockRefDue = s.act.lockRefDue ∧ (tripOnEstop s).pins.pressOk = s.pins.pressOk ∧
    (tripOnEstop s).pins.lockEngaged = s.pins.lockEngaged ∧ (tripOnEstop s).pins.estop = s.pins.estop ∧
    (tripOnEstop s).pins.loadCode = s.pins.loadCode ∧ (tripOnEstop s).pins.bridgeCodes = s.pins.bridgeCodes ∧
    (tripOnEstop s).pins.loopReadings = s.pins.loopReadings ∧ (tripOnEstop s).pins.shunts = s.pins.shunts := by
  unfold tripOnEstop; split <;> simp

@[simp] theorem raiseEstop_frame (s : State) :
    (raiseEstop s).pending = s.pending ∧ (raiseEstop s).age = s.age ∧ (raiseEstop s).loader = s.loader ∧
    (raiseEstop s).cfg = s.cfg ∧ (raiseEstop s).peers = s.peers ∧ (raiseEstop s).crack = s.crack ∧
    (raiseEstop s).line.bitRate = s.line.bitRate ∧ (raiseEstop s).line.statusPeriod = s.line.statusPeriod ∧
    (raiseEstop s).line.loadGroup = s.line.loadGroup ∧ (raiseEstop s).line.statusTimer = s.line.statusTimer ∧
    (raiseEstop s).line.chargeSlot = s.line.chargeSlot ∧ (raiseEstop s).line.statusSlot = s.line.statusSlot ∧
    txClass (raiseEstop s) = txClass s ∧ (raiseEstop s).line.faultCount = s.line.faultCount ∧
    (raiseEstop s).line.lineFault = s.line.lineFault ∧ (raiseEstop s).line.ownCompleted = s.line.ownCompleted ∧
    (raiseEstop s).cmd.queue = s.cmd.queue ∧ (raiseEstop s).cmd.timeTag = s.cmd.timeTag ∧
    (raiseEstop s).recs.gap = s.recs.gap ∧ (raiseEstop s).recs.serial = s.recs.serial ∧
    (raiseEstop s).recs.pressure = s.recs.pressure ∧ (raiseEstop s).recs.freePages = s.recs.freePages ∧
    (raiseEstop s).seq.table = s.seq.table ∧ (raiseEstop s).seq.digest = s.seq.digest ∧
    (raiseEstop s).scan.timer = s.scan.timer ∧ (raiseEstop s).scan.runLength = s.scan.runLength ∧
    (raiseEstop s).scan.runTaken = s.scan.runTaken ∧ (raiseEstop s).scan.zero = s.scan.zero ∧
    (raiseEstop s).scan.holder = s.scan.holder ∧ (raiseEstop s).servo.timer = s.servo.timer ∧
    (raiseEstop s).servo.lam = s.servo.lam ∧ (raiseEstop s).servo.acc = s.servo.acc ∧
    (raiseEstop s).servo.integral = s.servo.integral ∧ (raiseEstop s).servo.drive = s.servo.drive ∧
    (raiseEstop s).servo.fSet = s.servo.fSet ∧ (raiseEstop s).servo.fMeas = s.servo.fMeas ∧
    (raiseEstop s).servo.error = s.servo.error ∧ (raiseEstop s).servo.lagging = s.servo.lagging ∧
    (raiseEstop s).servo.tripCount = s.servo.tripCount ∧ (raiseEstop s).servo.overLimit = s.servo.overLimit ∧
    (raiseEstop s).servo.reacquire = s.servo.reacquire ∧ (raiseEstop s).servo.loadZero = s.servo.loadZero ∧
    (raiseEstop s).act.chargeList = s.act.chargeList ∧ (raiseEstop s).act.lockRef = s.act.lockRef ∧
    (raiseEstop s).act.lockRefDue = s.act.lockRefDue ∧ (raiseEstop s).pins.pressOk = s.pins.pressOk ∧
    (raiseEstop s).pins.lockEngaged = s.pins.lockEngaged ∧ (raiseEstop s).pins.estop = s.pins.estop ∧
    (raiseEstop s).pins.loadCode = s.pins.loadCode ∧ (raiseEstop s).pins.bridgeCodes = s.pins.bridgeCodes ∧
    (raiseEstop s).pins.loopReadings = s.pins.loopReadings ∧
    (raiseEstop s).alarm.latch = latchMax s.alarm.latch .dump := by
  simp [raiseEstop]

end Sys2Proof.Machine
end

