-- ==== Sys2Proof/Laws/FramesMeasure.lean ====
section
/-! SUPPORT. What each operation of the record memory, the crack monitor, the strain scanner, the peer table, the alarm unit
and the command queue leaves alone, once. -/
namespace Sys2Proof.Machine

open Sys2Proof

/-! ### Record memory -/

@[simp] theorem openBlock_frame (n : Nat) (s : State) :
    (openBlock n s).pending = s.pending ∧ (openBlock n s).age = s.age ∧ (openBlock n s).loader = s.loader ∧
    (openBlock n s).cfg = s.cfg ∧ (openBlock n s).pins = s.pins ∧ (openBlock n s).line = s.line ∧
    (openBlock n s).peers = s.peers ∧ (openBlock n s).seq = s.seq ∧ (openBlock n s).servo = s.servo ∧
    (openBlock n s).act = s.act ∧ (openBlock n s).scan = s.scan ∧ (openBlock n s).crack = s.crack ∧
    (openBlock n s).alarm = s.alarm ∧ (openBlock n s).cmd = s.cmd ∧ (openBlock n s).recs.sealedQ = s.recs.sealedQ ∧
    (openBlock n s).recs.fetchQ = s.recs.fetchQ ∧ (openBlock n s).recs.sending = s.recs.sending ∧
    (openBlock n s).recs.capture = s.recs.capture ∧ (openBlock n s).recs.scansLeft = s.recs.scansLeft ∧
    (openBlock n s).recs.captureKind = s.recs.captureKind := by
  simp [openBlock]

@[simp] theorem dropSample_frame (s : State) :
    (dropSample s).pending = s.pending ∧ (dropSample s).age = s.age ∧ (dropSample s).loader = s.loader ∧
    (dropSample s).cfg = s.cfg ∧ (dropSample s).pins = s.pins ∧ (dropSample s).peers = s.peers ∧
    (dropSample s).seq = s.seq ∧ (dropSample s).servo = s.servo ∧ (dropSample s).act = s.act ∧
    (dropSample s).scan = s.scan ∧ (dropSample s).crack = s.crack ∧ (dropSample s).alarm = s.alarm ∧
    (dropSample s).cmd = s.cmd ∧ (dropSample s).line.bitRate = s.line.bitRate ∧
    (dropSample s).line.statusPeriod = s.line.statusPeriod ∧ (dropSample s).line.loadGroup = s.line.loadGroup ∧
    (dropSample s).line.statusTimer = s.line.statusTimer ∧ (dropSample s).line.chargeSlot = s.line.chargeSlot ∧
    (dropSample s).line.statusSlot = s.line.statusSlot ∧ (dropSample s).line.tx = s.line.tx ∧
    (dropSample s).line.faultCount = s.line.faultCount ∧ (dropSample s).line.lineFault = s.line.lineFault ∧
    (dropSample s).line.ownCompleted = s.line.ownCompleted ∧ (dropSample s).line.alarmQ = s.line.alarmQ ∧
    (dropSample s).line.shuntSlot = s.line.shuntSlot ∧ (dropSample s).line.shuntDoneBehind = s.line.shuntDoneBehind ∧
    (dropSample s).line.replyQ = s.line.replyQ ∧ (dropSample s).line.dataQ = s.line.dataQ ∧
    (dropSample s).line.heldReplies = s.line.heldReplies ∧ (dropSample s).recs.capture = s.recs.capture ∧
    (dropSample s).recs.scansLeft = s.recs.scansLeft ∧ (dropSample s).recs.captureKind = s.recs.captureKind := by
  simp [dropSample]

@[simp] theorem writeSample_frame (counts : List Nat) (n : Nat) (s : State) :
    (writeSample counts n s).pending = s.pending ∧ (writeSample counts n s).age = s.age ∧
    (writeSample counts n s).loader = s.loader ∧ (writeSample counts n s).cfg = s.cfg ∧
    (writeSample counts n s).pins = s.pins ∧ (writeSample counts n s).peers = s.peers ∧
    (writeSample counts n s).seq = s.seq ∧ (writeSample counts n s).servo = s.servo ∧
    (writeSample counts n s).act = s.act ∧ (writeSample counts n s).scan = s.scan ∧
    (writeSample counts n s).crack = s.crack ∧ (writeSample counts n s).alarm = s.alarm ∧
    (writeSample counts n s).cmd = s.cmd ∧ (writeSample counts n s).line.bitRate = s.line.bitRate ∧
    (writeSample counts n s).line.statusPeriod = s.line.statusPeriod ∧
    (writeSample counts n s).line.loadGroup = s.line.loadGroup ∧
    (writeSample counts n s).line.statusTimer = s.line.statusTimer ∧
    (writeSample counts n s).line.chargeSlot = s.line.chargeSlot ∧
    (writeSample counts n s).line.statusSlot = s.line.statusSlot ∧ (writeSample counts n s).line.tx = s.line.tx ∧
    (writeSample counts n s).line.faultCount = s.line.faultCount ∧
    (writeSample counts n s).line.lineFault = s.line.lineFault ∧
    (writeSample counts n s).line.ownCompleted = s.line.ownCompleted ∧
    (writeSample counts n s).line.alarmQ = s.line.alarmQ ∧
    (writeSample counts n s).line.shuntSlot = s.line.shuntSlot ∧
    (writeSample counts n s).line.shuntDoneBehind = s.line.shuntDoneBehind ∧
    (writeSample counts n s).recs.capture = s.recs.capture ∧
    (writeSample counts n s).recs.scansLeft = s.recs.scansLeft ∧
    (writeSample counts n s).recs.captureKind = s.recs.captureKind ∧ (writeSample counts n s).recs.gap = s.recs.gap ∧
    (writeSample counts n s).recs.serial = s.recs.serial ∧ (writeSample counts n s).recs.pressure = s.recs.pressure ∧
    (writeSample counts n s).recs.freePages = s.recs.freePages := by
  unfold writeSample; simp only []; split <;> simp

@[simp] theorem sealIfOld_frame (s : State) :
    (sealIfOld s).pending = s.pending ∧ (sealIfOld s).age = s.age ∧ (sealIfOld s).loader = s.loader ∧
    (sealIfOld s).cfg = s.cfg ∧ (sealIfOld s).pins = s.pins ∧ (sealIfOld s).peers = s.peers ∧
    (sealIfOld s).seq = s.seq ∧ (sealIfOld s).servo = s.servo ∧ (sealIfOld s).act = s.act ∧
    (sealIfOld s).scan = s.scan ∧ (sealIfOld s).crack = s.crack ∧ (sealIfOld s).alarm = s.alarm ∧
    (sealIfOld s).cmd = s.cmd ∧ (sealIfOld s).line.bitRate = s.line.bitRate ∧
    (sealIfOld s).line.statusPeriod = s.line.statusPeriod ∧ (sealIfOld s).line.loadGroup = s.line.loadGroup ∧
    (sealIfOld s).line.statusTimer = s.line.statusTimer ∧ (sealIfOld s).line.chargeSlot = s.line.chargeSlot ∧
    (sealIfOld s).line.statusSlot = s.line.statusSlot ∧ (sealIfOld s).line.tx = s.line.tx ∧
    (sealIfOld s).line.faultCount = s.line.faultCount ∧ (sealIfOld s).line.lineFault = s.line.lineFault ∧
    (sealIfOld s).line.ownCompleted = s.line.ownCompleted ∧ (sealIfOld s).line.alarmQ = s.line.alarmQ ∧
    (sealIfOld s).line.shuntSlot = s.line.shuntSlot ∧ (sealIfOld s).line.shuntDoneBehind = s.line.shuntDoneBehind ∧
    (sealIfOld s).recs.capture = s.recs.capture ∧ (sealIfOld s).recs.scansLeft = s.recs.scansLeft ∧
    (sealIfOld s).recs.captureKind = s.recs.captureKind ∧ (sealIfOld s).recs.gap = s.recs.gap ∧
    (sealIfOld s).recs.serial = s.recs.serial ∧ (sealIfOld s).recs.pressure = s.recs.pressure ∧
    (sealIfOld s).recs.freePages = s.recs.freePages := by
  unfold sealIfOld; split <;> (try split) <;> simp

@[simp] theorem storeSample_frame (counts : List Nat) (s : State) :
    (storeSample counts s).pending = s.pending ∧ (storeSample counts s).age = s.age ∧
    (storeSample counts s).loader = s.loader ∧ (storeSample counts s).cfg = s.cfg ∧
    (storeSample counts s).pins = s.pins ∧ (storeSample counts s).peers = s.peers ∧
    (storeSample counts s).seq = s.seq ∧ (storeSample counts s).servo = s.servo ∧
    (storeSample counts s).act = s.act ∧ (storeSample counts s).scan = s.scan ∧
    (storeSample counts s).crack = s.crack ∧ (storeSample counts s).alarm = s.alarm ∧
    (storeSample counts s).cmd = s.cmd ∧ (storeSample counts s).line.bitRate = s.line.bitRate ∧
    (storeSample counts s).line.statusPeriod = s.line.statusPeriod ∧
    (storeSample counts s).line.loadGroup = s.line.loadGroup ∧
    (storeSample counts s).line.statusTimer = s.line.statusTimer ∧
    (storeSample counts s).line.chargeSlot = s.line.chargeSlot ∧
    (storeSample counts s).line.statusSlot = s.line.statusSlot ∧ txClass (storeSample counts s) = txClass s ∧
    (storeSample counts s).line.faultCount = s.line.faultCount ∧
    (storeSample counts s).line.lineFault = s.line.lineFault ∧
    (storeSample counts s).line.ownCompleted = s.line.ownCompleted ∧
    (storeSample counts s).line.alarmQ = s.line.alarmQ ∧ (storeSample counts s).line.shuntSlot = s.line.shuntSlot ∧
    (storeSample counts s).line.shuntDoneBehind = s.line.shuntDoneBehind ∧
    (storeSample counts s).recs.capture = s.recs.capture ∧ (storeSample counts s).recs.scansLeft = s.recs.scansLeft ∧
    (storeSample counts s).recs.captureKind = s.recs.captureKind := by
  unfold storeSample; repeat' split
  all_goals simp

@[simp] theorem takeAverages_frame (s : State) :
    (takeAverages s).pending = s.pending ∧ (takeAverages s).age = s.age ∧ (takeAverages s).loader = s.loader ∧
    (takeAverages s).cfg = s.cfg ∧ (takeAverages s).pins = s.pins ∧ (takeAverages s).peers = s.peers ∧
    (takeAverages s).seq = s.seq ∧ (takeAverages s).servo = s.servo ∧ (takeAverages s).act = s.act ∧
    (takeAverages s).scan = s.scan ∧ (takeAverages s).alarm = s.alarm ∧ (takeAverages s).cmd = s.cmd ∧
    (takeAverages s).line.bitRate = s.line.bitRate ∧ (takeAverages s).line.statusPeriod = s.line.statusPeriod ∧
    (takeAverages s).line.loadGroup = s.line.loadGroup ∧ (takeAverages s).line.statusTimer = s.line.statusTimer ∧
    (takeAverages s).line.chargeSlot = s.line.chargeSlot ∧ (takeAverages s).line.statusSlot = s.line.statusSlot ∧
    txClass (takeAverages s) = txClass s ∧ (takeAverages s).line.faultCount = s.line.faultCount ∧
    (takeAverages s).line.lineFault = s.line.lineFault ∧ (takeAverages s).line.ownCompleted = s.line.ownCompleted ∧
    (takeAverages s).line.alarmQ = s.line.alarmQ ∧ (takeAverages s).line.shuntSlot = s.line.shuntSlot ∧
    (takeAverages s).line.shuntDoneBehind = s.line.shuntDoneBehind ∧ (takeAverages s).recs.capture = s.recs.capture ∧
    (takeAverages s).recs.scansLeft = s.recs.scansLeft ∧ (takeAverages s).recs.captureKind = s.recs.captureKind ∧
    (takeAverages s).crack.loops = s.crack.loops ∧ (takeAverages s).crack.entries = s.crack.entries ∧
    (takeAverages s).crack.timer = s.crack.timer := by
  simp [takeAverages]

@[simp] theorem scanCompleted_frame (s : State) :
    (scanCompleted s).pending = s.pending ∧ (scanCompleted s).age = s.age ∧ (scanCompleted s).loader = s.loader ∧
    (scanCompleted s).cfg = s.cfg ∧ (scanCompleted s).pins = s.pins ∧ (scanCompleted s).line = s.line ∧
    (scanCompleted s).peers = s.peers ∧ (scanCompleted s).seq = s.seq ∧ (scanCompleted s).servo = s.servo ∧
    (scanCompleted s).act = s.act ∧ (scanCompleted s).scan = s.scan ∧ (scanCompleted s).crack = s.crack ∧
    (scanCompleted s).alarm = s.alarm ∧ (scanCompleted s).cmd = s.cmd ∧ (scanCompleted s).recs.pool = s.recs.pool ∧
    (scanCompleted s).recs.freePages = s.recs.freePages ∧ (scanCompleted s).recs.table = s.recs.table ∧
    (scanCompleted s).recs.sealedQ = s.recs.sealedQ ∧ (scanCompleted s).recs.fetchQ = s.recs.fetchQ ∧
    (scanCompleted s).recs.sending = s.recs.sending ∧ (scanCompleted s).recs.pressure = s.recs.pressure ∧
    (scanCompleted s).recs.gap = s.recs.gap ∧ (scanCompleted s).recs.serial = s.recs.serial := by
  unfold scanCompleted captureEnds; split <;> (try split) <;> simp

@[simp] theorem answerEmpty_frame (console : Nat) (s : State) :
    (answerEmpty console s).pending = s.pending ∧ (answerEmpty console s).age = s.age ∧
    (answerEmpty console s).loader = s.loader ∧ (answerEmpty console s).cfg = s.cfg ∧
    (answerEmpty console s).pins = s.pins ∧ (answerEmpty console s).peers = s.peers ∧
    (answerEmpty console s).seq = s.seq ∧ (answerEmpty console s).servo = s.servo ∧
    (answerEmpty console s).act = s.act ∧ (answerEmpty console s).scan = s.scan ∧
    (answerEmpty console s).crack = s.crack ∧ (answerEmpty console s).alarm = s.alarm ∧
    (answerEmpty console s).recs = s.recs ∧ (answerEmpty console s).cmd = s.cmd ∧
    (answerEmpty console s).line.bitRate = s.line.bitRate ∧
    (answerEmpty console s).line.statusPeriod = s.line.statusPeriod ∧
    (answerEmpty console s).line.loadGroup = s.line.loadGroup ∧
    (answerEmpty console s).line.statusTimer = s.line.statusTimer ∧
    (answerEmpty console s).line.chargeSlot = s.line.chargeSlot ∧
    (answerEmpty console s).line.statusSlot = s.line.statusSlot ∧ (answerEmpty console s).line.tx = s.line.tx ∧
    (answerEmpty console s).line.faultCount = s.line.faultCount ∧
    (answerEmpty console s).line.lineFault = s.line.lineFault ∧
    (answerEmpty console s).line.ownCompleted = s.line.ownCompleted ∧
    (answerEmpty console s).line.alarmQ = s.line.alarmQ ∧ (answerEmpty console s).line.shuntSlot = s.line.shuntSlot ∧
    (answerEmpty console s).line.shuntDoneBehind = s.line.shuntDoneBehind ∧
    (answerEmpty console s).line.dataQ = s.line.dataQ ∧ (answerEmpty console s).line.events = s.line.events ∧
    (answerEmpty console s).line.afterTake = s.line.afterTake := by
  simp [answerEmpty]

/-! ### Crack monitor -/

@[simp] theorem updateLoop_frame (f : LoopRecord → LoopRecord) (l : Nat) (s : State) :
    (updateLoop f l s).pending = s.pending ∧ (updateLoop f l s).age = s.age ∧ (updateLoop f l s).loader = s.loader ∧
    (updateLoop f l s).cfg = s.cfg ∧ (updateLoop f l s).pins = s.pins ∧ (updateLoop f l s).line = s.line ∧
    (updateLoop f l s).peers = s.peers ∧ (updateLoop f l s).seq = s.seq ∧ (updateLoop f l s).servo = s.servo ∧
    (updateLoop f l s).act = s.act ∧ (updateLoop f l s).scan = s.scan ∧ (updateLoop f l s).alarm = s.alarm ∧
    (updateLoop f l s).recs = s.recs ∧ (updateLoop f l s).cmd = s.cmd ∧
    (updateLoop f l s).crack.timer = s.crack.timer ∧ (updateLoop f l s).crack.inputs = s.crack.inputs ∧
    (updateLoop f l s).crack.entries = s.crack.entries := by
  simp [updateLoop]

@[simp] theorem setLoopState_frame (st : LoopState) (l : Nat) (s : State) :
    (setLoopState st l s).pending = s.pending ∧ (setLoopState st l s).age = s.age ∧
    (setLoopState st l s).loader = s.loader ∧ (setLoopState st l s).cfg = s.cfg ∧
    (setLoopState st l s).pins = s.pins ∧ (setLoopState st l s).line = s.line ∧
    (setLoopState st l s).peers = s.peers ∧ (setLoopState st l s).seq = s.seq ∧
    (setLoopState st l s).servo = s.servo ∧ (setLoopState st l s).act = s.act ∧ (setLoopState st l s).scan = s.scan ∧
    (setLoopState st l s).alarm = s.alarm ∧ (setLoopState st l s).recs = s.recs ∧ (setLoopState st l s).cmd = s.cmd ∧
    (setLoopState st l s).crack.timer = s.crack.timer ∧ (setLoopState st l s).crack.inputs = s.crack.inputs ∧
    (setLoopState st l s).crack.entries = s.crack.entries := by
  simp [setLoopState]

@[simp] theorem fillEntry_frame (l : Nat) (s : State) :
    (fillEntry l s).pending = s.pending ∧ (fillEntry l s).age = s.age ∧ (fillEntry l s).loader = s.loader ∧
    (fillEntry l s).cfg = s.cfg ∧ (fillEntry l s).pins = s.pins ∧ (fillEntry l s).line = s.line ∧
    (fillEntry l s).peers = s.peers ∧ (fillEntry l s).seq = s.seq ∧ (fillEntry l s).servo = s.servo ∧
    (fillEntry l s).act = s.act ∧ (fillEntry l s).scan = s.scan ∧ (fillEntry l s).alarm = s.alarm ∧
    (fillEntry l s).recs = s.recs ∧ (fillEntry l s).cmd = s.cmd ∧ (fillEntry l s).crack.timer = s.crack.timer ∧
    (fillEntry l s).crack.inputs = s.crack.inputs ∧ (fillEntry l s).crack.loops = s.crack.loops := by
  unfold fillEntry; split <;> simp

@[simp] theorem loopBreaks_frame (l : Nat) (s : State) :
    (loopBreaks l s).pending = s.pending ∧ (loopBreaks l s).age = s.age ∧ (loopBreaks l s).loader = s.loader ∧
    (loopBreaks l s).cfg = s.cfg ∧ (loopBreaks l s).peers = s.peers ∧
    (loopBreaks l s).line.bitRate = s.line.bitRate ∧ (loopBreaks l s).line.statusPeriod = s.line.statusPeriod ∧
    (loopBreaks l s).line.loadGroup = s.line.loadGroup ∧ (loopBreaks l s).line.statusTimer = s.line.statusTimer ∧
    (loopBreaks l s).line.chargeSlot = s.line.chargeSlot ∧ (loopBreaks l s).line.statusSlot = s.line.statusSlot ∧
    txClass (loopBreaks l s) = txClass s ∧ (loopBreaks l s).line.faultCount = s.line.faultCount ∧
    (loopBreaks l s).line.lineFault = s.line.lineFault ∧ (loopBreaks l s).line.ownCompleted = s.line.ownCompleted ∧
    (loopBreaks l s).cmd.queue = s.cmd.queue ∧ (loopBreaks l s).cmd.timeTag = s.cmd.timeTag ∧
    (loopBreaks l s).recs.gap = s.recs.gap ∧ (loopBreaks l s).recs.serial = s.recs.serial ∧
    (loopBreaks l s).recs.pressure = s.recs.pressure ∧ (loopBreaks l s).recs.freePages = s.recs.freePages ∧
    (loopBreaks l s).seq.table = s.seq.table ∧ (loopBreaks l s).seq.digest = s.seq.digest ∧
    (loopBreaks l s).scan.timer = s.scan.timer ∧ (loopBreaks l s).scan.runLength = s.scan.runLength ∧
    (loopBreaks l s).scan.runTaken = s.scan.runTaken ∧ (loopBreaks l s).scan.zero = s.scan.zero ∧
    (loopBreaks l s).scan.holder = s.scan.holder ∧ (loopBreaks l s).servo.timer = s.servo.timer ∧
    (loopBreaks l s).servo.lam = s.servo.lam ∧ (loopBreaks l s).servo.acc = s.servo.acc ∧
    (loopBreaks l s).servo.integral = s.servo.integral ∧ (loopBreaks l s).servo.drive = s.servo.drive ∧
    (loopBreaks l s).servo.fSet = s.servo.fSet ∧ (loopBreaks l s).servo.fMeas = s.servo.fMeas ∧
    (loopBreaks l s).servo.error = s.servo.error ∧ (loopBreaks l s).servo.lagging = s.servo.lagging ∧
    (loopBreaks l s).servo.tripCount = s.servo.tripCount ∧ (loopBreaks l s).servo.overLimit = s.servo.overLimit ∧
    (loopBreaks l s).servo.reacquire = s.servo.reacquire ∧ (loopBreaks l s).servo.loadZero = s.servo.loadZero ∧
    (loopBreaks l s).act.chargeList = s.act.chargeList ∧ (loopBreaks l s).act.lockRef = s.act.lockRef ∧
    (loopBreaks l s).act.lockRefDue = s.act.lockRefDue ∧ (loopBreaks l s).pins.pressOk = s.pins.pressOk ∧
    (loopBreaks l s).pins.lockEngaged = s.pins.lockEngaged ∧ (loopBreaks l s).pins.estop = s.pins.estop ∧
    (loopBreaks l s).pins.loadCode = s.pins.loadCode ∧ (loopBreaks l s).pins.bridgeCodes = s.pins.bridgeCodes ∧
    (loopBreaks l s).pins.loopReadings = s.pins.loopReadings ∧ (loopBreaks l s).crack.timer = s.crack.timer ∧
    (loopBreaks l s).crack.inputs = s.crack.inputs ∧
    (loopBreaks l s).alarm.latch = latchMax s.alarm.latch (loopCfg l s).action := by
  simp [loopBreaks]

@[simp] theorem loopFaults_frame (l : Nat) (s : State) :
    (loopFaults l s).pending = s.pending ∧ (loopFaults l s).age = s.age ∧ (loopFaults l s).loader = s.loader ∧
    (loopFaults l s).cfg = s.cfg ∧ (loopFaults l s).peers = s.peers ∧
    (loopFaults l s).line.bitRate = s.line.bitRate ∧ (loopFaults l s).line.statusPeriod = s.line.statusPeriod ∧
    (loopFaults l s).line.loadGroup = s.line.loadGroup ∧ (loopFaults l s).line.statusTimer = s.line.statusTimer ∧
    (loopFaults l s).line.chargeSlot = s.line.chargeSlot ∧ (loopFaults l s).line.statusSlot = s.line.statusSlot ∧
    txClass (loopFaults l s) = txClass s ∧ (loopFaults l s).line.faultCount = s.line.faultCount ∧
    (loopFaults l s).line.lineFault = s.line.lineFault ∧ (loopFaults l s).line.ownCompleted = s.line.ownCompleted ∧
    (loopFaults l s).cmd.queue = s.cmd.queue ∧ (loopFaults l s).cmd.timeTag = s.cmd.timeTag ∧
    (loopFaults l s).recs.gap = s.recs.gap ∧ (loopFaults l s).recs.serial = s.recs.serial ∧
    (loopFaults l s).recs.pressure = s.recs.pressure ∧ (loopFaults l s).recs.freePages = s.recs.freePages ∧
    (loopFaults l s).seq.table = s.seq.table ∧ (loopFaults l s).seq.digest = s.seq.digest ∧
    (loopFaults l s).scan.timer = s.scan.timer ∧ (loopFaults l s).scan.runLength = s.scan.runLength ∧
    (loopFaults l s).scan.runTaken = s.scan.runTaken ∧ (loopFaults l s).scan.zero = s.scan.zero ∧
    (loopFaults l s).scan.holder = s.scan.holder ∧ (loopFaults l s).servo.timer = s.servo.timer ∧
    (loopFaults l s).servo.lam = s.servo.lam ∧ (loopFaults l s).servo.acc = s.servo.acc ∧
    (loopFaults l s).servo.integral = s.servo.integral ∧ (loopFaults l s).servo.drive = s.servo.drive ∧
    (loopFaults l s).servo.fSet = s.servo.fSet ∧ (loopFaults l s).servo.fMeas = s.servo.fMeas ∧
    (loopFaults l s).servo.error = s.servo.error ∧ (loopFaults l s).servo.lagging = s.servo.lagging ∧
    (loopFaults l s).servo.tripCount = s.servo.tripCount ∧ (loopFaults l s).servo.overLimit = s.servo.overLimit ∧
    (loopFaults l s).servo.reacquire = s.servo.reacquire ∧ (loopFaults l s).servo.loadZero = s.servo.loadZero ∧
    (loopFaults l s).act.chargeList = s.act.chargeList ∧ (loopFaults l s).act.lockRef = s.act.lockRef ∧
    (loopFaults l s).act.lockRefDue = s.act.lockRefDue ∧ (loopFaults l s).pins.pressOk = s.pins.pressOk ∧
    (loopFaults l s).pins.lockEngaged = s.pins.lockEngaged ∧ (loopFaults l s).pins.estop = s.pins.estop ∧
    (loopFaults l s).pins.loadCode = s.pins.loadCode ∧ (loopFaults l s).pins.bridgeCodes = s.pins.bridgeCodes ∧
    (loopFaults l s).pins.loopReadings = s.pins.loopReadings ∧ (loopFaults l s).crack.timer = s.crack.timer ∧
    (loopFaults l s).crack.inputs = s.crack.inputs ∧ (loopFaults l s).alarm.latch = latchMax s.alarm.latch .note ∧
    (loopFaults l s).alarm.causes = s.alarm.causes ∧ (loopFaults l s).crack.entries = s.crack.entries := by
  simp [loopFaults]

@[simp] theorem actOnReading_frame (l : Nat) (reading : LoopReading) (s : State) :
    (actOnReading l reading s).pending = s.pending ∧ (actOnReading l reading s).age = s.age ∧
    (actOnReading l reading s).loader = s.loader ∧ (actOnReading l reading s).cfg = s.cfg ∧
    (actOnReading l reading s).peers = s.peers ∧ (actOnReading l reading s).line.bitRate = s.line.bitRate ∧
    (actOnReading l reading s).line.statusPeriod = s.line.statusPeriod ∧
    (actOnReading l reading s).line.loadGroup = s.line.loadGroup ∧
    (actOnReading l reading s).line.statusTimer = s.line.statusTimer ∧
    (actOnReading l reading s).line.chargeSlot = s.line.chargeSlot ∧
    (actOnReading l reading s).line.statusSlot = s.line.statusSlot ∧ txClass (actOnReading l reading s) = txClass s ∧
    (actOnReading l reading s).line.faultCount = s.line.faultCount ∧
    (actOnReading l reading s).line.lineFault = s.line.lineFault ∧
    (actOnReading l reading s).line.ownCompleted = s.line.ownCompleted ∧
    (actOnReading l reading s).cmd.queue = s.cmd.queue ∧ (actOnReading l reading s).cmd.timeTag = s.cmd.timeTag ∧
    (actOnReading l reading s).recs.gap = s.recs.gap ∧ (actOnReading l reading s).recs.serial = s.recs.serial ∧
    (actOnReading l reading s).recs.pressure = s.recs.pressure ∧
    (actOnReading l reading s).recs.freePages = s.recs.freePages ∧
    (actOnReading l reading s).seq.table = s.seq.table ∧ (actOnReading l reading s).seq.digest = s.seq.digest ∧
    (actOnReading l reading s).scan.timer = s.scan.timer ∧
    (actOnReading l reading s).scan.runLength = s.scan.runLength ∧
    (actOnReading l reading s).scan.runTaken = s.scan.runTaken ∧ (actOnReading l reading s).scan.zero = s.scan.zero ∧
    (actOnReading l reading s).scan.holder = s.scan.holder ∧ (actOnReading l reading s).servo.timer = s.servo.timer ∧
    (actOnReading l reading s).servo.lam = s.servo.lam ∧ (actOnReading l reading s).servo.acc = s.servo.acc ∧
    (actOnReading l reading s).servo.integral = s.servo.integral ∧
    (actOnReading l reading s).servo.drive = s.servo.drive ∧ (actOnReading l reading s).servo.fSet = s.servo.fSet ∧
    (actOnReading l reading s).servo.fMeas = s.servo.fMeas ∧ (actOnReading l reading s).servo.error = s.servo.error ∧
    (actOnReading l reading s).servo.lagging = s.servo.lagging ∧
    (actOnReading l reading s).servo.tripCount = s.servo.tripCount ∧
    (actOnReading l reading s).servo.overLimit = s.servo.overLimit ∧
    (actOnReading l reading s).servo.reacquire = s.servo.reacquire ∧
    (actOnReading l reading s).servo.loadZero = s.servo.loadZero ∧
    (actOnReading l reading s).act.chargeList = s.act.chargeList ∧
    (actOnReading l reading s).act.lockRef = s.act.lockRef ∧
    (actOnReading l reading s).act.lockRefDue = s.act.lockRefDue ∧
    (actOnReading l reading s).pins.pressOk = s.pins.pressOk ∧
    (actOnReading l reading s).pins.lockEngaged = s.pins.lockEngaged ∧
    (actOnReading l reading s).pins.estop = s.pins.estop ∧
    (actOnReading l reading s).pins.loadCode = s.pins.loadCode ∧
    (actOnReading l reading s).pins.bridgeCodes = s.pins.bridgeCodes ∧
    (actOnReading l reading s).pins.loopReadings = s.pins.loopReadings ∧
    (actOnReading l reading s).crack.timer = s.crack.timer ∧
    (actOnReading l reading s).crack.inputs = s.crack.inputs := by
  unfold actOnReading; split <;> simp

@[simp] theorem takeReading_frame (l : Nat) (reading : LoopReading) (s : State) :
    (takeReading l reading s).pending = s.pending ∧ (takeReading l reading s).age = s.age ∧
    (takeReading l reading s).loader = s.loader ∧ (takeReading l reading s).cfg = s.cfg ∧
    (takeReading l reading s).peers = s.peers ∧ (takeReading l reading s).line.bitRate = s.line.bitRate ∧
    (takeReading l reading s).line.statusPeriod = s.line.statusPeriod ∧
    (takeReading l reading s).line.loadGroup = s.line.loadGroup ∧
    (takeReading l reading s).line.statusTimer = s.line.statusTimer ∧
    (takeReading l reading s).line.chargeSlot = s.line.chargeSlot ∧
    (takeReading l reading s).line.statusSlot = s.line.statusSlot ∧ txClass (takeReading l reading s) = txClass s ∧
    (takeReading l reading s).line.faultCount = s.line.faultCount ∧
    (takeReading l reading s).line.lineFault = s.line.lineFault ∧
    (takeReading l reading s).line.ownCompleted = s.line.ownCompleted ∧
    (takeReading l reading s).cmd.queue = s.cmd.queue ∧ (takeReading l reading s).cmd.timeTag = s.cmd.timeTag ∧
    (takeReading l reading s).recs.gap = s.recs.gap ∧ (takeReading l reading s).recs.serial = s.recs.serial ∧
    (takeReading l reading s).recs.pressure = s.recs.pressure ∧
    (takeReading l reading s).recs.freePages = s.recs.freePages ∧ (takeReading l reading s).seq.table = s.seq.table ∧
    (takeReading l reading s).seq.digest = s.seq.digest ∧ (takeReading l reading s).scan.timer = s.scan.timer ∧
    (takeReading l reading s).scan.runLength = s.scan.runLength ∧
    (takeReading l reading s).scan.runTaken = s.scan.runTaken ∧ (takeReading l reading s).scan.zero = s.scan.zero ∧
    (takeReading l reading s).scan.holder = s.scan.holder ∧ (takeReading l reading s).servo.timer = s.servo.timer ∧
    (takeReading l reading s).servo.lam = s.servo.lam ∧ (takeReading l reading s).servo.acc = s.servo.acc ∧
    (takeReading l reading s).servo.integral = s.servo.integral ∧
    (takeReading l reading s).servo.drive = s.servo.drive ∧ (takeReading l reading s).servo.fSet = s.servo.fSet ∧
    (takeReading l reading s).servo.fMeas = s.servo.fMeas ∧ (takeReading l reading s).servo.error = s.servo.error ∧
    (takeReading l reading s).servo.lagging = s.servo.lagging ∧
    (takeReading l reading s).servo.tripCount = s.servo.tripCount ∧
    (takeReading l reading s).servo.overLimit = s.servo.overLimit ∧
    (takeReading l reading s).servo.reacquire = s.servo.reacquire ∧
    (takeReading l reading s).servo.loadZero = s.servo.loadZero ∧
    (takeReading l reading s).act.chargeList = s.act.chargeList ∧
    (takeReading l reading s).act.lockRef = s.act.lockRef ∧
    (takeReading l reading s).act.lockRefDue = s.act.lockRefDue ∧
    (takeReading l reading s).pins.pressOk = s.pins.pressOk ∧
    (takeReading l reading s).pins.lockEngaged = s.pins.lockEngaged ∧
    (takeReading l reading s).pins.estop = s.pins.estop ∧ (takeReading l reading s).pins.loadCode = s.pins.loadCode ∧
    (takeReading l reading s).pins.bridgeCodes = s.pins.bridgeCodes ∧
    (takeReading l reading s).pins.loopReadings = s.pins.loopReadings ∧
    (takeReading l reading s).crack.timer = s.crack.timer ∧
    (takeReading l reading s).crack.inputs = s.crack.inputs := by
  simp [takeReading]

@[simp] theorem senseLoop_frame (l : Nat) (reading : LoopReading) (s : State) :
    (senseLoop l reading s).pending = s.pending ∧ (senseLoop l reading s).age = s.age ∧
    (senseLoop l reading s).loader = s.loader ∧ (senseLoop l reading s).cfg = s.cfg ∧
    (senseLoop l reading s).peers = s.peers ∧ (senseLoop l reading s).line.bitRate = s.line.bitRate ∧
    (senseLoop l reading s).line.statusPeriod = s.line.statusPeriod ∧
    (senseLoop l reading s).line.loadGroup = s.line.loadGroup ∧
    (senseLoop l reading s).line.statusTimer = s.line.statusTimer ∧
    (senseLoop l reading s).line.chargeSlot = s.line.chargeSlot ∧
    (senseLoop l reading s).line.statusSlot = s.line.statusSlot ∧ txClass (senseLoop l reading s) = txClass s ∧
    (senseLoop l reading s).line.faultCount = s.line.faultCount ∧
    (senseLoop l reading s).line.lineFault = s.line.lineFault ∧
    (senseLoop l reading s).line.ownCompleted = s.line.ownCompleted ∧
    (senseLoop l reading s).cmd.queue = s.cmd.queue ∧ (senseLoop l reading s).cmd.timeTag = s.cmd.timeTag ∧
    (senseLoop l reading s).recs.gap = s.recs.gap ∧ (senseLoop l reading s).recs.serial = s.recs.serial ∧
    (senseLoop l reading s).recs.pressure = s.recs.pressure ∧
    (senseLoop l reading s).recs.freePages = s.recs.freePages ∧ (senseLoop l reading s).seq.table = s.seq.table ∧
    (senseLoop l reading s).seq.digest = s.seq.digest ∧ (senseLoop l reading s).scan.timer = s.scan.timer ∧
    (senseLoop l reading s).scan.runLength = s.scan.runLength ∧
    (senseLoop l reading s).scan.runTaken = s.scan.runTaken ∧ (senseLoop l reading s).scan.zero = s.scan.zero ∧
    (senseLoop l reading s).scan.holder = s.scan.holder ∧ (senseLoop l reading s).servo.timer = s.servo.timer ∧
    (senseLoop l reading s).servo.lam = s.servo.lam ∧ (senseLoop l reading s).servo.acc = s.servo.acc ∧
    (senseLoop l reading s).servo.integral = s.servo.integral ∧ (senseLoop l reading s).servo.drive = s.servo.drive ∧
    (senseLoop l reading s).servo.fSet = s.servo.fSet ∧ (senseLoop l reading s).servo.fMeas = s.servo.fMeas ∧
    (senseLoop l reading s).servo.error = s.servo.error ∧ (senseLoop l reading s).servo.lagging = s.servo.lagging ∧
    (senseLoop l reading s).servo.tripCount = s.servo.tripCount ∧
    (senseLoop l reading s).servo.overLimit = s.servo.overLimit ∧
    (senseLoop l reading s).servo.reacquire = s.servo.reacquire ∧
    (senseLoop l reading s).servo.loadZero = s.servo.loadZero ∧
    (senseLoop l reading s).act.chargeList = s.act.chargeList ∧ (senseLoop l reading s).act.lockRef = s.act.lockRef ∧
    (senseLoop l reading s).act.lockRefDue = s.act.lockRefDue ∧
    (senseLoop l reading s).pins.pressOk = s.pins.pressOk ∧
    (senseLoop l reading s).pins.lockEngaged = s.pins.lockEngaged ∧
    (senseLoop l reading s).pins.estop = s.pins.estop ∧ (senseLoop l reading s).pins.loadCode = s.pins.loadCode ∧
    (senseLoop l reading s).pins.bridgeCodes = s.pins.bridgeCodes ∧
    (senseLoop l reading s).pins.loopReadings = s.pins.loopReadings ∧
    (senseLoop l reading s).crack.timer = s.crack.timer ∧ (senseLoop l reading s).crack.inputs = s.crack.inputs := by
  unfold senseLoop; simp only []; repeat' split
  all_goals simp

@[simp] theorem updateAe_frame (f : AeInput → AeInput) (i : Nat) (s : State) :
    (updateAe f i s).pending = s.pending ∧ (updateAe f i s).age = s.age ∧ (updateAe f i s).loader = s.loader ∧
    (updateAe f i s).cfg = s.cfg ∧ (updateAe f i s).pins = s.pins ∧ (updateAe f i s).line = s.line ∧
    (updateAe f i s).peers = s.peers ∧ (updateAe f i s).seq = s.seq ∧ (updateAe f i s).servo = s.servo ∧
    (updateAe f i s).act = s.act ∧ (updateAe f i s).scan = s.scan ∧ (updateAe f i s).alarm = s.alarm ∧
    (updateAe f i s).recs = s.recs ∧ (updateAe f i s).cmd = s.cmd ∧ (updateAe f i s).crack.timer = s.crack.timer ∧
    (updateAe f i s).crack.loops = s.crack.loops ∧ (updateAe f i s).crack.entries = s.crack.entries := by
  simp [updateAe]

@[simp] theorem bandChanged_frame (i : Nat) (old new : AeBand) (s : State) :
    (bandChanged i old new s).pending = s.pending ∧ (bandChanged i old new s).age = s.age ∧
    (bandChanged i old new s).loader = s.loader ∧ (bandChanged i old new s).cfg = s.cfg ∧
    (bandChanged i old new s).peers = s.peers ∧ (bandChanged i old new s).crack = s.crack ∧
    (bandChanged i old new s).line.bitRate = s.line.bitRate ∧
    (bandChanged i old new s).line.statusPeriod = s.line.statusPeriod ∧
    (bandChanged i old new s).line.loadGroup = s.line.loadGroup ∧
    (bandChanged i old new s).line.statusTimer = s.line.statusTimer ∧
    (bandChanged i old new s).line.chargeSlot = s.line.chargeSlot ∧
    (bandChanged i old new s).line.statusSlot = s.line.statusSlot ∧ txClass (bandChanged i old new s) = txClass s ∧
    (bandChanged i old new s).line.faultCount = s.line.faultCount ∧
    (bandChanged i old new s).line.lineFault = s.line.lineFault ∧
    (bandChanged i old new s).line.ownCompleted = s.line.ownCompleted ∧
    (bandChanged i old new s).cmd.queue = s.cmd.queue ∧ (bandChanged i old new s).cmd.timeTag = s.cmd.timeTag ∧
    (bandChanged i old new s).recs.gap = s.recs.gap ∧ (bandChanged i old new s).recs.serial = s.recs.serial ∧
    (bandChanged i old new s).recs.pressure = s.recs.pressure ∧
    (bandChanged i old new s).recs.freePages = s.recs.freePages ∧ (bandChanged i old new s).seq.table = s.seq.table ∧
    (bandChanged i old new s).seq.digest = s.seq.digest ∧ (bandChanged i old new s).scan.timer = s.scan.timer ∧
    (bandChanged i old new s).scan.runLength = s.scan.runLength ∧
    (bandChanged i old new s).scan.runTaken = s.scan.runTaken ∧ (bandChanged i old new s).scan.zero = s.scan.zero ∧
    (bandChanged i old new s).scan.holder = s.scan.holder ∧ (bandChanged i old new s).servo.timer = s.servo.timer ∧
    (bandChanged i old new s).servo.lam = s.servo.lam ∧ (bandChanged i old new s).servo.acc = s.servo.acc ∧
    (bandChanged i old new s).servo.integral = s.servo.integral ∧
    (bandChanged i old new s).servo.drive = s.servo.drive ∧ (bandChanged i old new s).servo.fSet = s.servo.fSet ∧
    (bandChanged i old new s).servo.fMeas = s.servo.fMeas ∧ (bandChanged i old new s).servo.error = s.servo.error ∧
    (bandChanged i old new s).servo.lagging = s.servo.lagging ∧
    (bandChanged i old new s).servo.tripCount = s.servo.tripCount ∧
    (bandChanged i old new s).servo.overLimit = s.servo.overLimit ∧
    (bandChanged i old new s).servo.reacquire = s.servo.reacquire ∧
    (bandChanged i old new s).servo.loadZero = s.servo.loadZero ∧
    (bandChanged i old new s).act.chargeList = s.act.chargeList ∧
    (bandChanged i old new s).act.lockRef = s.act.lockRef ∧
    (bandChanged i old new s).act.lockRefDue = s.act.lockRefDue ∧
    (bandChanged i old new s).pins.pressOk = s.pins.pressOk ∧
    (bandChanged i old new s).pins.lockEngaged = s.pins.lockEngaged ∧
    (bandChanged i old new s).pins.estop = s.pins.estop ∧ (bandChanged i old new s).pins.loadCode = s.pins.loadCode ∧
    (bandChanged i old new s).pins.bridgeCodes = s.pins.bridgeCodes ∧
    (bandChanged i old new s).pins.loopReadings = s.pins.loopReadings := by
  unfold bandChanged; split <;> simp

@[simp] theorem judgeBand_frame (i : Nat) (s : State) :
    (judgeBand i s).pending = s.pending ∧ (judgeBand i s).age = s.age ∧ (judgeBand i s).loader = s.loader ∧
    (judgeBand i s).cfg = s.cfg ∧ (judgeBand i s).peers = s.peers ∧ (judgeBand i s).line.bitRate = s.line.bitRate ∧
    (judgeBand i s).line.statusPeriod = s.line.statusPeriod ∧ (judgeBand i s).line.loadGroup = s.line.loadGroup ∧
    (judgeBand i s).line.statusTimer = s.line.statusTimer ∧ (judgeBand i s).line.chargeSlot = s.line.chargeSlot ∧
    (judgeBand i s).line.statusSlot = s.line.statusSlot ∧ txClass (judgeBand i s) = txClass s ∧
    (judgeBand i s).line.faultCount = s.line.faultCount ∧ (judgeBand i s).line.lineFault = s.line.lineFault ∧
    (judgeBand i s).line.ownCompleted = s.line.ownCompleted ∧ (judgeBand i s).cmd.queue = s.cmd.queue ∧
    (judgeBand i s).cmd.timeTag = s.cmd.timeTag ∧ (judgeBand i s).recs.gap = s.recs.gap ∧
    (judgeBand i s).recs.serial = s.recs.serial ∧ (judgeBand i s).recs.pressure = s.recs.pressure ∧
    (judgeBand i s).recs.freePages = s.recs.freePages ∧ (judgeBand i s).seq.table = s.seq.table ∧
    (judgeBand i s).seq.digest = s.seq.digest ∧ (judgeBand i s).scan.timer = s.scan.timer ∧
    (judgeBand i s).scan.runLength = s.scan.runLength ∧ (judgeBand i s).scan.runTaken = s.scan.runTaken ∧
    (judgeBand i s).scan.zero = s.scan.zero ∧ (judgeBand i s).scan.holder = s.scan.holder ∧
    (judgeBand i s).servo.timer = s.servo.timer ∧ (judgeBand i s).servo.lam = s.servo.lam ∧
    (judgeBand i s).servo.acc = s.servo.acc ∧ (judgeBand i s).servo.integral = s.servo.integral ∧
    (judgeBand i s).servo.drive = s.servo.drive ∧ (judgeBand i s).servo.fSet = s.servo.fSet ∧
    (judgeBand i s).servo.fMeas = s.servo.fMeas ∧ (judgeBand i s).servo.error = s.servo.error ∧
    (judgeBand i s).servo.lagging = s.servo.lagging ∧ (judgeBand i s).servo.tripCount = s.servo.tripCount ∧
    (judgeBand i s).servo.overLimit = s.servo.overLimit ∧ (judgeBand i s).servo.reacquire = s.servo.reacquire ∧
    (judgeBand i s).servo.loadZero = s.servo.loadZero ∧ (judgeBand i s).act.chargeList = s.act.chargeList ∧
    (judgeBand i s).act.lockRef = s.act.lockRef ∧ (judgeBand i s).act.lockRefDue = s.act.lockRefDue ∧
    (judgeBand i s).pins.pressOk = s.pins.pressOk ∧ (judgeBand i s).pins.lockEngaged = s.pins.lockEngaged ∧
    (judgeBand i s).pins.estop = s.pins.estop ∧ (judgeBand i s).pins.loadCode = s.pins.loadCode ∧
    (judgeBand i s).pins.bridgeCodes = s.pins.bridgeCodes ∧ (judgeBand i s).pins.loopReadings = s.pins.loopReadings ∧
    (judgeBand i s).crack.timer = s.crack.timer ∧ (judgeBand i s).crack.loops = s.crack.loops ∧
    (judgeBand i s).crack.entries = s.crack.entries := by
  unfold judgeBand; simp only []; split <;> simp

@[simp] theorem ageInput_frame (i : Nat) (s : State) :
    (ageInput i s).pending = s.pending ∧ (ageInput i s).age = s.age ∧ (ageInput i s).loader = s.loader ∧
    (ageInput i s).cfg = s.cfg ∧ (ageInput i s).peers = s.peers ∧ (ageInput i s).line.bitRate = s.line.bitRate ∧
    (ageInput i s).line.statusPeriod = s.line.statusPeriod ∧ (ageInput i s).line.loadGroup = s.line.loadGroup ∧
    (ageInput i s).line.statusTimer = s.line.statusTimer ∧ (ageInput i s).line.chargeSlot = s.line.chargeSlot ∧
    (ageInput i s).line.statusSlot = s.line.statusSlot ∧ txClass (ageInput i s) = txClass s ∧
    (ageInput i s).line.faultCount = s.line.faultCount ∧ (ageInput i s).line.lineFault = s.line.lineFault ∧
    (ageInput i s).line.ownCompleted = s.line.ownCompleted ∧ (ageInput i s).cmd.queue = s.cmd.queue ∧
    (ageInput i s).cmd.timeTag = s.cmd.timeTag ∧ (ageInput i s).recs.gap = s.recs.gap ∧
    (ageInput i s).recs.serial = s.recs.serial ∧ (ageInput i s).recs.pressure = s.recs.pressure ∧
    (ageInput i s).recs.freePages = s.recs.freePages ∧ (ageInput i s).seq.table = s.seq.table ∧
    (ageInput i s).seq.digest = s.seq.digest ∧ (ageInput i s).scan.timer = s.scan.timer ∧
    (ageInput i s).scan.runLength = s.scan.runLength ∧ (ageInput i s).scan.runTaken = s.scan.runTaken ∧
    (ageInput i s).scan.zero = s.scan.zero ∧ (ageInput i s).scan.holder = s.scan.holder ∧
    (ageInput i s).servo.timer = s.servo.timer ∧ (ageInput i s).servo.lam = s.servo.lam ∧
    (ageInput i s).servo.acc = s.servo.acc ∧ (ageInput i s).servo.integral = s.servo.integral ∧
    (ageInput i s).servo.drive = s.servo.drive ∧ (ageInput i s).servo.fSet = s.servo.fSet ∧
    (ageInput i s).servo.fMeas = s.servo.fMeas ∧ (ageInput i s).servo.error = s.servo.error ∧
    (ageInput i s).servo.lagging = s.servo.lagging ∧ (ageInput i s).servo.tripCount = s.servo.tripCount ∧
    (ageInput i s).servo.overLimit = s.servo.overLimit ∧ (ageInput i s).servo.reacquire = s.servo.reacquire ∧
    (ageInput i s).servo.loadZero = s.servo.loadZero ∧ (ageInput i s).act.chargeList = s.act.chargeList ∧
    (ageInput i s).act.lockRef = s.act.lockRef ∧ (ageInput i s).act.lockRefDue = s.act.lockRefDue ∧
    (ageInput i s).pins.pressOk = s.pins.pressOk ∧ (ageInput i s).pins.lockEngaged = s.pins.lockEngaged ∧
    (ageInput i s).pins.estop = s.pins.estop ∧ (ageInput i s).pins.loadCode = s.pins.loadCode ∧
    (ageInput i s).pins.bridgeCodes = s.pins.bridgeCodes ∧ (ageInput i s).pins.loopReadings = s.pins.loopReadings ∧
    (ageInput i s).crack.timer = s.crack.timer ∧ (ageInput i s).crack.loops = s.crack.loops ∧
    (ageInput i s).crack.entries = s.crack.entries := by
  unfold ageInput; simp only []; split <;> simp

@[simp] theorem acceptHit_frame (i : Nat) (s : State) :
    (acceptHit i s).pending = s.pending ∧ (acceptHit i s).age = s.age ∧ (acceptHit i s).loader = s.loader ∧
    (acceptHit i s).cfg = s.cfg ∧ (acceptHit i s).peers = s.peers ∧ (acceptHit i s).line.bitRate = s.line.bitRate ∧
    (acceptHit i s).line.statusPeriod = s.line.statusPeriod ∧ (acceptHit i s).line.loadGroup = s.line.loadGroup ∧
    (acceptHit i s).line.statusTimer = s.line.statusTimer ∧ (acceptHit i s).line.chargeSlot = s.line.chargeSlot ∧
    (acceptHit i s).line.statusSlot = s.line.statusSlot ∧ txClass (acceptHit i s) = txClass s ∧
    (acceptHit i s).line.faultCount = s.line.faultCount ∧ (acceptHit i s).line.lineFault = s.line.lineFault ∧
    (acceptHit i s).line.ownCompleted = s.line.ownCompleted ∧ (acceptHit i s).cmd.queue = s.cmd.queue ∧
    (acceptHit i s).cmd.timeTag = s.cmd.timeTag ∧ (acceptHit i s).recs.gap = s.recs.gap ∧
    (acceptHit i s).recs.serial = s.recs.serial ∧ (acceptHit i s).recs.pressure = s.recs.pressure ∧
    (acceptHit i s).recs.freePages = s.recs.freePages ∧ (acceptHit i s).seq.table = s.seq.table ∧
    (acceptHit i s).seq.digest = s.seq.digest ∧ (acceptHit i s).scan.timer = s.scan.timer ∧
    (acceptHit i s).scan.runLength = s.scan.runLength ∧ (acceptHit i s).scan.runTaken = s.scan.runTaken ∧
    (acceptHit i s).scan.zero = s.scan.zero ∧ (acceptHit i s).scan.holder = s.scan.holder ∧
    (acceptHit i s).servo.timer = s.servo.timer ∧ (acceptHit i s).servo.lam = s.servo.lam ∧
    (acceptHit i s).servo.acc = s.servo.acc ∧ (acceptHit i s).servo.integral = s.servo.integral ∧
    (acceptHit i s).servo.drive = s.servo.drive ∧ (acceptHit i s).servo.fSet = s.servo.fSet ∧
    (acceptHit i s).servo.fMeas = s.servo.fMeas ∧ (acceptHit i s).servo.error = s.servo.error ∧
    (acceptHit i s).servo.lagging = s.servo.lagging ∧ (acceptHit i s).servo.tripCount = s.servo.tripCount ∧
    (acceptHit i s).servo.overLimit = s.servo.overLimit ∧ (acceptHit i s).servo.reacquire = s.servo.reacquire ∧
    (acceptHit i s).servo.loadZero = s.servo.loadZero ∧ (acceptHit i s).act.chargeList = s.act.chargeList ∧
    (acceptHit i s).act.lockRef = s.act.lockRef ∧ (acceptHit i s).act.lockRefDue = s.act.lockRefDue ∧
    (acceptHit i s).pins.pressOk = s.pins.pressOk ∧ (acceptHit i s).pins.lockEngaged = s.pins.lockEngaged ∧
    (acceptHit i s).pins.estop = s.pins.estop ∧ (acceptHit i s).pins.loadCode = s.pins.loadCode ∧
    (acceptHit i s).pins.bridgeCodes = s.pins.bridgeCodes ∧ (acceptHit i s).pins.loopReadings = s.pins.loopReadings ∧
    (acceptHit i s).crack.timer = s.crack.timer ∧ (acceptHit i s).crack.loops = s.crack.loops ∧
    (acceptHit i s).crack.entries = s.crack.entries := by
  simp [acceptHit]

@[simp] theorem takePulse_frame (i : Nat) (s : State) :
    (takePulse i s).pending = s.pending ∧ (takePulse i s).age = s.age ∧ (takePulse i s).loader = s.loader ∧
    (takePulse i s).cfg = s.cfg ∧ (takePulse i s).peers = s.peers ∧ (takePulse i s).line.bitRate = s.line.bitRate ∧
    (takePulse i s).line.statusPeriod = s.line.statusPeriod ∧ (takePulse i s).line.loadGroup = s.line.loadGroup ∧
    (takePulse i s).line.statusTimer = s.line.statusTimer ∧ (takePulse i s).line.chargeSlot = s.line.chargeSlot ∧
    (takePulse i s).line.statusSlot = s.line.statusSlot ∧ txClass (takePulse i s) = txClass s ∧
    (takePulse i s).line.faultCount = s.line.faultCount ∧ (takePulse i s).line.lineFault = s.line.lineFault ∧
    (takePulse i s).line.ownCompleted = s.line.ownCompleted ∧ (takePulse i s).cmd.queue = s.cmd.queue ∧
    (takePulse i s).cmd.timeTag = s.cmd.timeTag ∧ (takePulse i s).recs.gap = s.recs.gap ∧
    (takePulse i s).recs.serial = s.recs.serial ∧ (takePulse i s).recs.pressure = s.recs.pressure ∧
    (takePulse i s).recs.freePages = s.recs.freePages ∧ (takePulse i s).seq.table = s.seq.table ∧
    (takePulse i s).seq.digest = s.seq.digest ∧ (takePulse i s).scan.timer = s.scan.timer ∧
    (takePulse i s).scan.runLength = s.scan.runLength ∧ (takePulse i s).scan.runTaken = s.scan.runTaken ∧
    (takePulse i s).scan.zero = s.scan.zero ∧ (takePulse i s).scan.holder = s.scan.holder ∧
    (takePulse i s).servo.timer = s.servo.timer ∧ (takePulse i s).servo.lam = s.servo.lam ∧
    (takePulse i s).servo.acc = s.servo.acc ∧ (takePulse i s).servo.integral = s.servo.integral ∧
    (takePulse i s).servo.drive = s.servo.drive ∧ (takePulse i s).servo.fSet = s.servo.fSet ∧
    (takePulse i s).servo.fMeas = s.servo.fMeas ∧ (takePulse i s).servo.error = s.servo.error ∧
    (takePulse i s).servo.lagging = s.servo.lagging ∧ (takePulse i s).servo.tripCount = s.servo.tripCount ∧
    (takePulse i s).servo.overLimit = s.servo.overLimit ∧ (takePulse i s).servo.reacquire = s.servo.reacquire ∧
    (takePulse i s).servo.loadZero = s.servo.loadZero ∧ (takePulse i s).act.chargeList = s.act.chargeList ∧
    (takePulse i s).act.lockRef = s.act.lockRef ∧ (takePulse i s).act.lockRefDue = s.act.lockRefDue ∧
    (takePulse i s).pins.pressOk = s.pins.pressOk ∧ (takePulse i s).pins.lockEngaged = s.pins.lockEngaged ∧
    (takePulse i s).pins.estop = s.pins.estop ∧ (takePulse i s).pins.loadCode = s.pins.loadCode ∧
    (takePulse i s).pins.bridgeCodes = s.pins.bridgeCodes ∧ (takePulse i s).pins.loopReadings = s.pins.loopReadings ∧
    (takePulse i s).crack.timer = s.crack.timer ∧ (takePulse i s).crack.loops = s.crack.loops ∧
    (takePulse i s).crack.entries = s.crack.entries := by
  unfold takePulse; split <;> simp

@[simp] theorem senseLoops_frame (l : Nat) (readings : List LoopReading) (s : State) :
    (senseLoops l readings s).pending = s.pending ∧ (senseLoops l readings s).age = s.age ∧
    (senseLoops l readings s).loader = s.loader ∧ (senseLoops l readings s).cfg = s.cfg ∧
    (senseLoops l readings s).peers = s.peers ∧ (senseLoops l readings s).line.bitRate = s.line.bitRate ∧
    (senseLoops l readings s).line.statusPeriod = s.line.statusPeriod ∧
    (senseLoops l readings s).line.loadGroup = s.line.loadGroup ∧
    (senseLoops l readings s).line.statusTimer = s.line.statusTimer ∧
    (senseLoops l readings s).line.chargeSlot = s.line.chargeSlot ∧
    (senseLoops l readings s).line.statusSlot = s.line.statusSlot ∧ txClass (senseLoops l readings s) = txClass s ∧
    (senseLoops l readings s).line.faultCount = s.line.faultCount ∧
    (senseLoops l readings s).line.lineFault = s.line.lineFault ∧
    (senseLoops l readings s).line.ownCompleted = s.line.ownCompleted ∧
    (senseLoops l readings s).cmd.queue = s.cmd.queue ∧ (senseLoops l readings s).cmd.timeTag = s.cmd.timeTag ∧
    (senseLoops l readings s).recs.gap = s.recs.gap ∧ (senseLoops l readings s).recs.serial = s.recs.serial ∧
    (senseLoops l readings s).recs.pressure = s.recs.pressure ∧
    (senseLoops l readings s).recs.freePages = s.recs.freePages ∧ (senseLoops l readings s).seq.table = s.seq.table ∧
    (senseLoops l readings s).seq.digest = s.seq.digest ∧ (senseLoops l readings s).scan.timer = s.scan.timer ∧
    (senseLoops l readings s).scan.runLength = s.scan.runLength ∧
    (senseLoops l readings s).scan.runTaken = s.scan.runTaken ∧ (senseLoops l readings s).scan.zero = s.scan.zero ∧
    (senseLoops l readings s).scan.holder = s.scan.holder ∧ (senseLoops l readings s).servo.timer = s.servo.timer ∧
    (senseLoops l readings s).servo.lam = s.servo.lam ∧ (senseLoops l readings s).servo.acc = s.servo.acc ∧
    (senseLoops l readings s).servo.integral = s.servo.integral ∧
    (senseLoops l readings s).servo.drive = s.servo.drive ∧ (senseLoops l readings s).servo.fSet = s.servo.fSet ∧
    (senseLoops l readings s).servo.fMeas = s.servo.fMeas ∧ (senseLoops l readings s).servo.error = s.servo.error ∧
    (senseLoops l readings s).servo.lagging = s.servo.lagging ∧
    (senseLoops l readings s).servo.tripCount = s.servo.tripCount ∧
    (senseLoops l readings s).servo.overLimit = s.servo.overLimit ∧
    (senseLoops l readings s).servo.reacquire = s.servo.reacquire ∧
    (senseLoops l readings s).servo.loadZero = s.servo.loadZero ∧
    (senseLoops l readings s).act.chargeList = s.act.chargeList ∧
    (senseLoops l readings s).act.lockRef = s.act.lockRef ∧
    (senseLoops l readings s).act.lockRefDue = s.act.lockRefDue ∧
    (senseLoops l readings s).pins.pressOk = s.pins.pressOk ∧
    (senseLoops l readings s).pins.lockEngaged = s.pins.lockEngaged ∧
    (senseLoops l readings s).pins.estop = s.pins.estop ∧ (senseLoops l readings s).pins.loadCode = s.pins.loadCode ∧
    (senseLoops l readings s).pins.bridgeCodes = s.pins.bridgeCodes ∧
    (senseLoops l readings s).pins.loopReadings = s.pins.loopReadings ∧
    (senseLoops l readings s).crack.timer = s.crack.timer ∧
    (senseLoops l readings s).crack.inputs = s.crack.inputs := by
  induction readings generalizing l s with
  | nil => simp [senseLoops]
  | cons r rest ih => simp [senseLoops, ih]

@[simp] theorem loopScanEvent_frame (readings : List LoopReading) (s : State) :
    (loopScanEvent readings s).pending = s.pending ∧ (loopScanEvent readings s).age = s.age ∧
    (loopScanEvent readings s).loader = s.loader ∧ (loopScanEvent readings s).cfg = s.cfg ∧
    (loopScanEvent readings s).peers = s.peers ∧ (loopScanEvent readings s).line.bitRate = s.line.bitRate ∧
    (loopScanEvent readings s).line.statusPeriod = s.line.statusPeriod ∧
    (loopScanEvent readings s).line.loadGroup = s.line.loadGroup ∧
    (loopScanEvent readings s).line.statusTimer = s.line.statusTimer ∧
    (loopScanEvent readings s).line.chargeSlot = s.line.chargeSlot ∧
    (loopScanEvent readings s).line.statusSlot = s.line.statusSlot ∧ txClass (loopScanEvent readings s) = txClass s ∧
    (loopScanEvent readings s).line.faultCount = s.line.faultCount ∧
    (loopScanEvent readings s).line.lineFault = s.line.lineFault ∧
    (loopScanEvent readings s).line.ownCompleted = s.line.ownCompleted ∧
    (loopScanEvent readings s).cmd.queue = s.cmd.queue ∧ (loopScanEvent readings s).cmd.timeTag = s.cmd.timeTag ∧
    (loopScanEvent readings s).recs.gap = s.recs.gap ∧ (loopScanEvent readings s).recs.serial = s.recs.serial ∧
    (loopScanEvent readings s).recs.pressure = s.recs.pressure ∧
    (loopScanEvent readings s).recs.freePages = s.recs.freePages ∧
    (loopScanEvent readings s).seq.table = s.seq.table ∧ (loopScanEvent readings s).seq.digest = s.seq.digest ∧
    (loopScanEvent readings s).scan.timer = s.scan.timer ∧
    (loopScanEvent readings s).scan.runLength = s.scan.runLength ∧
    (loopScanEvent readings s).scan.runTaken = s.scan.runTaken ∧ (loopScanEvent readings s).scan.zero = s.scan.zero ∧
    (loopScanEvent readings s).scan.holder = s.scan.holder ∧ (loopScanEvent readings s).servo.timer = s.servo.timer ∧
    (loopScanEvent readings s).servo.lam = s.servo.lam ∧ (loopScanEvent readings s).servo.acc = s.servo.acc ∧
    (loopScanEvent readings s).servo.integral = s.servo.integral ∧
    (loopScanEvent readings s).servo.drive = s.servo.drive ∧ (loopScanEvent readings s).servo.fSet = s.servo.fSet ∧
    (loopScanEvent readings s).servo.fMeas = s.servo.fMeas ∧ (loopScanEvent readings s).servo.error = s.servo.error ∧
    (loopScanEvent readings s).servo.lagging = s.servo.lagging ∧
    (loopScanEvent readings s).servo.tripCount = s.servo.tripCount ∧
    (loopScanEvent readings s).servo.overLimit = s.servo.overLimit ∧
    (loopScanEvent readings s).servo.reacquire = s.servo.reacquire ∧
    (loopScanEvent readings s).servo.loadZero = s.servo.loadZero ∧
    (loopScanEvent readings s).act.chargeList = s.act.chargeList ∧
    (loopScanEvent readings s).act.lockRef = s.act.lockRef ∧
    (loopScanEvent readings s).act.lockRefDue = s.act.lockRefDue ∧
    (loopScanEvent readings s).crack.timer = s.crack.timer ∧
    (loopScanEvent readings s).pins.loopReadings = readings.take 8 := by
  simp [loopScanEvent]

/-! ### Strain scanner -/

@[simp] theorem updateChannel_frame (f : Channel → Channel) (c : Nat) (s : State) :
    (updateChannel f c s).pending = s.pending ∧ (updateChannel f c s).age = s.age ∧
    (updateChannel f c s).loader = s.loader ∧ (updateChannel f c s).cfg = s.cfg ∧
    (updateChannel f c s).pins = s.pins ∧ (updateChannel f c s).line = s.line ∧
    (updateChannel f c s).peers = s.peers ∧ (updateChannel f c s).seq = s.seq ∧
    (updateChannel f c s).servo = s.servo ∧ (updateChannel f c s).act = s.act ∧
    (updateChannel f c s).crack = s.crack ∧ (updateChannel f c s).alarm = s.alarm ∧
    (updateChannel f c s).recs = s.recs ∧ (updateChannel f c s).cmd = s.cmd ∧
    (updateChannel f c s).scan.timer = s.scan.timer ∧ (updateChannel f c s).scan.runLength = s.scan.runLength ∧
    (updateChannel f c s).scan.runTaken = s.scan.runTaken ∧
    (updateChannel f c s).scan.settleTimer = s.scan.settleTimer ∧
    (updateChannel f c s).scan.settled = s.scan.settled ∧ (updateChannel f c s).scan.zero = s.scan.zero ∧
    (updateChannel f c s).scan.shunt = s.scan.shunt ∧ (updateChannel f c s).scan.shuntScans = s.scan.shuntScans ∧
    (updateChannel f c s).scan.claimHeld = s.scan.claimHeld ∧
    (updateChannel f c s).scan.shuntActive = s.scan.shuntActive ∧
    (updateChannel f c s).scan.holder = s.scan.holder := by
  simp [updateChannel]

@[simp] theorem updateEnabled_frame (f : Nat → Channel → Channel) (s : State) :
    (updateEnabled f s).pending = s.pending ∧ (updateEnabled f s).age = s.age ∧
    (updateEnabled f s).loader = s.loader ∧ (updateEnabled f s).cfg = s.cfg ∧ (updateEnabled f s).pins = s.pins ∧
    (updateEnabled f s).line = s.line ∧ (updateEnabled f s).peers = s.peers ∧ (updateEnabled f s).seq = s.seq ∧
    (updateEnabled f s).servo = s.servo ∧ (updateEnabled f s).act = s.act ∧ (updateEnabled f s).crack = s.crack ∧
    (updateEnabled f s).alarm = s.alarm ∧ (updateEnabled f s).recs = s.recs ∧ (updateEnabled f s).cmd = s.cmd ∧
    (updateEnabled f s).scan.timer = s.scan.timer ∧ (updateEnabled f s).scan.runLength = s.scan.runLength ∧
    (updateEnabled f s).scan.runTaken = s.scan.runTaken ∧ (updateEnabled f s).scan.settleTimer = s.scan.settleTimer ∧
    (updateEnabled f s).scan.settled = s.scan.settled ∧ (updateEnabled f s).scan.zero = s.scan.zero ∧
    (updateEnabled f s).scan.shunt = s.scan.shunt ∧ (updateEnabled f s).scan.shuntScans = s.scan.shuntScans ∧
    (updateEnabled f s).scan.claimHeld = s.scan.claimHeld ∧
    (updateEnabled f s).scan.shuntActive = s.scan.shuntActive ∧ (updateEnabled f s).scan.holder = s.scan.holder := by
  simp [updateEnabled]

@[simp] theorem accumulateScan_frame (samples : List (Int × Bool)) (s : State) :
    (accumulateScan samples s).pending = s.pending ∧ (accumulateScan samples s).age = s.age ∧
    (accumulateScan samples s).loader = s.loader ∧ (accumulateScan samples s).cfg = s.cfg ∧
    (accumulateScan samples s).pins = s.pins ∧ (accumulateScan samples s).line = s.line ∧
    (accumulateScan samples s).peers = s.peers ∧ (accumulateScan samples s).seq = s.seq ∧
    (accumulateScan samples s).servo = s.servo ∧ (accumulateScan samples s).act = s.act ∧
    (accumulateScan samples s).crack = s.crack ∧ (accumulateScan samples s).alarm = s.alarm ∧
    (accumulateScan samples s).recs = s.recs ∧ (accumulateScan samples s).cmd = s.cmd ∧
    (accumulateScan samples s).scan.timer = s.scan.timer ∧
    (accumulateScan samples s).scan.runLength = s.scan.runLength ∧
    (accumulateScan samples s).scan.settleTimer = s.scan.settleTimer ∧
    (accumulateScan samples s).scan.settled = s.scan.settled ∧ (accumulateScan samples s).scan.zero = s.scan.zero ∧
    (accumulateScan samples s).scan.shunt = s.scan.shunt ∧
    (accumulateScan samples s).scan.shuntScans = s.scan.shuntScans ∧
    (accumulateScan samples s).scan.claimHeld = s.scan.claimHeld ∧
    (accumulateScan samples s).scan.shuntActive = s.scan.shuntActive ∧
    (accumulateScan samples s).scan.holder = s.scan.holder ∧
    (accumulateScan samples s).scan.runTaken = s.scan.runTaken + 1 := by
  simp [accumulateScan]

@[simp] theorem exceedReached_frame (c : Nat) (s : State) :
    (exceedReached c s).pending = s.pending ∧ (exceedReached c s).age = s.age ∧
    (exceedReached c s).loader = s.loader ∧ (exceedReached c s).cfg = s.cfg ∧ (exceedReached c s).peers = s.peers ∧
    (exceedReached c s).crack = s.crack ∧ (exceedReached c s).line.bitRate = s.line.bitRate ∧
    (exceedReached c s).line.statusPeriod = s.line.statusPeriod ∧
    (exceedReached c s).line.loadGroup = s.line.loadGroup ∧
    (exceedReached c s).line.statusTimer = s.line.statusTimer ∧
    (exceedReached c s).line.chargeSlot = s.line.chargeSlot ∧
    (exceedReached c s).line.statusSlot = s.line.statusSlot ∧ txClass (exceedReached c s) = txClass s ∧
    (exceedReached c s).line.faultCount = s.line.faultCount ∧ (exceedReached c s).line.lineFault = s.line.lineFault ∧
    (exceedReached c s).line.ownCompleted = s.line.ownCompleted ∧ (exceedReached c s).cmd.queue = s.cmd.queue ∧
    (exceedReached c s).cmd.timeTag = s.cmd.timeTag ∧ (exceedReached c s).recs.gap = s.recs.gap ∧
    (exceedReached c s).recs.serial = s.recs.serial ∧ (exceedReached c s).recs.pressure = s.recs.pressure ∧
    (exceedReached c s).recs.freePages = s.recs.freePages ∧ (exceedReached c s).seq.table = s.seq.table ∧
    (exceedReached c s).seq.digest = s.seq.digest ∧ (exceedReached c s).scan.timer = s.scan.timer ∧
    (exceedReached c s).scan.runLength = s.scan.runLength ∧ (exceedReached c s).scan.runTaken = s.scan.runTaken ∧
    (exceedReached c s).scan.zero = s.scan.zero ∧ (exceedReached c s).scan.holder = s.scan.holder ∧
    (exceedReached c s).servo.timer = s.servo.timer ∧ (exceedReached c s).servo.lam = s.servo.lam ∧
    (exceedReached c s).servo.acc = s.servo.acc ∧ (exceedReached c s).servo.integral = s.servo.integral ∧
    (exceedReached c s).servo.drive = s.servo.drive ∧ (exceedReached c s).servo.fSet = s.servo.fSet ∧
    (exceedReached c s).servo.fMeas = s.servo.fMeas ∧ (exceedReached c s).servo.error = s.servo.error ∧
    (exceedReached c s).servo.lagging = s.servo.lagging ∧ (exceedReached c s).servo.tripCount = s.servo.tripCount ∧
    (exceedReached c s).servo.overLimit = s.servo.overLimit ∧
    (exceedReached c s).servo.reacquire = s.servo.reacquire ∧ (exceedReached c s).servo.loadZero = s.servo.loadZero ∧
    (exceedReached c s).act.chargeList = s.act.chargeList ∧ (exceedReached c s).act.lockRef = s.act.lockRef ∧
    (exceedReached c s).act.lockRefDue = s.act.lockRefDue ∧ (exceedReached c s).pins.pressOk = s.pins.pressOk ∧
    (exceedReached c s).pins.lockEngaged = s.pins.lockEngaged ∧ (exceedReached c s).pins.estop = s.pins.estop ∧
    (exceedReached c s).pins.loadCode = s.pins.loadCode ∧ (exceedReached c s).pins.bridgeCodes = s.pins.bridgeCodes ∧
    (exceedReached c s).pins.loopReadings = s.pins.loopReadings := by
  unfold exceedReached; split <;> simp

@[simp] theorem limitCheck_frame (c : Nat) (s : State) :
    (limitCheck c s).pending = s.pending ∧ (limitCheck c s).age = s.age ∧ (limitCheck c s).loader = s.loader ∧
    (limitCheck c s).cfg = s.cfg ∧ (limitCheck c s).peers = s.peers ∧ (limitCheck c s).crack = s.crack ∧
    (limitCheck c s).line.bitRate = s.line.bitRate ∧ (limitCheck c s).line.statusPeriod = s.line.statusPeriod ∧
    (limitCheck c s).line.loadGroup = s.line.loadGroup ∧ (limitCheck c s).line.statusTimer = s.line.statusTimer ∧
    (limitCheck c s).line.chargeSlot = s.line.chargeSlot ∧ (limitCheck c s).line.statusSlot = s.line.statusSlot ∧
    txClass (limitCheck c s) = txClass s ∧ (limitCheck c s).line.faultCount = s.line.faultCount ∧
    (limitCheck c s).line.lineFault = s.line.lineFault ∧ (limitCheck c s).line.ownCompleted = s.line.ownCompleted ∧
    (limitCheck c s).cmd.queue = s.cmd.queue ∧ (limitCheck c s).cmd.timeTag = s.cmd.timeTag ∧
    (limitCheck c s).recs.gap = s.recs.gap ∧ (limitCheck c s).recs.serial = s.recs.serial ∧
    (limitCheck c s).recs.pressure = s.recs.pressure ∧ (limitCheck c s).recs.freePages = s.recs.freePages ∧
    (limitCheck c s).seq.table = s.seq.table ∧ (limitCheck c s).seq.digest = s.seq.digest ∧
    (limitCheck c s).scan.timer = s.scan.timer ∧ (limitCheck c s).scan.runLength = s.scan.runLength ∧
    (limitCheck c s).scan.runTaken = s.scan.runTaken ∧ (limitCheck c s).scan.zero = s.scan.zero ∧
    (limitCheck c s).scan.holder = s.scan.holder ∧ (limitCheck c s).servo.timer = s.servo.timer ∧
    (limitCheck c s).servo.lam = s.servo.lam ∧ (limitCheck c s).servo.acc = s.servo.acc ∧
    (limitCheck c s).servo.integral = s.servo.integral ∧ (limitCheck c s).servo.drive = s.servo.drive ∧
    (limitCheck c s).servo.fSet = s.servo.fSet ∧ (limitCheck c s).servo.fMeas = s.servo.fMeas ∧
    (limitCheck c s).servo.error = s.servo.error ∧ (limitCheck c s).servo.lagging = s.servo.lagging ∧
    (limitCheck c s).servo.tripCount = s.servo.tripCount ∧ (limitCheck c s).servo.overLimit = s.servo.overLimit ∧
    (limitCheck c s).servo.reacquire = s.servo.reacquire ∧ (limitCheck c s).servo.loadZero = s.servo.loadZero ∧
    (limitCheck c s).act.chargeList = s.act.chargeList ∧ (limitCheck c s).act.lockRef = s.act.lockRef ∧
    (limitCheck c s).act.lockRefDue = s.act.lockRefDue ∧ (limitCheck c s).pins.pressOk = s.pins.pressOk ∧
    (limitCheck c s).pins.lockEngaged = s.pins.lockEngaged ∧ (limitCheck c s).pins.estop = s.pins.estop ∧
    (limitCheck c s).pins.loadCode = s.pins.loadCode ∧ (limitCheck c s).pins.bridgeCodes = s.pins.bridgeCodes ∧
    (limitCheck c s).pins.loopReadings = s.pins.loopReadings := by
  unfold limitCheck; simp only []; repeat' split
  all_goals simp

@[simp] theorem settleWindowEnds_frame (s : State) :
    (settleWindowEnds s).pending = s.pending ∧ (settleWindowEnds s).age = s.age ∧
    (settleWindowEnds s).loader = s.loader ∧ (settleWindowEnds s).cfg = s.cfg ∧ (settleWindowEnds s).pins = s.pins ∧
    (settleWindowEnds s).peers = s.peers ∧ (settleWindowEnds s).servo = s.servo ∧ (settleWindowEnds s).act = s.act ∧
    (settleWindowEnds s).crack = s.crack ∧ (settleWindowEnds s).alarm = s.alarm ∧ (settleWindowEnds s).cmd = s.cmd ∧
    (settleWindowEnds s).line.bitRate = s.line.bitRate ∧
    (settleWindowEnds s).line.statusPeriod = s.line.statusPeriod ∧
    (settleWindowEnds s).line.loadGroup = s.line.loadGroup ∧
    (settleWindowEnds s).line.statusTimer = s.line.statusTimer ∧
    (settleWindowEnds s).line.chargeSlot = s.line.chargeSlot ∧
    (settleWindowEnds s).line.statusSlot = s.line.statusSlot ∧ txClass (settleWindowEnds s) = txClass s ∧
    (settleWindowEnds s).line.faultCount = s.line.faultCount ∧
    (settleWindowEnds s).line.lineFault = s.line.lineFault ∧
    (settleWindowEnds s).line.ownCompleted = s.line.ownCompleted ∧ (settleWindowEnds s).line.alarmQ = s.line.alarmQ ∧
    (settleWindowEnds s).line.shuntSlot = s.line.shuntSlot ∧
    (settleWindowEnds s).line.shuntDoneBehind = s.line.shuntDoneBehind ∧
    (settleWindowEnds s).recs.capture = s.recs.capture ∧ (settleWindowEnds s).recs.scansLeft = s.recs.scansLeft ∧
    (settleWindowEnds s).recs.captureKind = s.recs.captureKind ∧ (settleWindowEnds s).recs.gap = s.recs.gap ∧
    (settleWindowEnds s).recs.serial = s.recs.serial ∧ (settleWindowEnds s).recs.pressure = s.recs.pressure ∧
    (settleWindowEnds s).recs.freePages = s.recs.freePages ∧ (settleWindowEnds s).seq.table = s.seq.table ∧
    (settleWindowEnds s).seq.digest = s.seq.digest ∧ (settleWindowEnds s).scan.timer = s.scan.timer ∧
    (settleWindowEnds s).scan.runLength = s.scan.runLength ∧ (settleWindowEnds s).scan.runTaken = s.scan.runTaken ∧
    (settleWindowEnds s).scan.zero = s.scan.zero ∧ (settleWindowEnds s).scan.shunt = s.scan.shunt ∧
    (settleWindowEnds s).scan.shuntScans = s.scan.shuntScans ∧
    (settleWindowEnds s).scan.claimHeld = s.scan.claimHeld ∧
    (settleWindowEnds s).scan.shuntActive = s.scan.shuntActive ∧
    (settleWindowEnds s).scan.holder = s.scan.holder := by
  unfold settleWindowEnds; split <;> simp

@[simp] theorem judgeZero_frame (s : State) :
    (judgeZero s).pending = s.pending ∧ (judgeZero s).age = s.age ∧ (judgeZero s).loader = s.loader ∧
    (judgeZero s).cfg = s.cfg ∧ (judgeZero s).pins = s.pins ∧ (judgeZero s).peers = s.peers ∧
    (judgeZero s).seq = s.seq ∧ (judgeZero s).servo = s.servo ∧ (judgeZero s).act = s.act ∧
    (judgeZero s).crack = s.crack ∧ (judgeZero s).alarm = s.alarm ∧ (judgeZero s).recs = s.recs ∧
    (judgeZero s).line.bitRate = s.line.bitRate ∧ (judgeZero s).line.statusPeriod = s.line.statusPeriod ∧
    (judgeZero s).line.loadGroup = s.line.loadGroup ∧ (judgeZero s).line.statusTimer = s.line.statusTimer ∧
    (judgeZero s).line.chargeSlot = s.line.chargeSlot ∧ (judgeZero s).line.statusSlot = s.line.statusSlot ∧
    (judgeZero s).line.tx = s.line.tx ∧ (judgeZero s).line.faultCount = s.line.faultCount ∧
    (judgeZero s).line.lineFault = s.line.lineFault ∧ (judgeZero s).line.ownCompleted = s.line.ownCompleted ∧
    (judgeZero s).line.alarmQ = s.line.alarmQ ∧ (judgeZero s).line.shuntSlot = s.line.shuntSlot ∧
    (judgeZero s).line.shuntDoneBehind = s.line.shuntDoneBehind ∧ (judgeZero s).line.dataQ = s.line.dataQ ∧
    (judgeZero s).cmd.queue = s.cmd.queue ∧ (judgeZero s).cmd.timeTag = s.cmd.timeTag ∧
    (judgeZero s).scan.timer = s.scan.timer ∧ (judgeZero s).scan.runLength = s.scan.runLength ∧
    (judgeZero s).scan.runTaken = s.scan.runTaken ∧ (judgeZero s).scan.settleTimer = s.scan.settleTimer ∧
    (judgeZero s).scan.settled = s.scan.settled ∧ (judgeZero s).scan.shunt = s.scan.shunt ∧
    (judgeZero s).scan.shuntScans = s.scan.shuntScans ∧ (judgeZero s).scan.claimHeld = s.scan.claimHeld ∧
    (judgeZero s).scan.shuntActive = s.scan.shuntActive ∧ (judgeZero s).scan.holder = s.scan.holder := by
  unfold judgeZero; split <;> simp

@[simp] theorem zeroCompletes_frame (z : ZeroRun) (s : State) :
    (zeroCompletes z s).pending = s.pending ∧ (zeroCompletes z s).age = s.age ∧
    (zeroCompletes z s).loader = s.loader ∧ (zeroCompletes z s).cfg = s.cfg ∧ (zeroCompletes z s).pins = s.pins ∧
    (zeroCompletes z s).peers = s.peers ∧ (zeroCompletes z s).seq = s.seq ∧ (zeroCompletes z s).act = s.act ∧
    (zeroCompletes z s).crack = s.crack ∧ (zeroCompletes z s).alarm = s.alarm ∧ (zeroCompletes z s).recs = s.recs ∧
    (zeroCompletes z s).line.bitRate = s.line.bitRate ∧ (zeroCompletes z s).line.statusPeriod = s.line.statusPeriod ∧
    (zeroCompletes z s).line.loadGroup = s.line.loadGroup ∧
    (zeroCompletes z s).line.statusTimer = s.line.statusTimer ∧
    (zeroCompletes z s).line.chargeSlot = s.line.chargeSlot ∧
    (zeroCompletes z s).line.statusSlot = s.line.statusSlot ∧ (zeroCompletes z s).line.tx = s.line.tx ∧
    (zeroCompletes z s).line.faultCount = s.line.faultCount ∧ (zeroCompletes z s).line.lineFault = s.line.lineFault ∧
    (zeroCompletes z s).line.ownCompleted = s.line.ownCompleted ∧ (zeroCompletes z s).line.alarmQ = s.line.alarmQ ∧
    (zeroCompletes z s).line.shuntSlot = s.line.shuntSlot ∧
    (zeroCompletes z s).line.shuntDoneBehind = s.line.shuntDoneBehind ∧
    (zeroCompletes z s).line.dataQ = s.line.dataQ ∧ (zeroCompletes z s).cmd.queue = s.cmd.queue ∧
    (zeroCompletes z s).cmd.timeTag = s.cmd.timeTag ∧ (zeroCompletes z s).servo.timer = s.servo.timer ∧
    (zeroCompletes z s).servo.lam = s.servo.lam ∧ (zeroCompletes z s).servo.acc = s.servo.acc ∧
    (zeroCompletes z s).servo.integral = s.servo.integral ∧ (zeroCompletes z s).servo.drive = s.servo.drive ∧
    (zeroCompletes z s).servo.fSet = s.servo.fSet ∧ (zeroCompletes z s).servo.fMeas = s.servo.fMeas ∧
    (zeroCompletes z s).servo.error = s.servo.error ∧ (zeroCompletes z s).servo.lagging = s.servo.lagging ∧
    (zeroCompletes z s).servo.tripCount = s.servo.tripCount ∧
    (zeroCompletes z s).servo.overLimit = s.servo.overLimit ∧
    (zeroCompletes z s).servo.reacquire = s.servo.reacquire ∧ (zeroCompletes z s).scan.timer = s.scan.timer ∧
    (zeroCompletes z s).scan.runLength = s.scan.runLength ∧ (zeroCompletes z s).scan.runTaken = s.scan.runTaken ∧
    (zeroCompletes z s).scan.settleTimer = s.scan.settleTimer ∧ (zeroCompletes z s).scan.settled = s.scan.settled ∧
    (zeroCompletes z s).scan.shunt = s.scan.shunt ∧ (zeroCompletes z s).scan.shuntScans = s.scan.shuntScans ∧
    (zeroCompletes z s).scan.claimHeld = s.scan.claimHeld ∧
    (zeroCompletes z s).scan.shuntActive = s.scan.shuntActive ∧ (zeroCompletes z s).scan.holder = s.scan.holder ∧
    (zeroCompletes z s).scan.zero = none ∧ (zeroCompletes z s).servo.clearOrder = s.servo.clearOrder := by
  simp [zeroCompletes]

@[simp] theorem advanceZero_frame (codes : List Int) (s : State) :
    (advanceZero codes s).pending = s.pending ∧ (advanceZero codes s).age = s.age ∧
    (advanceZero codes s).loader = s.loader ∧ (advanceZero codes s).cfg = s.cfg ∧
    (advanceZero codes s).pins = s.pins ∧ (advanceZero codes s).peers = s.peers ∧ (advanceZero codes s).seq = s.seq ∧
    (advanceZero codes s).act = s.act ∧ (advanceZero codes s).crack = s.crack ∧
    (advanceZero codes s).alarm = s.alarm ∧ (advanceZero codes s).recs = s.recs ∧
    (advanceZero codes s).line.bitRate = s.line.bitRate ∧
    (advanceZero codes s).line.statusPeriod = s.line.statusPeriod ∧
    (advanceZero codes s).line.loadGroup = s.line.loadGroup ∧
    (advanceZero codes s).line.statusTimer = s.line.statusTimer ∧
    (advanceZero codes s).line.chargeSlot = s.line.chargeSlot ∧
    (advanceZero codes s).line.statusSlot = s.line.statusSlot ∧ (advanceZero codes s).line.tx = s.line.tx ∧
    (advanceZero codes s).line.faultCount = s.line.faultCount ∧
    (advanceZero codes s).line.lineFault = s.line.lineFault ∧
    (advanceZero codes s).line.ownCompleted = s.line.ownCompleted ∧
    (advanceZero codes s).line.alarmQ = s.line.alarmQ ∧ (advanceZero codes s).line.shuntSlot = s.line.shuntSlot ∧
    (advanceZero codes s).line.shuntDoneBehind = s.line.shuntDoneBehind ∧
    (advanceZero codes s).line.dataQ = s.line.dataQ ∧ (advanceZero codes s).cmd.queue = s.cmd.queue ∧
    (advanceZero codes s).cmd.timeTag = s.cmd.timeTag ∧ (advanceZero codes s).servo.timer = s.servo.timer ∧
    (advanceZero codes s).servo.lam = s.servo.lam ∧ (advanceZero codes s).servo.acc = s.servo.acc ∧
    (advanceZero codes s).servo.integral = s.servo.integral ∧ (advanceZero codes s).servo.drive = s.servo.drive ∧
    (advanceZero codes s).servo.fSet = s.servo.fSet ∧ (advanceZero codes s).servo.fMeas = s.servo.fMeas ∧
    (advanceZero codes s).servo.error = s.servo.error ∧ (advanceZero codes s).servo.lagging = s.servo.lagging ∧
    (advanceZero codes s).servo.tripCount = s.servo.tripCount ∧
    (advanceZero codes s).servo.overLimit = s.servo.overLimit ∧
    (advanceZero codes s).servo.reacquire = s.servo.reacquire ∧ (advanceZero codes s).scan.timer = s.scan.timer ∧
    (advanceZero codes s).scan.runLength = s.scan.runLength ∧ (advanceZero codes s).scan.runTaken = s.scan.runTaken ∧
    (advanceZero codes s).scan.settleTimer = s.scan.settleTimer ∧
    (advanceZero codes s).scan.settled = s.scan.settled ∧ (advanceZero codes s).scan.shunt = s.scan.shunt ∧
    (advanceZero codes s).scan.shuntScans = s.scan.shuntScans ∧
    (advanceZero codes s).scan.claimHeld = s.scan.claimHeld ∧
    (advanceZero codes s).scan.shuntActive = s.scan.shuntActive ∧ (advanceZero codes s).scan.holder = s.scan.holder ∧
    (advanceZero codes s).servo.clearOrder = s.servo.clearOrder := by
  unfold advanceZero; simp only []; repeat' split
  all_goals simp

@[simp] theorem holderReleased_frame (s : State) :
    (holderReleased s).pending = s.pending ∧ (holderReleased s).age = s.age ∧ (holderReleased s).loader = s.loader ∧
    (holderReleased s).cfg = s.cfg ∧ (holderReleased s).pins = s.pins ∧ (holderReleased s).peers = s.peers ∧
    (holderReleased s).seq = s.seq ∧ (holderReleased s).servo = s.servo ∧ (holderReleased s).act = s.act ∧
    (holderReleased s).crack = s.crack ∧ (holderReleased s).alarm = s.alarm ∧ (holderReleased s).recs = s.recs ∧
    (holderReleased s).cmd = s.cmd ∧ (holderReleased s).line.bitRate = s.line.bitRate ∧
    (holderReleased s).line.statusPeriod = s.line.statusPeriod ∧
    (holderReleased s).line.loadGroup = s.line.loadGroup ∧ (holderReleased s).line.statusTimer = s.line.statusTimer ∧
    (holderReleased s).line.chargeSlot = s.line.chargeSlot ∧ (holderReleased s).line.statusSlot = s.line.statusSlot ∧
    (holderReleased s).line.tx = s.line.tx ∧ (holderReleased s).line.faultCount = s.line.faultCount ∧
    (holderReleased s).line.lineFault = s.line.lineFault ∧
    (holderReleased s).line.ownCompleted = s.line.ownCompleted ∧ (holderReleased s).line.alarmQ = s.line.alarmQ ∧
    (holderReleased s).line.shuntDoneBehind = s.line.shuntDoneBehind ∧
    (holderReleased s).line.replyQ = s.line.replyQ ∧ (holderReleased s).line.dataQ = s.line.dataQ ∧
    (holderReleased s).line.heldReplies = s.line.heldReplies ∧ (holderReleased s).line.events = s.line.events ∧
    (holderReleased s).line.afterTake = s.line.afterTake ∧ (holderReleased s).scan.holder = none ∧
    (holderReleased s).scan.channels = s.scan.channels := by
  unfold holderReleased; simp only []; split <;> simp

@[simp] theorem claimCompletes_frame (sender : Nat) (s : State) :
    (claimCompletes sender s).pending = s.pending ∧ (claimCompletes sender s).age = s.age ∧
    (claimCompletes sender s).loader = s.loader ∧ (claimCompletes sender s).cfg = s.cfg ∧
    (claimCompletes sender s).pins = s.pins ∧ (claimCompletes sender s).line = s.line ∧
    (claimCompletes sender s).peers = s.peers ∧ (claimCompletes sender s).seq = s.seq ∧
    (claimCompletes sender s).servo = s.servo ∧ (claimCompletes sender s).act = s.act ∧
    (claimCompletes sender s).crack = s.crack ∧ (claimCompletes sender s).alarm = s.alarm ∧
    (claimCompletes sender s).recs = s.recs ∧ (claimCompletes sender s).cmd = s.cmd ∧
    (claimCompletes sender s).scan.timer = s.scan.timer ∧
    (claimCompletes sender s).scan.runLength = s.scan.runLength ∧
    (claimCompletes sender s).scan.runTaken = s.scan.runTaken ∧
    (claimCompletes sender s).scan.settleTimer = s.scan.settleTimer ∧
    (claimCompletes sender s).scan.settled = s.scan.settled ∧ (claimCompletes sender s).scan.zero = s.scan.zero ∧
    (claimCompletes sender s).scan.shunt = s.scan.shunt ∧
    (claimCompletes sender s).scan.shuntScans = s.scan.shuntScans ∧
    (claimCompletes sender s).scan.claimHeld = s.scan.claimHeld ∧
    (claimCompletes sender s).scan.shuntActive = s.scan.shuntActive ∧
    (claimCompletes sender s).scan.channels = s.scan.channels := by
  unfold claimCompletes; split <;> simp

@[simp] theorem doneCompletes_frame (sender : Nat) (s : State) :
    (doneCompletes sender s).pending = s.pending ∧ (doneCompletes sender s).age = s.age ∧
    (doneCompletes sender s).loader = s.loader ∧ (doneCompletes sender s).cfg = s.cfg ∧
    (doneCompletes sender s).pins = s.pins ∧ (doneCompletes sender s).peers = s.peers ∧
    (doneCompletes sender s).seq = s.seq ∧ (doneCompletes sender s).servo = s.servo ∧
    (doneCompletes sender s).act = s.act ∧ (doneCompletes sender s).crack = s.crack ∧
    (doneCompletes sender s).alarm = s.alarm ∧ (doneCompletes sender s).recs = s.recs ∧
    (doneCompletes sender s).cmd = s.cmd ∧ (doneCompletes sender s).line.bitRate = s.line.bitRate ∧
    (doneCompletes sender s).line.statusPeriod = s.line.statusPeriod ∧
    (doneCompletes sender s).line.loadGroup = s.line.loadGroup ∧
    (doneCompletes sender s).line.statusTimer = s.line.statusTimer ∧
    (doneCompletes sender s).line.chargeSlot = s.line.chargeSlot ∧
    (doneCompletes sender s).line.statusSlot = s.line.statusSlot ∧ (doneCompletes sender s).line.tx = s.line.tx ∧
    (doneCompletes sender s).line.faultCount = s.line.faultCount ∧
    (doneCompletes sender s).line.lineFault = s.line.lineFault ∧
    (doneCompletes sender s).line.ownCompleted = s.line.ownCompleted ∧
    (doneCompletes sender s).line.alarmQ = s.line.alarmQ ∧
    (doneCompletes sender s).line.shuntDoneBehind = s.line.shuntDoneBehind ∧
    (doneCompletes sender s).line.replyQ = s.line.replyQ ∧ (doneCompletes sender s).line.dataQ = s.line.dataQ ∧
    (doneCompletes sender s).line.heldReplies = s.line.heldReplies ∧
    (doneCompletes sender s).line.events = s.line.events ∧
    (doneCompletes sender s).line.afterTake = s.line.afterTake ∧
    (doneCompletes sender s).scan.channels = s.scan.channels := by
  unfold doneCompletes; split <;> simp

@[simp] theorem holderAbsent_frame (station : Nat) (s : State) :
    (holderAbsent station s).pending = s.pending ∧ (holderAbsent station s).age = s.age ∧
    (holderAbsent station s).loader = s.loader ∧ (holderAbsent station s).cfg = s.cfg ∧
    (holderAbsent station s).pins = s.pins ∧ (holderAbsent station s).peers = s.peers ∧
    (holderAbsent station s).seq = s.seq ∧ (holderAbsent station s).servo = s.servo ∧
    (holderAbsent station s).act = s.act ∧ (holderAbsent station s).crack = s.crack ∧
    (holderAbsent station s).alarm = s.alarm ∧ (holderAbsent station s).recs = s.recs ∧
    (holderAbsent station s).cmd = s.cmd ∧ (holderAbsent station s).line.bitRate = s.line.bitRate ∧
    (holderAbsent station s).line.statusPeriod = s.line.statusPeriod ∧
    (holderAbsent station s).line.loadGroup = s.line.loadGroup ∧
    (holderAbsent station s).line.statusTimer = s.line.statusTimer ∧
    (holderAbsent station s).line.chargeSlot = s.line.chargeSlot ∧
    (holderAbsent station s).line.statusSlot = s.line.statusSlot ∧ (holderAbsent station s).line.tx = s.line.tx ∧
    (holderAbsent station s).line.faultCount = s.line.faultCount ∧
    (holderAbsent station s).line.lineFault = s.line.lineFault ∧
    (holderAbsent station s).line.ownCompleted = s.line.ownCompleted ∧
    (holderAbsent station s).line.alarmQ = s.line.alarmQ ∧
    (holderAbsent station s).line.shuntDoneBehind = s.line.shuntDoneBehind ∧
    (holderAbsent station s).line.replyQ = s.line.replyQ ∧ (holderAbsent station s).line.dataQ = s.line.dataQ ∧
    (holderAbsent station s).line.heldReplies = s.line.heldReplies ∧
    (holderAbsent station s).line.events = s.line.events ∧
    (holderAbsent station s).line.afterTake = s.line.afterTake ∧
    (holderAbsent station s).scan.channels = s.scan.channels := by
  unfold holderAbsent; split <;> simp

@[simp] theorem holderQuiet_frame (station : Nat) (active : Bool) (s : State) :
    (holderQuiet station active s).pending = s.pending ∧ (holderQuiet station active s).age = s.age ∧
    (holderQuiet station active s).loader = s.loader ∧ (holderQuiet station active s).cfg = s.cfg ∧
    (holderQuiet station active s).pins = s.pins ∧ (holderQuiet station active s).peers = s.peers ∧
    (holderQuiet station active s).seq = s.seq ∧ (holderQuiet station active s).servo = s.servo ∧
    (holderQuiet station active s).act = s.act ∧ (holderQuiet station active s).crack = s.crack ∧
    (holderQuiet station active s).alarm = s.alarm ∧ (holderQuiet station active s).recs = s.recs ∧
    (holderQuiet station active s).cmd = s.cmd ∧ (holderQuiet station active s).line.bitRate = s.line.bitRate ∧
    (holderQuiet station active s).line.statusPeriod = s.line.statusPeriod ∧
    (holderQuiet station active s).line.loadGroup = s.line.loadGroup ∧
    (holderQuiet station active s).line.statusTimer = s.line.statusTimer ∧
    (holderQuiet station active s).line.chargeSlot = s.line.chargeSlot ∧
    (holderQuiet station active s).line.statusSlot = s.line.statusSlot ∧
    (holderQuiet station active s).line.tx = s.line.tx ∧
    (holderQuiet station active s).line.faultCount = s.line.faultCount ∧
    (holderQuiet station active s).line.lineFault = s.line.lineFault ∧
    (holderQuiet station active s).line.ownCompleted = s.line.ownCompleted ∧
    (holderQuiet station active s).line.alarmQ = s.line.alarmQ ∧
    (holderQuiet station active s).line.shuntDoneBehind = s.line.shuntDoneBehind ∧
    (holderQuiet station active s).line.replyQ = s.line.replyQ ∧
    (holderQuiet station active s).line.dataQ = s.line.dataQ ∧
    (holderQuiet station active s).line.heldReplies = s.line.heldReplies ∧
    (holderQuiet station active s).line.events = s.line.events ∧
    (holderQuiet station active s).line.afterTake = s.line.afterTake ∧
    (holderQuiet station active s).scan.channels = s.scan.channels := by
  unfold holderQuiet; split <;> simp

@[simp] theorem enterBefore_frame (s : State) :
    (enterBefore s).pending = s.pending ∧ (enterBefore s).age = s.age ∧ (enterBefore s).loader = s.loader ∧
    (enterBefore s).cfg = s.cfg ∧ (enterBefore s).pins = s.pins ∧ (enterBefore s).line = s.line ∧
    (enterBefore s).peers = s.peers ∧ (enterBefore s).seq = s.seq ∧ (enterBefore s).servo = s.servo ∧
    (enterBefore s).act = s.act ∧ (enterBefore s).crack = s.crack ∧ (enterBefore s).alarm = s.alarm ∧
    (enterBefore s).recs = s.recs ∧ (enterBefore s).cmd = s.cmd ∧ (enterBefore s).scan.timer = s.scan.timer ∧
    (enterBefore s).scan.runLength = s.scan.runLength ∧ (enterBefore s).scan.runTaken = s.scan.runTaken ∧
    (enterBefore s).scan.settleTimer = s.scan.settleTimer ∧ (enterBefore s).scan.settled = s.scan.settled ∧
    (enterBefore s).scan.zero = s.scan.zero ∧ (enterBefore s).scan.claimHeld = s.scan.claimHeld ∧
    (enterBefore s).scan.holder = s.scan.holder ∧ (enterBefore s).scan.shunt = .before ∧
    (enterBefore s).scan.shuntActive = true := by
  simp [enterBefore]

@[simp] theorem judgeShunt_frame (s : State) :
    (judgeShunt s).pending = s.pending ∧ (judgeShunt s).age = s.age ∧ (judgeShunt s).loader = s.loader ∧
    (judgeShunt s).cfg = s.cfg ∧ (judgeShunt s).pins = s.pins ∧ (judgeShunt s).peers = s.peers ∧
    (judgeShunt s).seq = s.seq ∧ (judgeShunt s).servo = s.servo ∧ (judgeShunt s).act = s.act ∧
    (judgeShunt s).crack = s.crack ∧ (judgeShunt s).alarm = s.alarm ∧ (judgeShunt s).recs = s.recs ∧
    (judgeShunt s).line.bitRate = s.line.bitRate ∧ (judgeShunt s).line.statusPeriod = s.line.statusPeriod ∧
    (judgeShunt s).line.loadGroup = s.line.loadGroup ∧ (judgeShunt s).line.statusTimer = s.line.statusTimer ∧
    (judgeShunt s).line.chargeSlot = s.line.chargeSlot ∧ (judgeShunt s).line.statusSlot = s.line.statusSlot ∧
    (judgeShunt s).line.tx = s.line.tx ∧ (judgeShunt s).line.faultCount = s.line.faultCount ∧
    (judgeShunt s).line.lineFault = s.line.lineFault ∧ (judgeShunt s).line.ownCompleted = s.line.ownCompleted ∧
    (judgeShunt s).line.alarmQ = s.line.alarmQ ∧ (judgeShunt s).line.shuntDoneBehind = s.line.shuntDoneBehind ∧
    (judgeShunt s).line.dataQ = s.line.dataQ ∧ (judgeShunt s).cmd.queue = s.cmd.queue ∧
    (judgeShunt s).cmd.timeTag = s.cmd.timeTag := by
  unfold judgeShunt; split <;> (try split) <;> simp

@[simp] theorem spanEnds_frame (s : State) :
    (spanEnds s).pending = s.pending ∧ (spanEnds s).age = s.age ∧ (spanEnds s).loader = s.loader ∧
    (spanEnds s).cfg = s.cfg ∧ (spanEnds s).line = s.line ∧ (spanEnds s).peers = s.peers ∧ (spanEnds s).seq = s.seq ∧
    (spanEnds s).servo = s.servo ∧ (spanEnds s).act = s.act ∧ (spanEnds s).crack = s.crack ∧
    (spanEnds s).alarm = s.alarm ∧ (spanEnds s).recs = s.recs ∧ (spanEnds s).cmd = s.cmd ∧
    (spanEnds s).scan.timer = s.scan.timer ∧ (spanEnds s).scan.runLength = s.scan.runLength ∧
    (spanEnds s).scan.runTaken = s.scan.runTaken ∧ (spanEnds s).scan.settleTimer = s.scan.settleTimer ∧
    (spanEnds s).scan.settled = s.scan.settled ∧ (spanEnds s).scan.zero = s.scan.zero ∧
    (spanEnds s).scan.claimHeld = s.scan.claimHeld ∧ (spanEnds s).scan.holder = s.scan.holder ∧
    (spanEnds s).scan.shuntActive = s.scan.shuntActive ∧ (spanEnds s).scan.channels = s.scan.channels ∧
    (spanEnds s).pins.pressOk = s.pins.pressOk ∧ (spanEnds s).pins.lockEngaged = s.pins.lockEngaged ∧
    (spanEnds s).pins.estop = s.pins.estop ∧ (spanEnds s).pins.loadCode = s.pins.loadCode ∧
    (spanEnds s).pins.bridgeCodes = s.pins.bridgeCodes ∧ (spanEnds s).pins.loopReadings = s.pins.loopReadings ∧
    (spanEnds s).pins.iso = s.pins.iso ∧ (spanEnds s).pins.dump = s.pins.dump ∧
    (spanEnds s).pins.lockCmd = s.pins.lockCmd ∧ (spanEnds s).pins.drive = s.pins.drive := by
  unfold spanEnds; split <;> simp

@[simp] theorem channelFails_frame (c : Nat) (s : State) :
    (channelFails c s).pending = s.pending ∧ (channelFails c s).age = s.age ∧ (channelFails c s).loader = s.loader ∧
    (channelFails c s).cfg = s.cfg ∧ (channelFails c s).peers = s.peers ∧ (channelFails c s).crack = s.crack ∧
    (channelFails c s).line.bitRate = s.line.bitRate ∧ (channelFails c s).line.statusPeriod = s.line.statusPeriod ∧
    (channelFails c s).line.loadGroup = s.line.loadGroup ∧ (channelFails c s).line.statusTimer = s.line.statusTimer ∧
    (channelFails c s).line.chargeSlot = s.line.chargeSlot ∧ (channelFails c s).line.statusSlot = s.line.statusSlot ∧
    txClass (channelFails c s) = txClass s ∧ (channelFails c s).line.faultCount = s.line.faultCount ∧
    (channelFails c s).line.lineFault = s.line.lineFault ∧
    (channelFails c s).line.ownCompleted = s.line.ownCompleted ∧ (channelFails c s).cmd.queue = s.cmd.queue ∧
    (channelFails c s).cmd.timeTag = s.cmd.timeTag ∧ (channelFails c s).recs.gap = s.recs.gap ∧
    (channelFails c s).recs.serial = s.recs.serial ∧ (channelFails c s).recs.pressure = s.recs.pressure ∧
    (channelFails c s).recs.freePages = s.recs.freePages ∧ (channelFails c s).seq.table = s.seq.table ∧
    (channelFails c s).seq.digest = s.seq.digest ∧ (channelFails c s).scan.timer = s.scan.timer ∧
    (channelFails c s).scan.runLength = s.scan.runLength ∧ (channelFails c s).scan.runTaken = s.scan.runTaken ∧
    (channelFails c s).scan.zero = s.scan.zero ∧ (channelFails c s).scan.holder = s.scan.holder ∧
    (channelFails c s).servo.timer = s.servo.timer ∧ (channelFails c s).servo.lam = s.servo.lam ∧
    (channelFails c s).servo.acc = s.servo.acc ∧ (channelFails c s).servo.integral = s.servo.integral ∧
    (channelFails c s).servo.drive = s.servo.drive ∧ (channelFails c s).servo.fSet = s.servo.fSet ∧
    (channelFails c s).servo.fMeas = s.servo.fMeas ∧ (channelFails c s).servo.error = s.servo.error ∧
    (channelFails c s).servo.lagging = s.servo.lagging ∧ (channelFails c s).servo.tripCount = s.servo.tripCount ∧
    (channelFails c s).servo.overLimit = s.servo.overLimit ∧ (channelFails c s).servo.reacquire = s.servo.reacquire ∧
    (channelFails c s).servo.loadZero = s.servo.loadZero ∧ (channelFails c s).act.chargeList = s.act.chargeList ∧
    (channelFails c s).act.lockRef = s.act.lockRef ∧ (channelFails c s).act.lockRefDue = s.act.lockRefDue ∧
    (channelFails c s).pins.pressOk = s.pins.pressOk ∧ (channelFails c s).pins.lockEngaged = s.pins.lockEngaged ∧
    (channelFails c s).pins.estop = s.pins.estop ∧ (channelFails c s).pins.loadCode = s.pins.loadCode ∧
    (channelFails c s).pins.bridgeCodes = s.pins.bridgeCodes ∧
    (channelFails c s).pins.loopReadings = s.pins.loopReadings ∧
    (channelFails c s).alarm.latch = latchMax s.alarm.latch .note := by
  simp [channelFails]

@[simp] theorem judgeChannel_frame (c : Nat) (s : State) :
    (judgeChannel c s).pending = s.pending ∧ (judgeChannel c s).age = s.age ∧ (judgeChannel c s).loader = s.loader ∧
    (judgeChannel c s).cfg = s.cfg ∧ (judgeChannel c s).peers = s.peers ∧ (judgeChannel c s).crack = s.crack ∧
    (judgeChannel c s).line.bitRate = s.line.bitRate ∧ (judgeChannel c s).line.statusPeriod = s.line.statusPeriod ∧
    (judgeChannel c s).line.loadGroup = s.line.loadGroup ∧ (judgeChannel c s).line.statusTimer = s.line.statusTimer ∧
    (judgeChannel c s).line.chargeSlot = s.line.chargeSlot ∧ (judgeChannel c s).line.statusSlot = s.line.statusSlot ∧
    txClass (judgeChannel c s) = txClass s ∧ (judgeChannel c s).line.faultCount = s.line.faultCount ∧
    (judgeChannel c s).line.lineFault = s.line.lineFault ∧
    (judgeChannel c s).line.ownCompleted = s.line.ownCompleted ∧ (judgeChannel c s).cmd.queue = s.cmd.queue ∧
    (judgeChannel c s).cmd.timeTag = s.cmd.timeTag ∧ (judgeChannel c s).recs.gap = s.recs.gap ∧
    (judgeChannel c s).recs.serial = s.recs.serial ∧ (judgeChannel c s).recs.pressure = s.recs.pressure ∧
    (judgeChannel c s).recs.freePages = s.recs.freePages ∧ (judgeChannel c s).seq.table = s.seq.table ∧
    (judgeChannel c s).seq.digest = s.seq.digest ∧ (judgeChannel c s).scan.timer = s.scan.timer ∧
    (judgeChannel c s).scan.runLength = s.scan.runLength ∧ (judgeChannel c s).scan.runTaken = s.scan.runTaken ∧
    (judgeChannel c s).scan.zero = s.scan.zero ∧ (judgeChannel c s).scan.holder = s.scan.holder ∧
    (judgeChannel c s).servo.timer = s.servo.timer ∧ (judgeChannel c s).servo.lam = s.servo.lam ∧
    (judgeChannel c s).servo.acc = s.servo.acc ∧ (judgeChannel c s).servo.integral = s.servo.integral ∧
    (judgeChannel c s).servo.drive = s.servo.drive ∧ (judgeChannel c s).servo.fSet = s.servo.fSet ∧
    (judgeChannel c s).servo.fMeas = s.servo.fMeas ∧ (judgeChannel c s).servo.error = s.servo.error ∧
    (judgeChannel c s).servo.lagging = s.servo.lagging ∧ (judgeChannel c s).servo.tripCount = s.servo.tripCount ∧
    (judgeChannel c s).servo.overLimit = s.servo.overLimit ∧ (judgeChannel c s).servo.reacquire = s.servo.reacquire ∧
    (judgeChannel c s).servo.loadZero = s.servo.loadZero ∧ (judgeChannel c s).act.chargeList = s.act.chargeList ∧
    (judgeChannel c s).act.lockRef = s.act.lockRef ∧ (judgeChannel c s).act.lockRefDue = s.act.lockRefDue ∧
    (judgeChannel c s).pins.pressOk = s.pins.pressOk ∧ (judgeChannel c s).pins.lockEngaged = s.pins.lockEngaged ∧
    (judgeChannel c s).pins.estop = s.pins.estop ∧ (judgeChannel c s).pins.loadCode = s.pins.loadCode ∧
    (judgeChannel c s).pins.bridgeCodes = s.pins.bridgeCodes ∧
    (judgeChannel c s).pins.loopReadings = s.pins.loopReadings := by
  unfold judgeChannel; simp only []; repeat' split
  all_goals simp

@[simp] theorem limitChecks_frame (c n : Nat) (s : State) :
    (limitChecks c n s).pending = s.pending ∧ (limitChecks c n s).age = s.age ∧
    (limitChecks c n s).loader = s.loader ∧ (limitChecks c n s).cfg = s.cfg ∧ (limitChecks c n s).peers = s.peers ∧
    (limitChecks c n s).crack = s.crack ∧ (limitChecks c n s).line.bitRate = s.line.bitRate ∧
    (limitChecks c n s).line.statusPeriod = s.line.statusPeriod ∧
    (limitChecks c n s).line.loadGroup = s.line.loadGroup ∧
    (limitChecks c n s).line.statusTimer = s.line.statusTimer ∧
    (limitChecks c n s).line.chargeSlot = s.line.chargeSlot ∧
    (limitChecks c n s).line.statusSlot = s.line.statusSlot ∧ txClass (limitChecks c n s) = txClass s ∧
    (limitChecks c n s).line.faultCount = s.line.faultCount ∧ (limitChecks c n s).line.lineFault = s.line.lineFault ∧
    (limitChecks c n s).line.ownCompleted = s.line.ownCompleted ∧ (limitChecks c n s).cmd.queue = s.cmd.queue ∧
    (limitChecks c n s).cmd.timeTag = s.cmd.timeTag ∧ (limitChecks c n s).recs.gap = s.recs.gap ∧
    (limitChecks c n s).recs.serial = s.recs.serial ∧ (limitChecks c n s).recs.pressure = s.recs.pressure ∧
    (limitChecks c n s).recs.freePages = s.recs.freePages ∧ (limitChecks c n s).seq.table = s.seq.table ∧
    (limitChecks c n s).seq.digest = s.seq.digest ∧ (limitChecks c n s).scan.timer = s.scan.timer ∧
    (limitChecks c n s).scan.runLength = s.scan.runLength ∧ (limitChecks c n s).scan.runTaken = s.scan.runTaken ∧
    (limitChecks c n s).scan.zero = s.scan.zero ∧ (limitChecks c n s).scan.holder = s.scan.holder ∧
    (limitChecks c n s).servo.timer = s.servo.timer ∧ (limitChecks c n s).servo.lam = s.servo.lam ∧
    (limitChecks c n s).servo.acc = s.servo.acc ∧ (limitChecks c n s).servo.integral = s.servo.integral ∧
    (limitChecks c n s).servo.drive = s.servo.drive ∧ (limitChecks c n s).servo.fSet = s.servo.fSet ∧
    (limitChecks c n s).servo.fMeas = s.servo.fMeas ∧ (limitChecks c n s).servo.error = s.servo.error ∧
    (limitChecks c n s).servo.lagging = s.servo.lagging ∧ (limitChecks c n s).servo.tripCount = s.servo.tripCount ∧
    (limitChecks c n s).servo.overLimit = s.servo.overLimit ∧
    (limitChecks c n s).servo.reacquire = s.servo.reacquire ∧ (limitChecks c n s).servo.loadZero = s.servo.loadZero ∧
    (limitChecks c n s).act.chargeList = s.act.chargeList ∧ (limitChecks c n s).act.lockRef = s.act.lockRef ∧
    (limitChecks c n s).act.lockRefDue = s.act.lockRefDue ∧ (limitChecks c n s).pins.pressOk = s.pins.pressOk ∧
    (limitChecks c n s).pins.lockEngaged = s.pins.lockEngaged ∧ (limitChecks c n s).pins.estop = s.pins.estop ∧
    (limitChecks c n s).pins.loadCode = s.pins.loadCode ∧ (limitChecks c n s).pins.bridgeCodes = s.pins.bridgeCodes ∧
    (limitChecks c n s).pins.loopReadings = s.pins.loopReadings := by
  induction n generalizing c s with
  | zero => simp [limitChecks]
  | succ n ih => simp [limitChecks, ih]

@[simp] theorem judgeChannels_frame (c n : Nat) (s : State) :
    (judgeChannels c n s).pending = s.pending ∧ (judgeChannels c n s).age = s.age ∧
    (judgeChannels c n s).loader = s.loader ∧ (judgeChannels c n s).cfg = s.cfg ∧
    (judgeChannels c n s).peers = s.peers ∧ (judgeChannels c n s).crack = s.crack ∧
    (judgeChannels c n s).line.bitRate = s.line.bitRate ∧
    (judgeChannels c n s).line.statusPeriod = s.line.statusPeriod ∧
    (judgeChannels c n s).line.loadGroup = s.line.loadGroup ∧
    (judgeChannels c n s).line.statusTimer = s.line.statusTimer ∧
    (judgeChannels c n s).line.chargeSlot = s.line.chargeSlot ∧
    (judgeChannels c n s).line.statusSlot = s.line.statusSlot ∧ txClass (judgeChannels c n s) = txClass s ∧
    (judgeChannels c n s).line.faultCount = s.line.faultCount ∧
    (judgeChannels c n s).line.lineFault = s.line.lineFault ∧
    (judgeChannels c n s).line.ownCompleted = s.line.ownCompleted ∧ (judgeChannels c n s).cmd.queue = s.cmd.queue ∧
    (judgeChannels c n s).cmd.timeTag = s.cmd.timeTag ∧ (judgeChannels c n s).recs.gap = s.recs.gap ∧
    (judgeChannels c n s).recs.serial = s.recs.serial ∧ (judgeChannels c n s).recs.pressure = s.recs.pressure ∧
    (judgeChannels c n s).recs.freePages = s.recs.freePages ∧ (judgeChannels c n s).seq.table = s.seq.table ∧
    (judgeChannels c n s).seq.digest = s.seq.digest ∧ (judgeChannels c n s).scan.timer = s.scan.timer ∧
    (judgeChannels c n s).scan.runLength = s.scan.runLength ∧ (judgeChannels c n s).scan.runTaken = s.scan.runTaken ∧
    (judgeChannels c n s).scan.zero = s.scan.zero ∧ (judgeChannels c n s).scan.holder = s.scan.holder ∧
    (judgeChannels c n s).servo.timer = s.servo.timer ∧ (judgeChannels c n s).servo.lam = s.servo.lam ∧
    (judgeChannels c n s).servo.acc = s.servo.acc ∧ (judgeChannels c n s).servo.integral = s.servo.integral ∧
    (judgeChannels c n s).servo.drive = s.servo.drive ∧ (judgeChannels c n s).servo.fSet = s.servo.fSet ∧
    (judgeChannels c n s).servo.fMeas = s.servo.fMeas ∧ (judgeChannels c n s).servo.error = s.servo.error ∧
    (judgeChannels c n s).servo.lagging = s.servo.lagging ∧
    (judgeChannels c n s).servo.tripCount = s.servo.tripCount ∧
    (judgeChannels c n s).servo.overLimit = s.servo.overLimit ∧
    (judgeChannels c n s).servo.reacquire = s.servo.reacquire ∧
    (judgeChannels c n s).servo.loadZero = s.servo.loadZero ∧
    (judgeChannels c n s).act.chargeList = s.act.chargeList ∧ (judgeChannels c n s).act.lockRef = s.act.lockRef ∧
    (judgeChannels c n s).act.lockRefDue = s.act.lockRefDue ∧ (judgeChannels c n s).pins.pressOk = s.pins.pressOk ∧
    (judgeChannels c n s).pins.lockEngaged = s.pins.lockEngaged ∧ (judgeChannels c n s).pins.estop = s.pins.estop ∧
    (judgeChannels c n s).pins.loadCode = s.pins.loadCode ∧
    (judgeChannels c n s).pins.bridgeCodes = s.pins.bridgeCodes ∧
    (judgeChannels c n s).pins.loopReadings = s.pins.loopReadings := by
  induction n generalizing c s with
  | zero => simp [judgeChannels]
  | succ n ih => simp [judgeChannels, ih]

/-! ### Peer table and alarm unit -/

@[simp] theorem updatePeer_frame (f : PeerRecord → PeerRecord) (n : Nat) (s : State) :
    (updatePeer f n s).pending = s.pending ∧ (updatePeer f n s).age = s.age ∧ (updatePeer f n s).loader = s.loader ∧
    (updatePeer f n s).cfg = s.cfg ∧ (updatePeer f n s).pins = s.pins ∧ (updatePeer f n s).line = s.line ∧
    (updatePeer f n s).seq = s.seq ∧ (updatePeer f n s).servo = s.servo ∧ (updatePeer f n s).act = s.act ∧
    (updatePeer f n s).scan = s.scan ∧ (updatePeer f n s).crack = s.crack ∧ (updatePeer f n s).alarm = s.alarm ∧
    (updatePeer f n s).recs = s.recs ∧ (updatePeer f n s).cmd = s.cmd ∧
    (updatePeer f n s).peers.memberAbsent = s.peers.memberAbsent ∧
    (updatePeer f n s).peers.digestMismatch = s.peers.digestMismatch := by
  unfold updatePeer; split <;> simp

@[simp] theorem actionEdge_frame (n : Nat) (reported : Latch) (s : State) :
    (actionEdge n reported s).pending = s.pending ∧ (actionEdge n reported s).age = s.age ∧
    (actionEdge n reported s).loader = s.loader ∧ (actionEdge n reported s).cfg = s.cfg ∧
    (actionEdge n reported s).crack = s.crack ∧ (actionEdge n reported s).line.bitRate = s.line.bitRate ∧
    (actionEdge n reported s).line.statusPeriod = s.line.statusPeriod ∧
    (actionEdge n reported s).line.loadGroup = s.line.loadGroup ∧
    (actionEdge n reported s).line.statusTimer = s.line.statusTimer ∧
    (actionEdge n reported s).line.chargeSlot = s.line.chargeSlot ∧
    (actionEdge n reported s).line.statusSlot = s.line.statusSlot ∧ txClass (actionEdge n reported s) = txClass s ∧
    (actionEdge n reported s).line.faultCount = s.line.faultCount ∧
    (actionEdge n reported s).line.lineFault = s.line.lineFault ∧
    (actionEdge n reported s).line.ownCompleted = s.line.ownCompleted ∧
    (actionEdge n reported s).cmd.queue = s.cmd.queue ∧ (actionEdge n reported s).cmd.timeTag = s.cmd.timeTag ∧
    (actionEdge n reported s).recs.gap = s.recs.gap ∧ (actionEdge n reported s).recs.serial = s.recs.serial ∧
    (actionEdge n reported s).recs.pressure = s.recs.pressure ∧
    (actionEdge n reported s).recs.freePages = s.recs.freePages ∧ (actionEdge n reported s).seq.table = s.seq.table ∧
    (actionEdge n reported s).seq.digest = s.seq.digest ∧ (actionEdge n reported s).scan.timer = s.scan.timer ∧
    (actionEdge n reported s).scan.runLength = s.scan.runLength ∧
    (actionEdge n reported s).scan.runTaken = s.scan.runTaken ∧ (actionEdge n reported s).scan.zero = s.scan.zero ∧
    (actionEdge n reported s).scan.holder = s.scan.holder ∧ (actionEdge n reported s).servo.timer = s.servo.timer ∧
    (actionEdge n reported s).servo.lam = s.servo.lam ∧ (actionEdge n reported s).servo.acc = s.servo.acc ∧
    (actionEdge n reported s).servo.integral = s.servo.integral ∧
    (actionEdge n reported s).servo.drive = s.servo.drive ∧ (actionEdge n reported s).servo.fSet = s.servo.fSet ∧
    (actionEdge n reported s).servo.fMeas = s.servo.fMeas ∧ (actionEdge n reported s).servo.error = s.servo.error ∧
    (actionEdge n reported s).servo.lagging = s.servo.lagging ∧
    (actionEdge n reported s).servo.tripCount = s.servo.tripCount ∧
    (actionEdge n reported s).servo.overLimit = s.servo.overLimit ∧
    (actionEdge n reported s).servo.reacquire = s.servo.reacquire ∧
    (actionEdge n reported s).servo.loadZero = s.servo.loadZero ∧
    (actionEdge n reported s).act.chargeList = s.act.chargeList ∧
    (actionEdge n reported s).act.lockRef = s.act.lockRef ∧
    (actionEdge n reported s).act.lockRefDue = s.act.lockRefDue ∧
    (actionEdge n reported s).pins.pressOk = s.pins.pressOk ∧
    (actionEdge n reported s).pins.lockEngaged = s.pins.lockEngaged ∧
    (actionEdge n reported s).pins.estop = s.pins.estop ∧ (actionEdge n reported s).pins.loadCode = s.pins.loadCode ∧
    (actionEdge n reported s).pins.bridgeCodes = s.pins.bridgeCodes ∧
    (actionEdge n reported s).pins.loopReadings = s.pins.loopReadings ∧
    (actionEdge n reported s).alarm.causes = s.alarm.causes := by
  unfold actionEdge; simp only []; split <;> simp

@[simp] theorem clearLost_frame (n : Nat) (s : State) :
    (clearLost n s).pending = s.pending ∧ (clearLost n s).age = s.age ∧ (clearLost n s).loader = s.loader ∧
    (clearLost n s).cfg = s.cfg ∧ (clearLost n s).pins = s.pins ∧ (clearLost n s).line = s.line ∧
    (clearLost n s).seq = s.seq ∧ (clearLost n s).servo = s.servo ∧ (clearLost n s).act = s.act ∧
    (clearLost n s).scan = s.scan ∧ (clearLost n s).crack = s.crack ∧ (clearLost n s).recs = s.recs ∧
    (clearLost n s).cmd = s.cmd ∧ (clearLost n s).alarm.latch = s.alarm.latch ∧
    (clearLost n s).alarm.records = s.alarm.records ∧ (clearLost n s).alarm.overfull = s.alarm.overfull := by
  unfold clearLost; split <;> simp

@[simp] theorem memberNews_frame (n : Nat) (s : State) :
    (memberNews n s).pending = s.pending ∧ (memberNews n s).age = s.age ∧ (memberNews n s).loader = s.loader ∧
    (memberNews n s).cfg = s.cfg ∧ (memberNews n s).pins = s.pins ∧ (memberNews n s).servo = s.servo ∧
    (memberNews n s).act = s.act ∧ (memberNews n s).scan = s.scan ∧ (memberNews n s).crack = s.crack ∧
    (memberNews n s).alarm = s.alarm ∧ (memberNews n s).cmd = s.cmd ∧
    (memberNews n s).line.bitRate = s.line.bitRate ∧ (memberNews n s).line.statusPeriod = s.line.statusPeriod ∧
    (memberNews n s).line.loadGroup = s.line.loadGroup ∧ (memberNews n s).line.statusTimer = s.line.statusTimer ∧
    (memberNews n s).line.chargeSlot = s.line.chargeSlot ∧ (memberNews n s).line.statusSlot = s.line.statusSlot ∧
    txClass (memberNews n s) = txClass s ∧ (memberNews n s).line.faultCount = s.line.faultCount ∧
    (memberNews n s).line.lineFault = s.line.lineFault ∧ (memberNews n s).line.ownCompleted = s.line.ownCompleted ∧
    (memberNews n s).line.alarmQ = s.line.alarmQ ∧ (memberNews n s).line.shuntSlot = s.line.shuntSlot ∧
    (memberNews n s).line.shuntDoneBehind = s.line.shuntDoneBehind ∧ (memberNews n s).recs.capture = s.recs.capture ∧
    (memberNews n s).recs.scansLeft = s.recs.scansLeft ∧ (memberNews n s).recs.captureKind = s.recs.captureKind ∧
    (memberNews n s).recs.gap = s.recs.gap ∧ (memberNews n s).recs.serial = s.recs.serial ∧
    (memberNews n s).recs.pressure = s.recs.pressure ∧ (memberNews n s).recs.freePages = s.recs.freePages ∧
    (memberNews n s).seq.table = s.seq.table ∧ (memberNews n s).seq.digest = s.seq.digest ∧
    (memberNews n s).seq.counters = s.seq.counters ∧ (memberNews n s).peers.records = s.peers.records := by
  unfold memberNews; split <;> simp

@[simp] theorem decideLost_frame (n : Nat) (s : State) :
    (decideLost n s).pending = s.pending ∧ (decideLost n s).age = s.age ∧ (decideLost n s).loader = s.loader ∧
    (decideLost n s).cfg = s.cfg ∧ (decideLost n s).crack = s.crack ∧
    (decideLost n s).line.bitRate = s.line.bitRate ∧ (decideLost n s).line.statusPeriod = s.line.statusPeriod ∧
    (decideLost n s).line.loadGroup = s.line.loadGroup ∧ (decideLost n s).line.statusTimer = s.line.statusTimer ∧
    (decideLost n s).line.chargeSlot = s.line.chargeSlot ∧ (decideLost n s).line.statusSlot = s.line.statusSlot ∧
    txClass (decideLost n s) = txClass s ∧ (decideLost n s).line.faultCount = s.line.faultCount ∧
    (decideLost n s).line.lineFault = s.line.lineFault ∧ (decideLost n s).line.ownCompleted = s.line.ownCompleted ∧
    (decideLost n s).cmd.queue = s.cmd.queue ∧ (decideLost n s).cmd.timeTag = s.cmd.timeTag ∧
    (decideLost n s).recs.gap = s.recs.gap ∧ (decideLost n s).recs.serial = s.recs.serial ∧
    (decideLost n s).recs.pressure = s.recs.pressure ∧ (decideLost n s).recs.freePages = s.recs.freePages ∧
    (decideLost n s).seq.table = s.seq.table ∧ (decideLost n s).seq.digest = s.seq.digest ∧
    (decideLost n s).scan.timer = s.scan.timer ∧ (decideLost n s).scan.runLength = s.scan.runLength ∧
    (decideLost n s).scan.runTaken = s.scan.runTaken ∧ (decideLost n s).scan.zero = s.scan.zero ∧
    (decideLost n s).scan.holder = s.scan.holder ∧ (decideLost n s).servo.timer = s.servo.timer ∧
    (decideLost n s).servo.lam = s.servo.lam ∧ (decideLost n s).servo.acc = s.servo.acc ∧
    (decideLost n s).servo.integral = s.servo.integral ∧ (decideLost n s).servo.drive = s.servo.drive ∧
    (decideLost n s).servo.fSet = s.servo.fSet ∧ (decideLost n s).servo.fMeas = s.servo.fMeas ∧
    (decideLost n s).servo.error = s.servo.error ∧ (decideLost n s).servo.lagging = s.servo.lagging ∧
    (decideLost n s).servo.tripCount = s.servo.tripCount ∧ (decideLost n s).servo.overLimit = s.servo.overLimit ∧
    (decideLost n s).servo.reacquire = s.servo.reacquire ∧ (decideLost n s).servo.loadZero = s.servo.loadZero ∧
    (decideLost n s).act.chargeList = s.act.chargeList ∧ (decideLost n s).act.lockRef = s.act.lockRef ∧
    (decideLost n s).act.lockRefDue = s.act.lockRefDue ∧ (decideLost n s).pins.pressOk = s.pins.pressOk ∧
    (decideLost n s).pins.lockEngaged = s.pins.lockEngaged ∧ (decideLost n s).pins.estop = s.pins.estop ∧
    (decideLost n s).pins.loadCode = s.pins.loadCode ∧ (decideLost n s).pins.bridgeCodes = s.pins.bridgeCodes ∧
    (decideLost n s).pins.loopReadings = s.pins.loopReadings := by
  unfold decideLost; split <;> simp

@[simp] theorem acknowledge_frame (test : AlarmRecord → Bool) (s : State) :
    (acknowledge test s).pending = s.pending ∧ (acknowledge test s).age = s.age ∧
    (acknowledge test s).loader = s.loader ∧ (acknowledge test s).cfg = s.cfg ∧ (acknowledge test s).pins = s.pins ∧
    (acknowledge test s).line = s.line ∧ (acknowledge test s).peers = s.peers ∧ (acknowledge test s).seq = s.seq ∧
    (acknowledge test s).servo = s.servo ∧ (acknowledge test s).act = s.act ∧ (acknowledge test s).scan = s.scan ∧
    (acknowledge test s).crack = s.crack ∧ (acknowledge test s).recs = s.recs ∧ (acknowledge test s).cmd = s.cmd ∧
    (acknowledge test s).alarm.latch = s.alarm.latch ∧ (acknowledge test s).alarm.overfull = s.alarm.overfull ∧
    (acknowledge test s).alarm.causes = s.alarm.causes := by
  simp [acknowledge]

/-! ### The command queue -/

@[simp] theorem judgeQueued_frame (kind : QueuedKind) (s : State) :
    (judgeQueued kind s).pending = s.pending ∧ (judgeQueued kind s).age = s.age ∧
    (judgeQueued kind s).loader = s.loader ∧ (judgeQueued kind s).cfg = s.cfg ∧
    (judgeQueued kind s).peers = s.peers ∧ (judgeQueued kind s).servo = s.servo ∧
    (judgeQueued kind s).crack = s.crack ∧ (judgeQueued kind s).alarm = s.alarm ∧
    (judgeQueued kind s).line.bitRate = s.line.bitRate ∧
    (judgeQueued kind s).line.statusPeriod = s.line.statusPeriod ∧
    (judgeQueued kind s).line.loadGroup = s.line.loadGroup ∧
    (judgeQueued kind s).line.statusTimer = s.line.statusTimer ∧
    (judgeQueued kind s).line.statusSlot = s.line.statusSlot ∧ txClass (judgeQueued kind s) = txClass s ∧
    (judgeQueued kind s).line.faultCount = s.line.faultCount ∧
    (judgeQueued kind s).line.lineFault = s.line.lineFault ∧
    (judgeQueued kind s).line.ownCompleted = s.line.ownCompleted ∧ (judgeQueued kind s).line.alarmQ = s.line.alarmQ ∧
    (judgeQueued kind s).line.shuntDoneBehind = s.line.shuntDoneBehind ∧
    (judgeQueued kind s).recs.capture = s.recs.capture ∧ (judgeQueued kind s).recs.scansLeft = s.recs.scansLeft ∧
    (judgeQueued kind s).recs.captureKind = s.recs.captureKind ∧ (judgeQueued kind s).recs.gap = s.recs.gap ∧
    (judgeQueued kind s).recs.serial = s.recs.serial ∧ (judgeQueued kind s).recs.pressure = s.recs.pressure ∧
    (judgeQueued kind s).recs.freePages = s.recs.freePages ∧ (judgeQueued kind s).seq.table = s.seq.table ∧
    (judgeQueued kind s).seq.digest = s.seq.digest ∧ (judgeQueued kind s).pins.pressOk = s.pins.pressOk ∧
    (judgeQueued kind s).pins.lockEngaged = s.pins.lockEngaged ∧ (judgeQueued kind s).pins.estop = s.pins.estop ∧
    (judgeQueued kind s).pins.loadCode = s.pins.loadCode ∧
    (judgeQueued kind s).pins.bridgeCodes = s.pins.bridgeCodes ∧
    (judgeQueued kind s).pins.loopReadings = s.pins.loopReadings ∧ (judgeQueued kind s).cmd.queue = s.cmd.queue ∧
    (judgeQueued kind s).cmd.timeTag = s.cmd.timeTag ∧ (judgeQueued kind s).pins.shunts = s.pins.shunts := by
  unfold judgeQueued; split <;> simp

@[simp] theorem startWaiting_frame (n : Nat) (s : State) :
    (startWaiting n s).pending = s.pending ∧ (startWaiting n s).age = s.age ∧ (startWaiting n s).loader = s.loader ∧
    (startWaiting n s).cfg = s.cfg ∧ (startWaiting n s).peers = s.peers ∧ (startWaiting n s).servo = s.servo ∧
    (startWaiting n s).crack = s.crack ∧ (startWaiting n s).alarm = s.alarm ∧
    (startWaiting n s).line.bitRate = s.line.bitRate ∧ (startWaiting n s).line.statusPeriod = s.line.statusPeriod ∧
    (startWaiting n s).line.loadGroup = s.line.loadGroup ∧ (startWaiting n s).line.statusTimer = s.line.statusTimer ∧
    (startWaiting n s).line.statusSlot = s.line.statusSlot ∧ txClass (startWaiting n s) = txClass s ∧
    (startWaiting n s).line.faultCount = s.line.faultCount ∧ (startWaiting n s).line.lineFault = s.line.lineFault ∧
    (startWaiting n s).line.ownCompleted = s.line.ownCompleted ∧ (startWaiting n s).line.alarmQ = s.line.alarmQ ∧
    (startWaiting n s).line.shuntDoneBehind = s.line.shuntDoneBehind ∧
    (startWaiting n s).recs.capture = s.recs.capture ∧ (startWaiting n s).recs.scansLeft = s.recs.scansLeft ∧
    (startWaiting n s).recs.captureKind = s.recs.captureKind ∧ (startWaiting n s).recs.gap = s.recs.gap ∧
    (startWaiting n s).recs.serial = s.recs.serial ∧ (startWaiting n s).recs.pressure = s.recs.pressure ∧
    (startWaiting n s).recs.freePages = s.recs.freePages ∧ (startWaiting n s).seq.table = s.seq.table ∧
    (startWaiting n s).seq.digest = s.seq.digest ∧ (startWaiting n s).pins.pressOk = s.pins.pressOk ∧
    (startWaiting n s).pins.lockEngaged = s.pins.lockEngaged ∧ (startWaiting n s).pins.estop = s.pins.estop ∧
    (startWaiting n s).pins.loadCode = s.pins.loadCode ∧ (startWaiting n s).pins.bridgeCodes = s.pins.bridgeCodes ∧
    (startWaiting n s).pins.loopReadings = s.pins.loopReadings ∧ (startWaiting n s).cmd.timeTag = s.cmd.timeTag ∧
    (startWaiting n s).pins.shunts = s.pins.shunts := by
  induction n generalizing s with
  | zero => simp [startWaiting]
  | succ n ih =>
    unfold startWaiting
    split <;> simp [ih]

@[simp] theorem startCommands_frame (s : State) :
    (startCommands s).pending = s.pending ∧ (startCommands s).age = s.age ∧ (startCommands s).loader = s.loader ∧
    (startCommands s).cfg = s.cfg ∧ (startCommands s).peers = s.peers ∧ (startCommands s).servo = s.servo ∧
    (startCommands s).crack = s.crack ∧ (startCommands s).alarm = s.alarm ∧
    (startCommands s).line.bitRate = s.line.bitRate ∧ (startCommands s).line.statusPeriod = s.line.statusPeriod ∧
    (startCommands s).line.loadGroup = s.line.loadGroup ∧ (startCommands s).line.statusTimer = s.line.statusTimer ∧
    (startCommands s).line.statusSlot = s.line.statusSlot ∧ txClass (startCommands s) = txClass s ∧
    (startCommands s).line.faultCount = s.line.faultCount ∧ (startCommands s).line.lineFault = s.line.lineFault ∧
    (startCommands s).line.ownCompleted = s.line.ownCompleted ∧ (startCommands s).line.alarmQ = s.line.alarmQ ∧
    (startCommands s).line.shuntDoneBehind = s.line.shuntDoneBehind ∧
    (startCommands s).recs.capture = s.recs.capture ∧ (startCommands s).recs.scansLeft = s.recs.scansLeft ∧
    (startCommands s).recs.captureKind = s.recs.captureKind ∧ (startCommands s).recs.gap = s.recs.gap ∧
    (startCommands s).recs.serial = s.recs.serial ∧ (startCommands s).recs.pressure = s.recs.pressure ∧
    (startCommands s).recs.freePages = s.recs.freePages ∧ (startCommands s).seq.table = s.seq.table ∧
    (startCommands s).seq.digest = s.seq.digest ∧ (startCommands s).pins.pressOk = s.pins.pressOk ∧
    (startCommands s).pins.lockEngaged = s.pins.lockEngaged ∧ (startCommands s).pins.estop = s.pins.estop ∧
    (startCommands s).pins.loadCode = s.pins.loadCode ∧ (startCommands s).pins.bridgeCodes = s.pins.bridgeCodes ∧
    (startCommands s).pins.loopReadings = s.pins.loopReadings ∧ (startCommands s).cmd.timeTag = s.cmd.timeTag ∧
    (startCommands s).pins.shunts = s.pins.shunts := by
  unfold startCommands; split <;> simp

end Sys2Proof.Machine
end

