-- ==== Sys2Proof/Laws/PerInstr.lean ====
section
/-! SUPPORT. The family of LAWS.json made per command: no word of the opcode table spells the command (the table gives
its rows no bits; log entry 26). -/
namespace Sys2Proof.Laws.NoTableWord

open Sys2Proof

/-- No word of the opcode table spells the command. -/
def Statement (c : Instr) : Prop :=
  ∀ nbits w, decodeTableWord nbits w ≠ some c

theorem notSpelled (c : Instr) : Statement c :=
  fun _ _ h => by simp [decodeTableWord] at h

theorem powerUp (levels : StartLevels) : Statement (.powerUp levels) := notSpelled _
theorem resetPinAssert : Statement (.resetPinAssert) := notSpelled _
theorem resetPinRelease (levels : StartLevels) : Statement (.resetPinRelease levels) := notSpelled _
theorem readingEnd (straps : Nat) (image : List Byte) (loops : List LoopReading) : Statement (.readingEnd straps image loops) := notSpelled _
theorem arbitrationOpportunity : Statement (.arbitrationOpportunity) := notSpelled _
theorem arbitrationLoss : Statement (.arbitrationLoss) := notSpelled _
theorem telegramAbandon : Statement (.telegramAbandon) := notSpelled _
theorem receivedTelegramDiscard (heard : HeardTelegram) : Statement (.receivedTelegramDiscard heard) := notSpelled _
theorem statusTimerExpiry : Statement (.statusTimerExpiry) := notSpelled _
theorem statusOwnCompletion : Statement (.statusOwnCompletion) := notSpelled _
theorem alarmOwnCompletion : Statement (.alarmOwnCompletion) := notSpelled _
theorem replyOwnCompletion : Statement (.replyOwnCompletion) := notSpelled _
theorem dataOwnCompletion : Statement (.dataOwnCompletion) := notSpelled _
theorem statusReceived (sender : Nat) (report : StatusReport) : Statement (.statusReceived sender report) := notSpelled _
theorem peerRecordExpiry (station : Nat) : Statement (.peerRecordExpiry station) := notSpelled _
theorem alarmHeard (sender : Nat) (report : AlarmReport) : Statement (.alarmHeard sender report) := notSpelled _
theorem chargeHeard (sender : Nat) (purposeCode : Nat) : Statement (.chargeHeard sender purposeCode) := notSpelled _
theorem chargeOwnCompletion : Statement (.chargeOwnCompletion) := notSpelled _
theorem windowTimerExpiry : Statement (.windowTimerExpiry) := notSpelled _
theorem shuntClaimHeard (sender : Nat) (group : Nat) : Statement (.shuntClaimHeard sender group) := notSpelled _
theorem shuntDoneHeard (sender : Nat) (group : Nat) : Statement (.shuntDoneHeard sender group) := notSpelled _
theorem shuntClaimOwnCompletion : Statement (.shuntClaimOwnCompletion) := notSpelled _
theorem shuntDoneOwnCompletion : Statement (.shuntDoneOwnCompletion) := notSpelled _
theorem servoTick (code : Int) : Statement (.servoTick code) := notSpelled _
theorem tripCountReached : Statement (.tripCountReached) := notSpelled _
theorem reacquireTimerExpiry : Statement (.reacquireTimerExpiry) := notSpelled _
theorem holdTimerExpiry : Statement (.holdTimerExpiry) := notSpelled _
theorem extensionTimerExpiry : Statement (.extensionTimerExpiry) := notSpelled _
theorem mismatchTimerExpiry : Statement (.mismatchTimerExpiry) := notSpelled _
theorem pressOkChange (level : Bool) : Statement (.pressOkChange level) := notSpelled _
theorem lockEngagedChange (level : Bool) : Statement (.lockEngagedChange level) := notSpelled _
theorem estopActive : Statement (.estopActive) := notSpelled _
theorem estopInactive : Statement (.estopInactive) := notSpelled _
theorem chargeTimerExpiry : Statement (.chargeTimerExpiry) := notSpelled _
theorem lockTimerExpiry : Statement (.lockTimerExpiry) := notSpelled _
theorem acquisitionTimerExpiry : Statement (.acquisitionTimerExpiry) := notSpelled _
theorem unlockDeadlineExpiry : Statement (.unlockDeadlineExpiry) := notSpelled _
theorem lockCheckTimerExpiry : Statement (.lockCheckTimerExpiry) := notSpelled _
theorem scan (codes : List Int) (loadCode : Int) : Statement (.scan codes loadCode) := notSpelled _
theorem averagingRunComplete : Statement (.averagingRunComplete) := notSpelled _
theorem exceedRunReachesM (channel : Nat) : Statement (.exceedRunReachesM channel) := notSpelled _
theorem settleWindowExpiry : Statement (.settleWindowExpiry) := notSpelled _
theorem zeroComplete : Statement (.zeroComplete) := notSpelled _
theorem shuntSpanEnd : Statement (.shuntSpanEnd) := notSpelled _
theorem shuntJudgement : Statement (.shuntJudgement) := notSpelled _
theorem loopScan (readings : List LoopReading) : Statement (.loopScan readings) := notSpelled _
theorem loopReadingTaken (loop : Nat) : Statement (.loopReadingTaken loop) := notSpelled _
theorem aeHit (input : Nat) : Statement (.aeHit input) := notSpelled _
theorem deadTimeExpiry (input : Nat) : Statement (.deadTimeExpiry input) := notSpelled _
theorem captureEnd : Statement (.captureEnd) := notSpelled _
theorem fetchRequestExpiry : Statement (.fetchRequestExpiry) := notSpelled _
theorem commandUnknownKind (head : CommandHead) (kindCode : Nat) : Statement (.commandUnknownKind head kindCode) := notSpelled _
theorem program (head : CommandHead) (request : SegmentRequest) : Statement (.program head request) := notSpelled _
theorem clearprog (head : CommandHead) : Statement (.clearprog head) := notSpelled _
theorem run (head : CommandHead) : Statement (.run head) := notSpelled _
theorem hold (head : CommandHead) : Statement (.hold head) := notSpelled _
theorem unload (head : CommandHead) : Statement (.unload head) := notSpelled _
theorem resume (head : CommandHead) : Statement (.resume head) := notSpelled _
theorem ack (head : CommandHead) (all source kindCode channel : Nat) : Statement (.ack head all source kindCode channel) := notSpelled _
theorem accept (head : CommandHead) (loop : Nat) : Statement (.accept head loop) := notSpelled _
theorem fetch (head : CommandHead) (which wait : Nat) : Statement (.fetch head which wait) := notSpelled _
theorem free (head : CommandHead) (block : Nat) : Statement (.free head block) := notSpelled _
theorem cut (head : CommandHead) : Statement (.cut head) := notSpelled _
theorem timeset (head : CommandHead) (tag : Tag) : Statement (.timeset head tag) := notSpelled _
theorem queryCrack (head : CommandHead) (loop : Nat) : Statement (.queryCrack head loop) := notSpelled _
theorem queryAlarms (head : CommandHead) (start : Nat) : Statement (.queryAlarms head start) := notSpelled _
theorem queryStrain (head : CommandHead) (half : Nat) : Statement (.queryStrain head half) := notSpelled _
theorem queryPeer (head : CommandHead) (station : Nat) : Statement (.queryPeer head station) := notSpelled _
theorem charge (head : CommandHead) : Statement (.charge head) := notSpelled _
theorem vent (head : CommandHead) : Statement (.vent head) := notSpelled _
theorem lock (head : CommandHead) : Statement (.lock head) := notSpelled _
theorem unlock (head : CommandHead) : Statement (.unlock head) := notSpelled _
theorem cleartrip (head : CommandHead) : Statement (.cleartrip head) := notSpelled _
theorem zero (head : CommandHead) : Statement (.zero head) := notSpelled _
theorem shunt (head : CommandHead) : Statement (.shunt head) := notSpelled _
theorem queryOtherSubject (head : CommandHead) (subject argument : Nat) : Statement (.queryOtherSubject head subject argument) := notSpelled _

end Sys2Proof.Laws.NoTableWord
end

