-- ==== Sys2Proof/Laws/Pool.lean ====
section
/-! SUPPORT. Laws of the record pool as a memory of bytes: a read after a write, and that every operation keeps the
canonical form. -/
namespace Sys2Proof.Machine

open Sys2Proof

/-- The canonical form of a list with a head, taken apart. -/
theorem memory_wf_cons (k : Nat) (b : Byte) (r : List Host.Cell) :
    Memory.wf ((k, b) :: r) = true ↔ k < 65536 ∧ b ≠ 0 ∧ (∀ c ∈ r, k < c.1) ∧ Memory.wf r = true := by
  simp [Memory.wf, and_assoc]

/-- An address below every listed one reads as unlisted. -/
theorem poolRead_of_lt {m : List Host.Cell} {a : Nat} (h : ∀ c ∈ m, a < c.1) : poolRead m a = 0 := by
  induction m with
  | nil => rfl
  | cons c r ih =>
    obtain ⟨k, b⟩ := c
    have hk : a < k := h (k, b) (by simp)
    simp only [poolRead, if_neg (Nat.ne_of_lt hk)]
    exact ih fun c hc => h c (by simp [hc])

/-- The addresses of a written memory are the written one and the ones listed before. -/
theorem mem_poolWrite {m : List Host.Cell} {a : Nat} {v : Byte} {c : Host.Cell} (h : c ∈ poolWrite m a v) :
    c.1 = a ∨ c ∈ m := by
  induction m with
  | nil =>
    simp only [poolWrite] at h
    split at h
    · simp at h
    · left; simp only [List.mem_singleton] at h; rw [h]
  | cons d r ih =>
    obtain ⟨k, b⟩ := d
    simp only [poolWrite] at h
    split at h
    · split at h
      · exact .inr h
      · rcases List.mem_cons.mp h with h | h
        · left; rw [h]
        · exact .inr h
    · split at h
      · split at h
        · exact .inr (by simp [h])
        · rcases List.mem_cons.mp h with h | h
          · left; rw [h]
          · exact .inr (by simp [h])
      · rcases List.mem_cons.mp h with h | h
        · exact .inr (by simp [h])
        · rcases ih h with h | h
          · exact .inl h
          · exact .inr (by simp [h])

/-- A write keeps the canonical form. -/
theorem poolWrite_wf {m : List Host.Cell} {a : Nat} {v : Byte} (ha : a < 65536) (h : Memory.wf m = true) :
    Memory.wf (poolWrite m a v) = true := by
  induction m with
  | nil =>
    simp only [poolWrite]
    split
    · exact h
    · rename_i hv; rw [memory_wf_cons]; exact ⟨ha, hv, by simp, rfl⟩
  | cons d r ih =>
    obtain ⟨k, b⟩ := d
    have h0 := h
    rw [memory_wf_cons] at h
    obtain ⟨hk, hb, hr, hw⟩ := h
    simp only [poolWrite]
    split
    · rename_i hak
      split
      · exact h0
      · rename_i hv
        rw [memory_wf_cons]
        refine ⟨ha, hv, fun c hc => ?_, h0⟩
        rcases List.mem_cons.mp hc with hc | hc
        · rw [hc]; exact hak
        · exact Nat.lt_trans hak (hr c hc)
    · rename_i hak
      split
      · rename_i heq
        split
        · exact hw
        · rename_i hv; rw [memory_wf_cons]; exact ⟨ha, hv, fun c hc => by rw [heq]; exact hr c hc, hw⟩
      · rename_i hne
        rw [memory_wf_cons]
        refine ⟨hk, hb, fun c hc => ?_, ih hw⟩
        rcases mem_poolWrite hc with hc | hc
        · rw [hc]; omega
        · exact hr c hc

/-- A read after a write: the value at the address written, what stood there at every other. -/
theorem poolRead_poolWrite {m : List Host.Cell} (a : Nat) (v : Byte) (x : Nat) (h : Memory.wf m = true) :
    poolRead (poolWrite m a v) x = if x = a then v else poolRead m x := by
  induction m with
  | nil =>
    simp only [poolWrite]
    split
    · rename_i hv; split <;> simp_all [poolRead]
    · simp [poolRead]
  | cons d r ih =>
    obtain ⟨k, b⟩ := d
    have h0 := h
    rw [memory_wf_cons] at h
    obtain ⟨hk, hb, hr, hw⟩ := h
    simp only [poolWrite]
    split
    · rename_i hak
      have hz : poolRead ((k, b) :: r) a = 0 := by
        refine poolRead_of_lt fun c hc => ?_
        rcases List.mem_cons.mp hc with hc | hc
        · rw [hc]; exact hak
        · exact Nat.lt_trans hak (hr c hc)
      split
      · rename_i hv
        split
        · rename_i hx; rw [hx, hz, hv]
        · rfl
      · simp [poolRead]
    · split
      · rename_i heq
        split
        · rename_i hv
          split
          · rename_i hx; subst hx; rw [hv]; exact poolRead_of_lt fun c hc => by rw [heq]; exact hr c hc
          · rename_i hx; simp only [poolRead]; rw [if_neg (by omega)]
        · simp only [poolRead, heq]; split <;> rfl
      · rename_i hne
        simp only [poolRead]
        rw [ih hw]
        split
        · rename_i hx; rw [if_neg (by omega)]
        · rfl

/-- Clearing a page keeps the canonical form. -/
theorem poolClearPage_wf {m : List Host.Cell} (page : Nat) (h : Memory.wf m = true) :
    Memory.wf (poolClearPage m page) = true := by
  induction m with
  | nil => exact h
  | cons d r ih =>
    obtain ⟨k, b⟩ := d
    rw [memory_wf_cons] at h
    obtain ⟨hk, hb, hr, hw⟩ := h
    simp only [poolClearPage, List.filter_cons]
    split
    · rw [memory_wf_cons]
      exact ⟨hk, hb, fun c hc => hr c (List.mem_of_mem_filter hc), ih hw⟩
    · exact ih hw

/-- A cleared page reads 0 at each of its bytes, and every other page as before. -/
theorem poolRead_poolClearPage (m : List Host.Cell) (page x : Nat) :
    poolRead (poolClearPage m page) x = if x / 256 = page then 0 else poolRead m x := by
  induction m with
  | nil => simp [poolClearPage, poolRead]
  | cons d r ih =>
    obtain ⟨k, b⟩ := d
    simp only [poolClearPage] at ih
    simp only [poolClearPage, List.filter_cons]
    by_cases hk : k / 256 = page
    · simp only [hk, bne_self_eq_false, Bool.false_eq_true, if_false, ih, poolRead]
      by_cases hx : x / 256 = page
      · simp [hx]
      · have : x ≠ k := fun h => hx (h ▸ hk)
        simp [hx, this]
    · have hk' : (k / 256 != page) = true := by simp [hk]
      simp only [hk', if_true, poolRead, ih]
      by_cases hx : x = k
      · subst hx; simp [hk]
      · simp [hx]

/-- A block write keeps the canonical form. -/
theorem blockWrite_wf (pages : List Nat) (offset : Nat) (bytes : List Byte) {m : List Host.Cell} (h : Memory.wf m = true) :
    Memory.wf (blockWrite pages offset bytes m) = true := by
  induction bytes generalizing offset m with
  | nil => exact h
  | cons v r ih =>
    simp only [blockWrite]
    apply ih
    split
    · split
      · exact poolWrite_wf ‹_› h
      · exact h
    · exact h

/-- Clearing several pages, as the opening of a block does, keeps the canonical form. -/
theorem foldl_poolClearPage_wf (pages : List Nat) {m : List Host.Cell} (h : Memory.wf m = true) :
    Memory.wf (pages.foldl poolClearPage m) = true := by
  induction pages generalizing m with
  | nil => exact h
  | cons p r ih => exact ih (poolClearPage_wf p h)

/-- The memory after reset is in canonical form. -/
theorem reset_pool_wf : Memory.wf State.reset.recs.pool = true := rfl

end Sys2Proof.Machine
end

