-- ==== Sys2Proof/Laws/Reset.lean ====
section
/-! SUPPORT. What reset leaves: the digest of the table of 32 EMPTY entries is the one State.reset holds (R34, R55). -/
namespace Sys2Proof.Machine

open Sys2Proof

/-- The check's register after `n` bytes of FFh. -/
def onesRegister : Nat → Nat → Nat
  | c, 0 => c
  | c, n + 1 => onesRegister (crcByte c 255) n

theorem foldl_crcByte_ones (c n : Nat) : (List.replicate n (255 : Byte)).foldl crcByte c = onesRegister c n := by
  induction n generalizing c with
  | zero => rfl
  | succ n ih => simpa [List.replicate_succ, onesRegister] using ih (crcByte c 255)

theorem onesRegister_add (c m n : Nat) : onesRegister c (m + n) = onesRegister (onesRegister c m) n := by
  induction m generalizing c with
  | zero => simp [onesRegister]
  | succ m ih => rw [Nat.succ_add, onesRegister, onesRegister, ih]

theorem onesRegister_part1 : onesRegister 65535 48 = 19265 := by decide +kernel
theorem onesRegister_part2 : onesRegister 19265 48 = 58 := by decide +kernel
theorem onesRegister_part3 : onesRegister 58 48 = 12315 := by decide +kernel
theorem onesRegister_part4 : onesRegister 12315 48 = 4803 := by decide +kernel
theorem onesRegister_part5 : onesRegister 4803 48 = 56118 := by decide +kernel
theorem onesRegister_part6 : onesRegister 56118 48 = 3838 := by decide +kernel
theorem onesRegister_part7 : onesRegister 3838 48 = 52683 := by decide +kernel
theorem onesRegister_part8 : onesRegister 52683 48 = 31199 := by decide +kernel

/-- 384 bytes of FFh (R34). -/
theorem onesRegister_384 : onesRegister 65535 384 = 31199 := by
  rw [show (384 : Nat) = 48 + (48 + (48 + (48 + (48 + (48 + (48 + 48)))))) from rfl]
  simp only [onesRegister_add, onesRegister_part1, onesRegister_part2, onesRegister_part3, onesRegister_part4,
    onesRegister_part5, onesRegister_part6, onesRegister_part7, onesRegister_part8]

/-- The digest bytes of n EMPTY entries. -/
theorem entryBytes_empty (n : Nat) : (List.replicate n (none : Option Segment)).flatMap entryBytes = List.replicate (12 * n) 255 := by
  induction n with
  | zero => rfl
  | succ n ih =>
    rw [List.replicate_succ, List.flatMap_cons, ih, Nat.mul_succ, Nat.add_comm (12 * n) 12, ← List.replicate_append_replicate]
    rfl

/-- The check over the bytes of an empty table (R34). -/
theorem crc16_empty_table : crc16 (List.replicate 384 255) = Sequencer.emptyDigest := by
  rw [crc16, foldl_crcByte_ones, show (0xFFFF : Nat) = 65535 from rfl, onesRegister_384]; rfl

/-- The digest after reset is that of the empty table (R34, R55). -/
theorem digestOf_empty_table : digestOf (List.replicate 32 none) = State.reset.seq.digest := by
  rw [digestOf, entryBytes_empty]; exact crc16_empty_table

end Sys2Proof.Machine
end

