-- ==== Sys2Proof/Laws/State.lean ====
section
/-! SUPPORT. One lemma per field that a named update of State writes, true by `rfl`; what an update leaves alone stands in
Frames. -/
namespace Sys2Proof.Machine

open Sys2Proof

/-! ### A start (R170) -/

@[simp] theorem start_pending (cause : StartCause) (levels : StartLevels) (pending : List Instr) :
    (State.start cause levels pending).pending = pending := rfl
@[simp] theorem start_age (cause : StartCause) (levels : StartLevels) (pending : List Instr) :
    (State.start cause levels pending).age = 0 := rfl
@[simp] theorem start_loader (cause : StartCause) (levels : StartLevels) (pending : List Instr) :
    (State.start cause levels pending).loader = { phase := .reading, cause := cause, straps := 0, image := [] } := rfl
@[simp] theorem start_cfg (cause : StartCause) (levels : StartLevels) (pending : List Instr) :
    (State.start cause levels pending).cfg = Settings.unset := rfl
@[simp] theorem start_pins (cause : StartCause) (levels : StartLevels) (pending : List Instr) :
    (State.start cause levels pending).pins = Pins.reset levels := rfl
@[simp] theorem start_line (cause : StartCause) (levels : StartLevels) (pending : List Instr) :
    (State.start cause levels pending).line = LineUnit.reset := rfl
@[simp] theorem start_peers (cause : StartCause) (levels : StartLevels) (pending : List Instr) :
    (State.start cause levels pending).peers = PeerTable.reset := rfl
@[simp] theorem start_seq (cause : StartCause) (levels : StartLevels) (pending : List Instr) :
    (State.start cause levels pending).seq = Sequencer.reset := rfl
@[simp] theorem start_servo (cause : StartCause) (levels : StartLevels) (pending : List Instr) :
    (State.start cause levels pending).servo = Servo.reset := rfl
@[simp] theorem start_act (cause : StartCause) (levels : StartLevels) (pending : List Instr) :
    (State.start cause levels pending).act = Actuator.reset levels := rfl
@[simp] theorem start_scan (cause : StartCause) (levels : StartLevels) (pending : List Instr) :
    (State.start cause levels pending).scan = Scanner.reset := rfl
@[simp] theorem start_crack (cause : StartCause) (levels : StartLevels) (pending : List Instr) :
    (State.start cause levels pending).crack = CrackMonitor.reset := rfl
@[simp] theorem start_alarm (cause : StartCause) (levels : StartLevels) (pending : List Instr) :
    (State.start cause levels pending).alarm = AlarmUnit.reset := rfl
@[simp] theorem start_recs (cause : StartCause) (levels : StartLevels) (pending : List Instr) :
    (State.start cause levels pending).recs = RecordMemory.reset := rfl
@[simp] theorem start_cmd (cause : StartCause) (levels : StartLevels) (pending : List Instr) :
    (State.start cause levels pending).cmd = CommandUnit.reset := rfl

/-! ### Events, replies and causes -/

@[simp] theorem setEvent_events (e : Event) (s : State) :
    (setEvent e s).line.events = s.line.events ||| eventBit e := rfl
@[simp] theorem setEvent_afterTake (e : Event) (s : State) :
    (setEvent e s).line.afterTake = if statusTaken s then s.line.afterTake ||| eventBit e else s.line.afterTake := rfl
@[simp] theorem placeReply_replyQ (r : Reply) (s : State) :
    (placeReply r s).line.replyQ = s.line.replyQ ++ [r] := rfl
@[simp] theorem causeOff_causes (c : Cause) (s : State) :
    (causeOff c s).alarm.causes = s.alarm.causes.filter (fun d => decide (d ≠ c)) := rfl

/-! ### Peer table and record memory -/

@[simp] theorem updatePeerFlags_memberAbsent (s : State) :
    (updatePeerFlags s).peers.memberAbsent = someMemberAbsent s := rfl
@[simp] theorem updatePeerFlags_digestMismatch (s : State) :
    (updatePeerFlags s).peers.digestMismatch = !digestAnswer s := rfl
@[simp] theorem updateDigestFlag_digestMismatch (s : State) :
    (updateDigestFlag s).peers.digestMismatch = !digestAnswer s := rfl
@[simp] theorem judgePressure_pressure (s : State) :
    (judgePressure s).recs.pressure = if s.recs.freePages < 64 then true else if 96 ≤ s.recs.freePages then false else s.recs.pressure := rfl

/-! ### Scanner -/

@[simp] theorem startSettleWindow_settleTimer (s : State) :
    (startSettleWindow s).scan.settleTimer = some (s.age + ms (1000 * s.cfg.settleWindow)) := rfl
@[simp] theorem dwellEntered_settled (s : State) :
    (dwellEntered s).scan.settled = false := rfl
@[simp] theorem dwellEntered_settleTimer (s : State) :
    (dwellEntered s).scan.settleTimer = some (s.age + ms (1000 * s.cfg.settleWindow)) := rfl
@[simp] theorem dwellLeft_settled (s : State) :
    (dwellLeft s).scan.settled = false := rfl
@[simp] theorem dwellLeft_settleTimer (s : State) :
    (dwellLeft s).scan.settleTimer = none := rfl
@[simp] theorem leaveShunt_shunt (s : State) :
    (leaveShunt s).scan.shunt = .none := rfl
@[simp] theorem leaveShunt_shuntActive (s : State) :
    (leaveShunt s).scan.shuntActive = false := rfl
@[simp] theorem leaveShunt_shunts (s : State) :
    (leaveShunt s).pins.shunts = 0 := rfl

/-! ### Actuator unit (Table 5-4, R67) -/

@[simp] theorem setActuator_state (st : ActState) (iso dump lockCmd : Bool) (s : State) :
    (setActuator st iso dump lockCmd s).act.state = st := rfl
@[simp] theorem setActuator_iso (st : ActState) (iso dump lockCmd : Bool) (s : State) :
    (setActuator st iso dump lockCmd s).pins.iso = iso := rfl
@[simp] theorem setActuator_dump (st : ActState) (iso dump lockCmd : Bool) (s : State) :
    (setActuator st iso dump lockCmd s).pins.dump = dump := rfl
@[simp] theorem setActuator_lockCmd (st : ActState) (iso dump lockCmd : Bool) (s : State) :
    (setActuator st iso dump lockCmd s).pins.lockCmd = lockCmd := rfl
@[simp] theorem setActuator_drive_output (st : ActState) (iso dump lockCmd : Bool) (s : State) :
    (setActuator st iso dump lockCmd s).pins.drive = if passesDrive st then s.pins.drive else 0 := rfl
@[simp] theorem tripIdle_clearOrder (s : State) :
    (tripIdle s).servo.clearOrder = true := rfl

end Sys2Proof.Machine
end

