-- ==== Sys2Proof/WellFormed.lean ====
section
/-! DEFINITION. When a command is one the part can meet: stations, widths and lengths as the manual gives them. `exec`
is total: what it does with an ill-formed operand is log entry 31. -/
namespace Sys2Proof

/-- A number of at most `n` bytes. -/
def fitsBytes (n v : Nat) : Bool :=
  decide (v < 256 ^ n)

/-- A signed number of at most `n` bytes. -/
def fitsSigned (n : Nat) (v : Int) : Bool :=
  decide (-(128 * 256 ^ (n - 1) : Int) ≤ v ∧ v < 128 * 256 ^ (n - 1))

/-- A converter code: signed, 24 bits. -/
def codeWf (c : Int) : Bool :=
  fitsSigned 3 c

/-- A frame station number, 1 to 27 (section 4.4 of the introduction). -/
def frameStationWf (n : Nat) : Bool :=
  decide (1 ≤ n ∧ n ≤ 27)

/-- The head of a console command: a console as sender, a 5-bit destination, a length of at most 66 (R1, R5). -/
def CommandHead.wf (h : CommandHead) : Bool :=
  decide (28 ≤ h.sender ∧ h.sender ≤ 31) && decide (h.dest < 32) && decide (h.len ≤ 66)

/-- A STATUS report holds what its fields can carry (Table 1-4). -/
def StatusReport.wf (r : StatusReport) : Bool :=
  fitsBytes 4 r.step && fitsBytes 1 r.segment && fitsBytes 2 r.lam && fitsSigned 4 r.fMeas && decide (r.loadGroup < 8) &&
    fitsBytes 2 r.freePages && fitsBytes 1 r.startCause

/-- An ALARM report holds what its fields can carry (Table 1-3). -/
def AlarmReport.wf (r : AlarmReport) : Bool :=
  fitsBytes 1 r.kindCode && fitsBytes 1 r.channel && fitsBytes 1 r.actionCode && fitsBytes 2 r.lam && fitsBytes 4 r.step &&
    fitsSigned 4 r.fMeas

/-- A PROGRAM payload holds what its fields can carry (Table 1-6). -/
def SegmentRequest.wf (r : SegmentRequest) : Bool :=
  fitsBytes 1 r.index && fitsBytes 2 r.target && fitsBytes 2 r.rate && fitsBytes 2 r.hold && fitsBytes 1 r.settle &&
    fitsBytes 2 r.extension && fitsBytes 1 r.loopTo && fitsBytes 2 r.loopCount

/-- A command the part can meet. -/
def Instr.wf (c : Instr) : Bool :=
  match c with
  | .powerUp _ => true
  | .resetPinAssert => true
  | .resetPinRelease _ => true
  | .readingEnd straps image loops =>
    decide (straps < 32) && decide (image.length ≤ 411) && decide (loops.length = 8)
  | .arbitrationOpportunity => true
  | .arbitrationLoss => true
  | .telegramAbandon => true
  | .receivedTelegramDiscard _ => true
  | .statusTimerExpiry => true
  | .statusOwnCompletion => true
  | .alarmOwnCompletion => true
  | .replyOwnCompletion => true
  | .dataOwnCompletion => true
  | .statusReceived sender report => frameStationWf sender && report.wf
  | .peerRecordExpiry station => frameStationWf station
  | .alarmHeard sender report => frameStationWf sender && report.wf
  | .chargeHeard sender purposeCode => frameStationWf sender && fitsBytes 1 purposeCode
  | .chargeOwnCompletion => true
  | .windowTimerExpiry => true
  | .shuntClaimHeard sender group => frameStationWf sender && fitsBytes 1 group
  | .shuntDoneHeard sender group => frameStationWf sender && fitsBytes 1 group
  | .shuntClaimOwnCompletion => true
  | .shuntDoneOwnCompletion => true
  | .servoTick code => codeWf code
  | .tripCountReached => true
  | .reacquireTimerExpiry => true
  | .holdTimerExpiry => true
  | .extensionTimerExpiry => true
  | .mismatchTimerExpiry => true
  | .pressOkChange _ => true
  | .lockEngagedChange _ => true
  | .estopActive => true
  | .estopInactive => true
  | .chargeTimerExpiry => true
  | .lockTimerExpiry => true
  | .acquisitionTimerExpiry => true
  | .unlockDeadlineExpiry => true
  | .lockCheckTimerExpiry => true
  | .scan codes loadCode => decide (codes.length = 16) && codes.all codeWf && codeWf loadCode
  | .averagingRunComplete => true
  | .exceedRunReachesM channel => decide (channel < 16)
  | .settleWindowExpiry => true
  | .zeroComplete => true
  | .shuntSpanEnd => true
  | .shuntJudgement => true
  | .loopScan readings => decide (readings.length = 8)
  | .loopReadingTaken loop => decide (loop < 8)
  | .aeHit input => decide (input < 4)
  | .deadTimeExpiry input => decide (input < 4)
  | .captureEnd => true
  | .fetchRequestExpiry => true
  | .commandUnknownKind head kindCode =>
    head.wf && fitsBytes 1 kindCode && (Machine.commandLength kindCode).isNone
  | .program head request => head.wf && request.wf
  | .clearprog head => head.wf
  | .run head => head.wf
  | .hold head => head.wf
  | .unload head => head.wf
  | .resume head => head.wf
  | .ack head all source kindCode channel =>
    head.wf && fitsBytes 1 all && fitsBytes 1 source && fitsBytes 1 kindCode && fitsBytes 1 channel
  | .accept head loop => head.wf && fitsBytes 1 loop
  | .fetch head which wait => head.wf && fitsBytes 1 which && fitsBytes 2 wait
  | .free head block => head.wf && fitsBytes 1 block
  | .cut head => head.wf
  | .timeset head _ => head.wf
  | .queryCrack head loop => head.wf && fitsBytes 1 loop
  | .queryAlarms head start => head.wf && fitsBytes 1 start
  | .queryStrain head half => head.wf && fitsBytes 1 half
  | .queryPeer head station => head.wf && fitsBytes 1 station
  | .charge head => head.wf
  | .vent head => head.wf
  | .lock head => head.wf
  | .unlock head => head.wf
  | .cleartrip head => head.wf
  | .zero head => head.wf
  | .shunt head => head.wf
  | .queryOtherSubject head subject argument =>
    head.wf && fitsBytes 1 subject && fitsBytes 1 argument && !decide (1 ≤ subject ∧ subject ≤ 4)

end Sys2Proof
end

