-- ==== Sys2Proof/Tests/Slice0.lean ====
section
/-! SUPPORT. Tests: an ill-formed command for each check of WellFormed, the worked examples of the manual, telegrams
written out from the tables, and for every statement with hypotheses a state and operands that meet them all
(`witness_…`). Expected results come from the manual's tables and sections, named at each test. -/
namespace Sys2Proof.Machine

open Sys2Proof

/-! ### Small states -/

/-- Settings in the ranges of Tables 11-1 to 11-3: members 5, 6 and 7, excitation group 3. -/
def demoCfg : Settings :=
  { Settings.unset with
    peerTimeout := 4, memberSet := 0xE0#32, fDesign := 2500000, fLimit := 3000000, gain := 250, kp := 600, ki := 20
    bTrack := 6000, bTrip := 20000, tTrip := 3, lead := 30, unloadRate := 50, tChg := 2000, tLock := 1000, tAcq := 500
    wPump := 3000, lockInterval := 60, lockBand := 5000, driftAction := .hold, noSettleAction := .hold, scanPeriod := 5
    dBase := 4, blockPages := 2, captureLength := 10, excitation := 3, settleWindow := 10, driftLimit := 50
    channels := List.replicate 16
      { enable := true, settleChecked := true, action := .hold, exceedCount := 3, scale := 1048576, zero := 0
        high := 20000, low := -20000, shuntStep := 10000 }
    loops := List.replicate 8 { enable := true, action := .hold, debounce := 30 }
    aeInputs := List.replicate 4 { deadTime := 10, window := 100, nElev := 2, nBurst := 4, action := .hold } }

/-- Station 5 running, VENTED and IDLE, at age 5 s; every periodic timer due now. -/
def run0 : State :=
  { State.reset with
    age := 50000, loader.phase := .running, loader.straps := 5, cfg := demoCfg, cmd.timeTag := 5000
    line.statusPeriod := 50, line.loadGroup := 2, line.statusTimer := some 50000, servo.timer := some 50000
    scan.timer := some 50000, scan.runLength := 4, crack.timer := some 50000
    scan.channels := List.replicate 16 { Channel.reset with state := .ok }
    crack.loops := List.replicate 8 { state := .intact, taken := some .intact, candidate := none } }

/-- The station LIVE. -/
def live0 : State :=
  { run0 with act.state := .live, pins.iso := true, pins.dump := false }

/-- The working copy of a segment to λ 3000 at 50 lc/s with settle required. -/
def demoWork : WorkingCopy :=
  { target := 3000, rate := 50, hold := 10, settle := true, extension := 20 }

/-- The station in RUN with phase RAMP. -/
def ramp0 : State :=
  { live0 with seq.state := .run, seq.phase := some .ramp, seq.step := 1, seq.work := some demoWork, servo.lam := 1200 }

/-- The station in RUN with phase DWELL, its hold timer due. -/
def dwell0 : State :=
  { ramp0 with seq.phase := some .dwell, seq.hold := .running 50000, servo.lam := 3000 }

/-- A filled segment. -/
def demoSegment : Segment :=
  { target := 3000, rate := 50, hold := 10, settle := true, extension := 20, loopTo := none, loopCount := 0 }

/-- The station with a program of one segment. -/
def programmed (s : State) : State :=
  { s with seq.table := some demoSegment :: List.replicate 31 none }

/-- A command from console 28 to station 5 with a payload of `len` bytes. -/
def demoHead (len : Nat) : CommandHead :=
  { sender := 28, dest := 5, len := len }

/-- The station with a telegram of the class in transmission. -/
def offeringNow (c : TxClass) (s : State) : State :=
  { s with line.tx := some { cls := c, bytes := [], won := true } }

/-- The station WAIT_WINDOW with its CHARGE telegram on offer, for the command CHARGE of console 28. -/
def waiting0 : State :=
  offeringNow .charge
    { run0 with
      act.state := .waitWindow, act.purpose := some .charge, act.ownPlaced := some true, line.chargeSlot := some .charge
      cmd.current := some { kind := .charge, console := 28 }
      act.chargeList := [{ station := 6, age := 0 }, { station := 7, age := 49000 }] }

/-- Four telegrams in window. -/
def fullList : List ChargeEntry :=
  [{ station := 6, age := 49000 }, { station := 7, age := 49001 }, { station := 8, age := 49002 },
    { station := 9, age := 49003 }]

/-- A STATUS as Table 1-4 lays it out, of a station that ramps. -/
def demoReport : StatusReport :=
  { seqState := .run, phase := some .ramp, step := 3, segment := 1, lam := 1190, fMeas := -2, actuator := .live
    latch := .hold, flags := 0, loadGroup := 2, digest := 0, events := 0, freePages := 256, startCause := 0 }

/-- An ALARM of the kind and action codes. -/
def demoAlarm (kind action : Nat) : AlarmReport :=
  { kindCode := kind, channel := 4, actionCode := action, lam := 0, step := 0, fMeas := 0, timeTag := 77 }

/-- Block `n` in the state given, with pages 2n and 2n + 1. -/
def withBlock (n : Nat) (st : BlockState) (s : State) : State :=
  { s with
    recs.table := setAt n { state := st, pages := [2 * n, 2 * n + 1], samples := 3, firstAge := 49000, lastOffset := 400 }
      s.recs.table
    recs.freePages := s.recs.freePages - 2
    recs.sealedQ := if st = .sealed then s.recs.sealedQ ++ [n] else s.recs.sealedQ
    recs.sending := if st = .sending then some { block := n, console := 29, next := 8 } else s.recs.sending }

/-- The scanner's shunt in a state after so many scans, for the command SHUNT of console 28. -/
def shunting (st : ShuntState) (scans : Nat) : State :=
  { run0 with
    scan.shunt := st, scan.shuntScans := scans, scan.shuntActive := shuntStateActive st
    scan.holder := some { station := 5, age := 40000 }, cmd.current := some { kind := .shunt, console := 28 } }

/-! ### Well-formedness: each check refuses a term -/

theorem test_wf_straps : (Instr.readingEnd 32 [] (List.replicate 8 .intact)).wf = false := by decide
theorem test_wf_image : (Instr.readingEnd 5 (List.replicate 412 0) (List.replicate 8 .intact)).wf = false := by decide +kernel
theorem test_wf_readings : (Instr.readingEnd 5 [] [.intact]).wf = false := by decide
theorem test_wf_sender : (Instr.statusReceived 28 demoReport).wf = false := by decide
theorem test_wf_status_lam : (Instr.statusReceived 6 { demoReport with lam := 65536 }).wf = false := by decide
theorem test_wf_status_group : (Instr.statusReceived 6 { demoReport with loadGroup := 8 }).wf = false := by decide
theorem test_wf_station : (Instr.peerRecordExpiry 0).wf = false := by decide
theorem test_wf_alarm_kind : (Instr.alarmHeard 6 (demoAlarm 256 1)).wf = false := by decide
theorem test_wf_purpose : (Instr.chargeHeard 6 256).wf = false := by decide
theorem test_wf_claim_group : (Instr.shuntClaimHeard 6 256).wf = false := by decide
theorem test_wf_done_sender : (Instr.shuntDoneHeard 31 3).wf = false := by decide
theorem test_wf_load_code : (Instr.servoTick 8388608).wf = false := by decide
theorem test_wf_bridge_codes : (Instr.scan (List.replicate 15 0) 0).wf = false := by decide
theorem test_wf_bridge_code : (Instr.scan (List.replicate 16 (-8388609)) 0).wf = false := by decide
theorem test_wf_channel : (Instr.exceedRunReachesM 16).wf = false := by decide
theorem test_wf_loop_scan : (Instr.loopScan []).wf = false := by decide
theorem test_wf_loop : (Instr.loopReadingTaken 8).wf = false := by decide
theorem test_wf_input : (Instr.aeHit 4).wf = false ∧ (Instr.deadTimeExpiry 4).wf = false := by decide
theorem test_wf_console : (Instr.cut { sender := 27, dest := 5, len := 0 }).wf = false := by decide
theorem test_wf_dest : (Instr.cut { sender := 28, dest := 32, len := 0 }).wf = false := by decide
theorem test_wf_length : (Instr.cut { sender := 28, dest := 5, len := 67 }).wf = false := by decide
theorem test_wf_known_kind : (Instr.commandUnknownKind (demoHead 0) 0x42).wf = false := by decide
theorem test_wf_program : (Instr.program (demoHead 13)
    { index := 0, target := 65536, rate := 1, hold := 0, settle := 0, extension := 0, loopTo := 255, loopCount := 0 }).wf =
    false := by decide
theorem test_wf_byte_operands :
    (Instr.ack (demoHead 4) 256 0 0 0).wf = false ∧ (Instr.accept (demoHead 1) 256).wf = false ∧
      (Instr.fetch (demoHead 3) 0 65536).wf = false ∧ (Instr.free (demoHead 1) 256).wf = false := by decide
theorem test_wf_query_operands :
    (Instr.queryCrack (demoHead 2) 256).wf = false ∧ (Instr.queryAlarms (demoHead 2) 256).wf = false ∧
      (Instr.queryStrain (demoHead 2) 256).wf = false ∧ (Instr.queryPeer (demoHead 2) 256).wf = false ∧
      (Instr.queryOtherSubject (demoHead 2) 3 0).wf = false := by decide
theorem test_wf_accepts :
    (Instr.servoTick (-8388608)).wf = true ∧ (Instr.aeHit 3).wf = true ∧ (Instr.queryOtherSubject (demoHead 2) 5 0).wf = true ∧
      (Instr.commandUnknownKind (demoHead 0) 0x54).wf = true ∧ (Instr.statusReceived 27 demoReport).wf = true := by decide

/-! ### Worked examples of the manual -/

/-- The field after a command that answers a next state. -/
def after {α : Type} (c : Instr) (s : State) (f : State → α) : Option α :=
  match exec c s with
  | .next t => some (f t)
  | _ => none

/-- Table 1-A: the three arbitration fields; the least prevails (R2). -/
theorem test_arbitration_fields :
    arbitrationField (classCode .alarm) 12 = 12 ∧ arbitrationField 2 29 = 93 ∧
      arbitrationField (classCode .status) 3 = 131 := by decide

/-- Section 4.2: halves round away from zero; a signed field is two's complement, low byte first (section 4.3). -/
theorem test_rounding : roundDiv 1 2 = 1 ∧ roundDiv (-1) 2 = -1 ∧ roundDiv 190742 4 = 47686 := by decide
theorem test_byte_order : leSigned 3 (-2) = [0xFE#8, 0xFF#8, 0xFF#8] ∧ leInt [0xFE#8, 0xFF#8, 0xFF#8] = -2 := by decide

/-- The station of Table 4-A at a tick. -/
def piState : State :=
  { live0 with servo.lam := 4000, servo.loadZero := 12000, servo.integral := 180000000 }

/-- Table 4-B. -/
theorem test_pi_nominal :
    after (.servoTick 3991000) piState (fun t => (t.servo.fSet, t.servo.fMeas, t.servo.error, t.servo.drive, t.servo.integral)) =
      some (1000000, 994750, 5250, 2796, 180105000) := by decide

/-- Tables 4-C and 4-D. -/
theorem test_pi_saturated : piLaw 600 20 2000000000 300000 = (32767, 2000000000) := by decide
theorem test_pi_truncates : piLaw 600 20 0 (-5250) = (-49, -105000) := by decide

/-- Table 4-E at ticks 1 and 20, and the target clamp near 3000 (section 4.10); floor and ceiling do not bind. -/
theorem test_ramp_ticks :
    moveLevel 1200 0 3000 50 500 1200 1200 = (1200, 50) ∧ moveLevel 1200 950 3000 50 500 1200 1200 = (1201, 0) ∧
      moveLevel 2999 0 3000 2000 500 2999 2999 = (3000, 0) ∧ moveLevel 2998 0 3000 2000 500 2998 2998 = (3000, 0) := by decide

/-- R60: a lead bound below λ on the way up, or above it on the way down, leaves λ and puts A to 0. -/
theorem test_bound_behind :
    moveLevel 1200 400 3000 50 10 1150 1200 = (1200, 0) ∧ moveLevel 1200 400 0 50 10 1200 1250 = (1200, 0) := by decide

/-- Table 6-A; and S = 524288 turns ±1 into ±0.5, which rounds to ±1. -/
theorem test_conversions :
    sampleOf 80000 (-20000) 500000 = (47684, false) ∧ sampleOf (-120000) (-20000) 500000 = (-47684, false) ∧
      sampleOf 7980000 (-20000) 500000 = (320000, true) ∧ sampleOf 1 0 524288 = (1, false) ∧
      sampleOf (-1) 0 524288 = (-1, false) := by decide

/-- Table 6-B: channels 2, 5 and 7. -/
theorem test_shunt_judgement :
    shuntPasses 10000 { Channel.reset with beforeSum := 20000, onSum := 178885 } = true ∧
      shuntPasses 10000 { Channel.reset with beforeSum := -6725, onSum := 146248 } = false ∧
      shuntPasses (-10000) { Channel.reset with beforeSum := 4808, onSum := -152960 } = true := by decide

/-- R31: an entry filled above an EMPTY one makes a program of length 1 invalid. -/
theorem test_program_validity :
    programValid (programmed run0).seq = true ∧
      programValid { (programmed run0).seq with table := setAt 2 (some demoSegment) (programmed run0).seq.table } = false := by
  decide

/-- Table 6-C's rule of a claim: the first claim heard holds the group, a second one leaves it (R108). -/
theorem test_first_claim_holds :
    after (.shuntClaimHeard 9 3) { run0 with scan.holder := some { station := 8, age := 1 } } (fun t => t.scan.holder) =
      some (some { station := 8, age := 1 }) := by decide

/-- R127 and R126: a hit 1.0 ms after an accepted one lies within the dead time of 1.0 ms; one later is accepted. -/
theorem test_dead_time :
    after (.aeHit 1) { run0 with crack.inputs := List.replicate 4 { hits := [49990], dead := some 50000, band := .normal, count := 1 } }
        (fun t => (aeAt 1 t).count) = some 1 ∧
      after (.aeHit 1) { run0 with crack.inputs := List.replicate 4 { hits := [49980], dead := some 49990, band := .normal, count := 1 } }
        (fun t => ((aeAt 1 t).count, (aeAt 1 t).band)) = some (2, .elevated) := by decide

/-- R119: with n = 3 an OPEN sensed once before is not taken at the next scan, one sensed twice before is. -/
theorem test_debounce :
    let near := fun n => { run0 with crack.loops := List.replicate 8 { state := .intact, taken := some .intact, candidate := some (.opened, n) } }
    after (.loopReadingTaken 4) (near 1) (fun t => (loopAt 4 t).state) = some .intact ∧
      after (.loopReadingTaken 4) (near 2) (fun t => (loopAt 4 t).state) = some .broken := by decide

/-- R7: a SHUNT_DONE placed while the claim has not won its arbitration replaces it; behind one in transmission it waits. -/
theorem test_claim_replaced :
    let claiming := fun won =>
      { shunting .claiming 0 with
        act.state := .locked, line.shuntSlot := some { isDone := false, group := 3 }
        line.tx := some { cls := .shunt, bytes := [], won := won } }
    after .estopActive (claiming false) (fun t => (t.line.shuntSlot, t.line.shuntDoneBehind)) =
        some (some { isDone := true, group := 3 }, false) ∧
      after .estopActive (claiming true) (fun t => (t.line.shuntSlot, t.line.shuntDoneBehind)) =
        some (some { isDone := false, group := 3 }, true) := by decide

/-- R12: with 4 ALARM telegrams queued a fifth is lost. -/
theorem test_alarm_queue_full :
    let a : AlarmTelegram := { kind := .estop, channel := 0, action := .dump, lam := 0, step := 0, fMeas := 0, timeTag := 0 }
    after .estopActive { run0 with line.alarmQ := List.replicate 4 { a with kind := .overload } } (fun t => t.line.alarmQ) =
      some (List.replicate 4 { a with kind := .overload }) := by decide

/-- R133, R137: a heard raise whose key is listed adds 1 to its count, takes the higher action and the sender's time tag,
and is unacknowledged again. -/
theorem test_raise_merges :
    let a : AlarmRecord := { source := 6, kind := .crackWire, channel := 4, action := .note, count := 1, firstTag := 9
                             lastTag := 9, lam := 0, step := 0, acked := true }
    after (.alarmHeard 6 (demoAlarm 0x0C 2)) { run0 with alarm.records := [a] } (fun t => t.alarm.records) =
      some [{ a with count := 2, lastTag := 77, action := .hold, acked := false }] := by decide

/-- R68, R83: UNLOCK_FAIL leaves the integral 0 through LOCKED, ticks there too. -/
theorem test_unlock_fail_integral :
    after .unlockDeadlineExpiry
        { live0 with act.state := .unlockCharge, act.deadline := some 50000, servo.integral := 700 }
        (fun t => (t.act.state, t.servo.integral)) = some (.locked, 0) ∧
      after (.servoTick 0) { live0 with act.state := .locked, servo.integral := 0 } (fun t => t.servo.integral) =
        some 0 := by decide

/-- R158: where the seal has served the request whose expiry row waits, another request that is not yet due waits on. -/
theorem test_served_request_expires_nothing :
    let s := { withBlock 3 .sending run0 with
      recs.fetchQ := [{ console := 29, expiry := 60000, joinedSending := false }] }
    after .fetchRequestExpiry s (fun t => (t.recs.fetchQ.length, t.age, t.line.replyQ)) = some (1, 50000, []) := by decide

/-- R170: the age clock steps 0.1 ms at a time, and the tenth step raises the time tag. -/
theorem test_tick : (match step { run0 with age := 49998, cmd.timeTag := 4999 } with
    | .next t => (t.age, t.cmd.timeTag) | _ => (0, 0)) = (49999, 4999) ∧
    (match step { run0 with age := 49999, cmd.timeTag := 4999 } with
    | .next t => (t.age, t.cmd.timeTag) | _ => (0, 0)) = (50000, 5000) := by decide

/-! ### Telegrams written out from the tables -/

/-- A SHUNT_CLAIM of station 3 for group 4 by Tables 1-1 to 1-3: class 3 and sender 3, destination 0, kind 03h, length 1,
group; and the check of R1 after it. -/
theorem test_claim_bytes :
    decodeTelegram 5 ([0x63#8, 0x00#8, 0x03#8, 0x01#8, 0x04#8] ++ leBytes 2 (crc16 [0x63#8, 0x00#8, 0x03#8, 0x01#8, 0x04#8]).toNat) =
      some (.shuntClaimHeard 3 4) := by decide +kernel

/-- The SHUNT_CLAIM of station 3 for the own group 3 is taken at its end mark and discarded at an abort mark (R3, R4). -/
def claimBytes : List Byte :=
  [0x63#8, 0x00#8, 0x03#8, 0x01#8, 0x03#8] ++ leBytes 2 (crc16 [0x63#8, 0x00#8, 0x03#8, 0x01#8, 0x03#8]).toNat

theorem test_marks :
    after (.receivedTelegramDiscard { bytes := claimBytes, mark := .endMark }) run0 (fun t => t.scan.holder) =
        some (some { station := 3, age := 50000 }) ∧
      after (.receivedTelegramDiscard { bytes := claimBytes, mark := .abortMark }) run0 (fun t => t.scan.holder) = some none := by decide +kernel

/-- A FETCH of block 2 with wait 1000 from console 29 to station 5 (Table 1-6), and the same to station 6, not for 5 (R5). -/
theorem test_fetch_bytes :
    let body := fun (dest : Byte) => [0x5D#8, dest, 0x48#8, 0x03#8, 0x02#8, 0xE8#8, 0x03#8]
    decodeTelegram 5 (body 5 ++ leBytes 2 (crc16 (body 5)).toNat) =
        some (.fetch { sender := 29, dest := 5, len := 3 } 2 1000) ∧
      decodeTelegram 5 (body 6 ++ leBytes 2 (crc16 (body 6)).toNat) = none := by decide +kernel

/-- R5: a SHUNT_CLAIM from a console number, one with two payload bytes, one of class 1, and class 7 are discarded. -/
theorem test_discards :
    decodeTelegram 5 (frame 3 28 0 0x03 [3#8]) = none ∧ decodeTelegram 5 (frame 3 6 0 0x03 [3#8, 0#8]) = none ∧
      decodeTelegram 5 (frame 1 6 0 0x03 [3#8]) = none ∧ decodeTelegram 5 (frame 7 6 0 0x03 [3#8]) = none ∧
      decodeTelegram 5 (frame 3 6 0 0x03 [3#8]) = some (.shuntClaimHeard 6 3) := by decide +kernel

/-- A telegram whose check is wrong is no telegram (R4). -/
theorem test_bad_check : telegramWhole [0x63#8, 0x00#8, 0x03#8, 0x01#8, 0x04#8, 0#8, 0#8] = false := by decide +kernel

/-- The opcode table gives no row any bits, so no word spells a command. -/
theorem test_no_table_word : decodeTableWord 32 0xFFFFFFFF = none := by decide

/-! ### An image of Tables 11-1 to 11-3, laid out by hand: station 5, members 5 to 7, every field in range -/

/-- Bytes 0 to 64: format 1, 500 kbit/s, 50 ms, k 4, load group 2, and the other fields of Table 11-1. -/
def imageHead : List Byte :=
  [1, 1, 50, 4, 2, 224, 0, 0, 0, 160, 37, 38, 0, 192, 198, 45, 0, 251, 255, 255, 250, 0, 0, 88, 2, 20, 0, 112,
    23, 0, 32, 78, 0, 3, 0, 30, 0, 50, 0, 208, 7, 232, 3, 244, 1, 184, 11, 60, 0, 136, 19, 0, 2, 2, 5, 0, 4, 2,
    10, 0, 3, 10, 0, 50, 0]

/-- Four channel entries (Table 11-2). -/
def imageChannels : List Byte :=
  (List.replicate 4 ([3, 2, 3, 0, 0, 16, 0, 0, 0, 32, 78, 0, 224, 177, 255, 16, 39, 0] : List Byte)).flatten

/-- Eight loop entries, loop 0 not enabled, and four AE entries (Table 11-3). -/
def imageRest : List Byte :=
  [0, 2, 30, 0] ++ (List.replicate 7 ([1, 2, 30, 0] : List Byte)).flatten ++ (List.replicate 4 ([10, 100, 0, 2, 4, 2] : List Byte)).flatten

/-- Bytes 0 to 408. -/
def imageBody : List Byte :=
  imageHead ++ (imageChannels ++ (imageChannels ++ (imageChannels ++ (imageChannels ++ imageRest))))

/-- The image with its check, computed by hand over bytes 0 to 408. -/
def demoImage : List Byte :=
  imageBody ++ [133, 38]

theorem image_check_1 : imageHead.foldl crcByte 65535 = 4932 := by decide +kernel
theorem image_check_2 : imageChannels.foldl crcByte 4932 = 24877 := by decide +kernel
theorem image_check_3 : imageChannels.foldl crcByte 24877 = 38965 := by decide +kernel
theorem image_check_4 : imageChannels.foldl crcByte 38965 = 50806 := by decide +kernel
theorem image_check_5 : imageChannels.foldl crcByte 50806 = 42186 := by decide +kernel
theorem image_check_6 : imageRest.foldl crcByte 42186 = 9861 := by decide +kernel

/-- The check passes (R170). -/
theorem demoImage_check : checkPasses demoImage = true := by
  have hbody : demoImage.take 409 = imageBody := List.take_left' (by decide +kernel)
  have hcrc : (crc16 imageBody).toNat = 9861 := by
    simp only [crc16, imageBody, List.foldl_append, image_check_1, image_check_2,
      image_check_3, image_check_4, image_check_5, image_check_6]
    rfl
  simp only [checkPasses, hbody, hcrc]
  decide +kernel

/-- Every field passes, and with it none of the four faults occurs (R170, R171). -/
theorem demoImage_verifies : imageVerifies 5 demoImage = true := by decide +kernel

theorem demoImage_noFault : noFault 5 demoImage = true := by
  simp only [noFault, demoImage_check, demoImage_verifies]
  decide

/-- The same, field by field as the tables give them. -/
theorem demoImage_passes : StartPasses 5 demoImage := by
  have hcheck : (crc16 (demoImage.take 409)).toNat = imageNat demoImage 409 2 := by
    have h := demoImage_check
    simp only [checkPasses, Bool.and_eq_true, decide_eq_true_eq] at h
    exact h.2
  refine ⟨by decide, ⟨by decide +kernel, hcheck⟩, ?_, ?_, ?_, ?_, ?_⟩
  · unfold StationFieldsPass FieldIn
    decide +kernel
  · refine ⟨by decide +kernel, by decide +kernel, 6, by decide +kernel⟩
  · unfold ChannelPasses FieldIn
    decide +kernel
  · unfold LoopPasses FieldIn
    decide +kernel
  · unfold InputPasses FieldIn
    decide +kernel

/-- Fields of the image as the manual lays them out (Tables 11-1 and 11-2). -/
theorem test_image_fields :
    (settingsOf demoImage).fDesign = 2500000 ∧ (settingsOf demoImage).loadZero = -5 ∧
      (settingsOf demoImage).memberSet = 0xE0#32 ∧ (settingsOf demoImage).driftLimit = 50 ∧
      (channelEntry demoImage 15).low = -20000 ∧ (aeEntry demoImage 3).nBurst = 4 := by decide +kernel

/-- R171: a member set without the own station, and one with a console's bit, fail; and a strap number of 28 is a fault. -/
theorem test_member_set :
    membersVerify 9 0xE0#32 = false ∧ membersVerify 5 0x100000E0#32 = false ∧ noFault 28 demoImage = false := by
  decide +kernel


/-! ### States for the witnesses -/

/-- The station as the pin holds it. -/
def held0 : State := { State.reset with loader.phase := .held, pins.dump := false }

/-- A telegram of the ALARM queue. -/
def demoAlarmTelegram : AlarmTelegram :=
  { kind := .crackWire, channel := 255, action := .hold, lam := 65535, step := 4294967295, fMeas := -2147483648,
    timeTag := 5 }

/-- A REPLY of the queue. -/
def demoReply : Reply := { dest := 28, kindCode := 0x4D, result := .done, reason := .none, data := [] }

/-- A DATA part of block 0 for console 29. -/
def demoPart (part : Nat) : DataPart := { dest := 29, block := 0, part := part, data := [] }

/-- A filled crack table entry. -/
def demoEntry : CrackEntry := { timeTag := 9, step := 1, segment := 0, lam := 5, fMeas := -7 }

/-- A PROGRAM request that loops on itself twice. -/
def demoRequest : SegmentRequest :=
  { index := 31, target := 12000, rate := 2500, hold := 10, settle := 1, extension := 20, loopTo := 31, loopCount := 2 }

/-- A STATUS on offer, marked requested-again; an ALARM, a REPLY and a DATA part on offer. -/
def statusOffered : State := offeringNow .status { run0 with line.statusSlot := .taken 1 true, line.events := 3 }
/-- An ALARM on offer. -/
def alarmOffered : State := offeringNow .alarm { run0 with line.alarmQ := [demoAlarmTelegram] }
/-- A REPLY on offer. -/
def replyOffered : State := offeringNow .reply { run0 with line.replyQ := [demoReply] }
/-- A REPLY on offer and one held. -/
def replyHeld : State := { replyOffered with line.heldReplies := [demoReply] }
/-- A DATA part on offer of a block of 8 parts, all of them placed. -/
def dataOffered (part : Nat) : State := offeringNow .data { withBlock 0 .sending run0 with line.dataQ := [demoPart part] }
/-- The own SHUNT_CLAIM on offer. -/
def claimOffered : State :=
  offeringNow .shunt
    { run0 with
      line.shuntSlot := some { isDone := false, group := 3 }, scan.shunt := .claiming
      cmd.current := some { kind := .shunt, console := 28 } }
/-- The own SHUNT_DONE on offer. -/
def doneOffered : State := offeringNow .shunt { run0 with line.shuntSlot := some { isDone := true, group := 3 } }
/-- A telegram waits, and four periods have passed without an own completion. -/
def fifthPeriod : State := { run0 with line.faultCount := 4, line.statusSlot := .waiting }
/-- Station 6 present at λ 1190 with its expiry due, the own station in RUN. -/
def withPeer : State :=
  { ramp0 with
    peers.records := setAt 5
      { PeerRecord.reset with present := true, lam := 1190, expiry := some 50000, actuator := .live } ramp0.peers.records }
/-- WAIT_WINDOW with no telegram for the wait and the oldest entry just out of window. -/
def windowDueNow : State :=
  { run0 with
    act.state := .waitWindow, act.purpose := some .charge
    act.chargeList := { station := 6, age := 20000 } :: fullList.drop 1 }
/-- Station 6 holds the group and the own scanner waits for it. -/
def groupHeld : State :=
  { run0 with
    scan.holder := some { station := 6, age := 0 }, scan.shunt := .waiting
    cmd.current := some { kind := .shunt, console := 28 } }
/-- A ramp downward that has reached its target. -/
def rampDown : State := { ramp0 with seq.work := some { demoWork with target := 1200 } }
/-- A clear order pends in TRIPPED. -/
def clearPending : State := { run0 with act.state := .tripped, servo.clearOrder := true, servo.lam := 1200 }
/-- DONE with the mismatch timer due. -/
def mismatchDue : State := { ramp0 with seq.phase := some .done, seq.mismatch := some 50000, seq.choice := some 1 }
/-- A dwell, settled, with a second segment to follow. -/
def twoSegments : State :=
  { dwell0 with
    scan.settled := true
    seq.table := some demoSegment :: some demoSegment :: List.replicate 30 none }
/-- A dwell whose extension is due. -/
def extensionDue : State := { dwell0 with seq.hold := .stopped, seq.extension := .running 50000, seq.extensionUsed := true }
/-- UNLOCK_CHARGE, acquiring. -/
def unlocking : State := { run0 with act.state := .unlockCharge, pins.pressOk := true, pins.lockEngaged := true }
/-- UNLOCK_CHARGE with every timer of the unit due. -/
def timersDue : State :=
  { unlocking with
    act.chargeTimer := some 50000, act.lockTimer := some 50000, act.deadline := some 50000
    act.acquisition := some 50000 }
/-- LOCKED with a lock check due and the force at the edge of the band. -/
def lockedNow : State :=
  { run0 with
    act.state := .locked, pins.lockEngaged := true, act.lockCheck := some 50000, act.lockRef := some 5000 }
/-- Channel 2 beyond its limit with the cause clear, channel 3 back within it with the cause set. -/
def atLimit : State :=
  { run0 with
    scan.channels := setAt 3 { Channel.reset with state := .ok, exceed := 3, cause := true }
      (setAt 2 { Channel.reset with state := .ok, exceed := 3 } run0.scan.channels) }
/-- A dwell with the settle window due and every reference met. -/
def settleDue : State :=
  { dwell0 with
    scan.settleTimer := some 50000
    scan.channels := List.replicate 16 { Channel.reset with state := .ok, latest := 50, ref := some 0 } }
/-- A ZERO after so many scans. -/
def zeroing (count : Nat) : State :=
  { run0 with
    scan.zero := some { loadSum := 640, count := count, vented := true }
    cmd.current := some { kind := .zero, console := 28 } }
/-- Loops 3 and 4 one scan before a taken OPEN, loop 6 two before, loop 5 BROKEN one before a taken INTACT. -/
def loopsMoving : State :=
  { run0 with
    crack.loops := setAt 5 { state := .broken, taken := some .opened, candidate := some (.intact, 2) }
      (setAt 4 { state := .intact, taken := some .intact, candidate := some (.opened, 2) }
        (setAt 3 { state := .intact, taken := some .intact, candidate := some (.opened, 2) }
          (setAt 6 { state := .intact, taken := some .intact, candidate := some (.opened, 1) } run0.crack.loops))) }
/-- Input 1 at the last moment of its dead time, input 2 past it, input 3 without one. -/
def hitsMade : State :=
  { run0 with
    crack.inputs := setAt 1 { hits := [49990], dead := some 50000, band := .normal, count := 1 }
      (setAt 2 { hits := [49989], dead := some 49999, band := .normal, count := 1 } run0.crack.inputs) }
/-- Block 1 FILLING, 2 SEALED, 3 SENDING. -/
def threeBlocks : State := withBlock 3 .sending (withBlock 2 .sealed (withBlock 1 .filling run0))
/-- Two requests wait, the second expiring first and due. -/
def twoRequests : State :=
  { run0 with
    recs.fetchQ := [{ console := 28, expiry := 50001, joinedSending := false },
    { console := 29, expiry := 50000, joinedSending := false }] }
/-- A station that may RUN: LIVE, a program of one segment, members present with the own digest. -/
def readyToRun : State :=
  { programmed live0 with
    peers.memberAbsent := false
    peers.records := List.replicate 27 { PeerRecord.reset with present := true, digest := live0.seq.digest } }
/-- HELD in DWELL with 4 ms of the hold left, under a latch of HOLD. -/
def heldDwell : State := { dwell0 with seq.state := .held, seq.hold := .paused 40, alarm.latch := .hold }
/-- One record held. -/
def oneRecord : State :=
  { run0 with
    alarm.records := [{ source := 6, kind := .crackWire, channel := 4, action := .hold, count := 1, firstTag := 1, lastTag := 1, lam := 0, step := 0, acked := false }] }
/-- Loop 4 BROKEN with its entry filled. -/
def crackedLoop : State :=
  { run0 with
    crack.entries := setAt 4 (some demoEntry) run0.crack.entries
    crack.loops := setAt 4 { state := .broken, taken := some .opened, candidate := none } run0.crack.loops }
/-- A ramp with an ESTOP in front of the queue. -/
def stepped : State := { ramp0 with pending := [.estopActive] }

/-- A request of a console that waits to an age. -/
def demoFetch (expiry : Nat) : FetchRequest := { console := 30, expiry := expiry, joinedSending := true }
/-- The last part of block 0 in transmission, block 4 SEALED and two requests waiting. -/
def requestServed : State := { withBlock 4 .sealed (dataOffered 7) with recs.fetchQ := [demoFetch 0, demoFetch 50001] }
/-- The last part of block 0 in transmission, nothing SEALED, one of two requests expired. -/
def requestExpired : State := { dataOffered 7 with recs.fetchQ := [demoFetch 50000, demoFetch 50001] }
/-- The fifth period with block 1 FILLING. -/
def fifthPeriodFilling : State := withBlock 1 .filling fifthPeriod
/-- A STATUS of a station one step ahead, with no action and the digest of an empty program. -/
def quietReport : StatusReport := { demoReport with latch := .none, step := 2, digest := run0.seq.digest }
/-- The sequencer waits in DONE at step 1 for segment 0. -/
def waitsInDone : State :=
  { ramp0 with
    seq.phase := some .done, seq.choice := some 0, seq.table := some demoSegment :: List.replicate 31 none }
/-- A record of an own OVERLOAD by channel. -/
def demoRecord (channel : Nat) (acked : Bool) : AlarmRecord :=
  { source := 5, kind := .overload, channel := channel, action := .note, count := 1, firstTag := 1, lastTag := 1, lam := 0, step := 0, acked := acked }
/-- A full alarm list. -/
def listFull (acked : Bool) : State :=
  { run0 with alarm.records := (List.range 24).map (fun c => demoRecord c acked) }
/-- A ramp at its target but for one tick. -/
def rampEnd : State := { ramp0 with servo.lam := 2999, servo.acc := 950, seq.hold := .paused 10000 }
/-- UNLOADING at λ 0. -/
def unloadedNow : State := { live0 with seq.state := .unloading }
/-- A shunt that claims, its claim on offer or in transmission, in a LOCKED station. -/
def shuntClaiming (won : Bool) : State :=
  { shunting .claiming 0 with
    act.state := .locked, line.shuntSlot := some { isDone := false, group := 3 }
    line.tx := some { cls := .shunt, bytes := [], won := won } }
/-- The last scan of a run with block 1 FILLING after so many samples, so much later. -/
def blockFilling (samples later : Nat) : State :=
  { run0 with
    age := 50000 + later, scan.runTaken := 3
    recs.table := setAt 1 { state := .filling, pages := [2, 3], samples := samples, firstAge := 49000, lastOffset := 80 }
      run0.recs.table
    recs.freePages := 254 }
/-- The last scan of a run with 31 SENT blocks of 8 pages and 8 pages free. -/
def poolCrowded : State :=
  { run0 with
    cfg.blockPages := 8, scan.runTaken := 3, recs.freePages := 8
    recs.table := (List.range 31).map (fun n =>
      { state := .sent, pages := (List.range 8).map (fun i => 8 * n + i), samples := 1, firstAge := 0, lastOffset := 0 }) ++
        List.replicate 33 { state := .free, pages := [], samples := 0, firstAge := 0, lastOffset := 0 } }
/-- The last scan of a run with channel 2 in an exceed run. -/
def exceedRun (count : Nat) : State :=
  { run0 with
    scan.runTaken := 3
    scan.channels := setAt 2 { Channel.reset with state := .ok, exceed := count } run0.scan.channels }
/-- Input 1 BURST on four hits, three of them out of window at the scan. -/
def hitsAged : State :=
  { run0 with
    alarm.causes := [.ae 1]
    crack.inputs := setAt 1
      { hits := [48000, 48500, 49000, 49001], dead := none, band := .burst, count := 4 } run0.crack.inputs }
/-- Block 1 FILLING, nothing SEALED or SENDING, a request waiting. -/
def cutServed : State := { withBlock 1 .filling run0 with recs.fetchQ := [demoFetch 60000] }
/-- As `GOOD`, but the members report another digest. -/
def otherDigests : State :=
  { readyToRun with peers.records := List.replicate 27 { PeerRecord.reset with present := true } }

/-- A CHARGE telegram of an ended wait in transmission, while the station waits again. -/
def chargeLeftOver : State := { waiting0 with act.ownPlaced := some false }
/-- Station 6 lost, with ESTOP as the other cause. -/
def memberLost : State :=
  { run0 with
    peers.records := setAt 5 { PeerRecord.reset with lost := true } run0.peers.records
    alarm.causes := [.peerLost 6, .estop] }
/-- As `TWO`, at the last step number. -/
def lastStep : State := { twoSegments with seq := { twoSegments.seq with step := 4294967295 } }
/-- A command of the actuator unit in progress, with every timer due. -/
def commandEnding (st : ActState) (kind : QueuedKind) : State :=
  { timersDue with act.state := st, cmd.current := some { kind := kind, console := 28 } }
/-- HELD in DWELL with the timers as given. -/
def heldReturn (used : Bool) (extension : Nat) (hold left : HoldTimer) : State :=
  { heldDwell with
    seq.extensionUsed := used, seq.hold := hold, seq.extension := left
    seq.work := some { demoWork with extension := extension } }
/-- HELD in DONE with a choice. -/
def heldDone : State := { waitsInDone with seq := { waitsInDone.seq with state := .held }, alarm.latch := .hold }

/-- With no record present both answers are yes (R26, R27). -/
theorem answers_of_absent {s : State} (step : Nat) (h : ∀ n, n < 28 → (peerAt n s).present = false) :
    GateOpen step s ∧ DigestsAgree s :=
  ⟨fun n hn => absurd hn.2.2.2.2 (by simp [h n (by have := hn.2.1; omega)]),
    fun n hn => absurd hn.2.2.2.2 (by simp [h n (by have := hn.2.1; omega)])⟩

/-- Every record with the own digest makes the digest answer yes (R26). -/
theorem digestsAgree_of_equal {s : State} (h : ∀ n, n < 28 → 1 ≤ n → (peerAt n s).digest = s.seq.digest) :
    DigestsAgree s :=
  fun n hn => h n (by have := hn.2.1; omega) hn.1

/-- Every channel of `SETTLE` holds. -/
theorem settleDue_holds : ∀ c, c < 16 → SettleChecked c settleDue → HoldsStill c settleDue := by
  intro c hc hs
  clear hs
  refine ⟨?_, ?_, 0, ?_, ?_⟩ <;> (revert c; decide)

/-- The program of `GOOD` is valid at length 1. -/
theorem readyToRun_valid : ValidProgram 1 readyToRun := by
  refine ⟨by decide, by decide, fun i hi => ?_⟩
  cases i with
  | zero => omega
  | succ i =>
    show (List.replicate 31 none).getD i none = none
    rw [List.getD_eq_getElem?_getD, List.getElem?_replicate]
    split <;> rfl

/-! ### A witness for every statement with hypotheses: one line a clause, at a boundary of its range -/

theorem witness_EmptyQueueStepsTheAgeClock :
    (State.reset.pending = []) ∧
    (run0.pending = [] ∧ run0.loader.phase ≠ .held) ∧
    ((held0).pending = [] ∧ held0.loader.phase = .held) :=
  ⟨by decide,
   by decide,
   by decide⟩

theorem witness_StartLeavesEveryBlockAtReset :
    (held0.loader.phase = .held) :=
  by decide

theorem witness_HeldStationTakesNoEvent :
    (held0.loader.phase = .held ∧ (∀ levels, Instr.estopActive ≠ .powerUp levels) ∧ (∀ levels, Instr.estopActive ≠ .resetPinRelease levels) ∧ Instr.estopActive ≠ .resetPinAssert) :=
  ⟨by decide, (fun _ h => by cases h), (fun _ h => by cases h), by decide⟩

theorem witness_ReadingEndDistributesOrFaults :
    (State.reset.loader.phase = .reading ∧ noFault 5 demoImage = true) ∧
    (State.reset.loader.phase = .reading ∧ noFault 5 [] = false) ∧
    ({ State.reset with pins.estop := true }.pins.estop = true) ∧
    (StartPasses 5 demoImage ∧ State.reset.crack = CrackMonitor.reset ∧ State.reset.alarm.records = [] ∧ [LoopReading.shorted, .intact, .opened][0]? = some .shorted ∧ imageNat demoImage (353 + 4 * 0) 1 = 0 ∧ imageNat demoImage (353 + 4 * 7) 1 = 1) :=
  ⟨⟨by decide, demoImage_noFault⟩,
   ⟨by decide, by decide⟩,
   by decide,
   ⟨demoImage_passes, by decide, by decide, by decide, by decide +kernel, by decide +kernel⟩⟩

theorem witness_OpportunityOffersTheFirstClass :
    (lineSends run0 = true ∧ run0.line.tx = none) ∧
    (lineSends { run0 with loader.phase := .configFault } = true) ∧
    (lineSends claimOffered = true ∧ claimOffered.line.tx = some { cls := .shunt, bytes := [], won := true }) ∧
    (lineSends held0 = false) :=
  ⟨⟨by decide, by decide⟩,
   by decide,
   ⟨by decide, by decide⟩,
   by decide⟩

theorem witness_WithdrawnTelegramStaysQueued :
    ((Instr.telegramAbandon = .arbitrationLoss ∨ Instr.telegramAbandon = .telegramAbandon) ∧ lineSends (offeringNow .shunt run0) = true ∧ (offeringNow .shunt run0).line.tx = some { cls := .shunt, bytes := [], won := true }) :=
  ⟨by decide, by decide, by decide⟩

theorem witness_OwnCompletionsEmptyTheirQueues :
    (statusOffered.loader.phase = .running ∧ OnOffer .status statusOffered ∧ statusOffered.line.statusSlot = .taken 1 true) ∧
    (alarmOffered.loader.phase = .running ∧ OnOffer .alarm alarmOffered ∧ alarmOffered.line.alarmQ = [demoAlarmTelegram]) ∧
    (replyOffered.loader.phase = .running ∧ OnOffer .reply replyOffered ∧ replyOffered.line.replyQ = [demoReply] ∧ replyOffered.line.heldReplies = []) ∧
    (replyHeld.loader.phase = .running ∧ OnOffer .reply replyHeld ∧ replyHeld.line.replyQ = [demoReply] ∧ replyHeld.line.heldReplies = [demoReply]) ∧
    ((dataOffered 6).loader.phase = .running ∧ OnOffer .data (dataOffered 6) ∧ (dataOffered 6).line.dataQ = [demoPart 6] ∧ (dataOffered 6).recs.sending = some { block := 0, console := 29, next := 8 } ∧ 6 + 1 < 4 * (dataOffered 6).cfg.blockPages) ∧
    ((dataOffered 7).loader.phase = .running ∧ OnOffer .data (dataOffered 7) ∧ (dataOffered 7).line.dataQ = [demoPart 7] ∧ 4 * (dataOffered 7).cfg.blockPages ≤ 7 + 1 ∧ (dataOffered 7).recs.fetchQ = []) ∧
    (OnOffer .data requestServed ∧ requestServed.line.dataQ = [demoPart 7] ∧ requestServed.recs.sending = some { block := 0, console := 29, next := 8 } ∧ 4 * requestServed.cfg.blockPages ≤ 7 + 1 ∧ requestServed.recs.sealedQ = [4] ∧ requestServed.recs.fetchQ = [demoFetch 0, demoFetch 50001] ∧ (∀ q ∈ [demoFetch 50001], requestServed.age < q.expiry) ∧ requestServed.line.replyQ.length < 4) ∧
    (OnOffer .data requestExpired ∧ requestExpired.line.dataQ = [demoPart 7] ∧ requestExpired.recs.sealedQ = [] ∧ (∀ q ∈ requestExpired.recs.fetchQ, q.joinedSending = true) ∧ requestExpired.line.replyQ.length + requestExpired.recs.fetchQ.length ≤ 4 ∧ requestExpired.recs.fetchQ = [demoFetch 50000, demoFetch 50001]) ∧
    ({ statusOffered with loader.phase := .configFault }.loader.phase = .configFault ∧ 1 ≤ ownStation { statusOffered with loader.phase := .configFault } ∧ ownStation { statusOffered with loader.phase := .configFault } ≤ 27 ∧ OnOffer .status { statusOffered with loader.phase := .configFault } ∧ { statusOffered with loader.phase := .configFault }.line.statusSlot = .taken 1 true) ∧
    (OnOffer .reply { replyHeld with loader.phase := .configFault } ∧ { replyHeld with loader.phase := .configFault }.line.replyQ = [demoReply]) :=
  ⟨⟨by decide, ⟨_, _, rfl⟩, by decide⟩,
   ⟨by decide, ⟨_, _, rfl⟩, by decide⟩,
   ⟨by decide, ⟨_, _, rfl⟩, by decide, by decide⟩,
   ⟨by decide, ⟨_, _, rfl⟩, by decide, by decide⟩,
   ⟨by decide, ⟨_, _, rfl⟩, by decide, by decide, by decide⟩,
   ⟨by decide, ⟨_, _, rfl⟩, by decide, by decide, by decide⟩,
   ⟨⟨_, _, rfl⟩, by decide, by decide, by decide, by decide, by decide, by decide, by decide⟩,
   ⟨⟨_, _, rfl⟩, by decide, by decide, by decide, by decide, by decide⟩,
   ⟨by decide, by decide, by decide, ⟨_, _, rfl⟩, by decide⟩,
   ⟨⟨_, _, rfl⟩, by decide⟩⟩

theorem witness_PumpWindowDecidesTheStart :
    (waiting0.loader.phase = .running ∧ OnOffer .charge waiting0 ∧ waiting0.act.state = .waitWindow ∧ waiting0.act.ownPlaced = some true ∧ waiting0.cmd.current = some { kind := .charge, console := 28 } ∧ waiting0.act.purpose = some .charge ∧ (inWindow { waiting0 with act.chargeList := fullList.drop 1 }).length < 4 ∧ waiting0.pins.pressOk = false) ∧
    ((inWindow { waiting0 with pins.pressOk := true }).length < 4 ∧ { waiting0 with pins.pressOk := true }.pins.pressOk = true) ∧
    ({ waiting0 with act.purpose := some .unlock }.act.purpose = some .unlock ∧ (inWindow { waiting0 with act.purpose := some .unlock }).length < 4) ∧
    (4 ≤ (inWindow { waiting0 with act.chargeList := fullList }).length) ∧
    (after .chargeOwnCompletion waiting0 (fun t => t.act.state) = some .charging) ∧
    (OnOffer .charge chargeLeftOver ∧ chargeLeftOver.loader.phase = .running ∧ chargeLeftOver.act.state = .waitWindow ∧ chargeLeftOver.act.ownPlaced ≠ some true ∧ chargeLeftOver.cmd.current = some { kind := .charge, console := 28 } ∧ chargeLeftOver.act.purpose = some .charge ∧ after .chargeOwnCompletion chargeLeftOver (fun t => (t.act.state, t.act.ownPlaced, t.line.chargeSlot, t.act.chargeList.length)) = some (.waitWindow, some true, some .charge, 2)) ∧
    (OnOffer .charge { chargeLeftOver with act.state := .tripped } ∧ { chargeLeftOver with act.state := .tripped }.act.state ≠ .waitWindow) ∧
    ({ waiting0 with pins.pressOk := true }.recs.fetchQ = []) :=
  ⟨⟨by decide, ⟨_, _, rfl⟩, by decide, by decide, by decide, by decide, by decide, by decide⟩,
   ⟨by decide, by decide⟩,
   ⟨by decide, by decide⟩,
   by decide,
   by decide,
   ⟨⟨_, _, rfl⟩, by decide, by decide, by decide, by decide, by decide, by decide⟩,
   ⟨⟨_, _, rfl⟩, by decide⟩,
   by decide⟩

theorem witness_OwnShuntTelegramsReachTheHolder :
    (claimOffered.loader.phase = .running ∧ OnOffer .shunt claimOffered ∧ claimOffered.cfg.excitation ≠ 0 ∧ claimOffered.line.shuntSlot = some { isDone := false, group := claimOffered.cfg.excitation } ∧ claimOffered.line.shuntDoneBehind = false ∧ claimOffered.scan.shunt = .claiming ∧ claimOffered.scan.claimHeld = false ∧ claimOffered.scan.holder = none) ∧
    ({ claimOffered with scan.holder := some { station := 6, age := 0 } }.scan.holder = some { station := 6, age := 0 } ∧ 6 ≠ ownStation claimOffered) ∧
    (doneOffered.loader.phase = .running ∧ OnOffer .shunt doneOffered ∧ doneOffered.line.shuntSlot = some { isDone := true, group := doneOffered.cfg.excitation } ∧ doneOffered.scan.shunt ≠ .waiting) :=
  ⟨⟨by decide, ⟨_, _, rfl⟩, by decide, by decide, by decide, by decide, by decide, by decide⟩,
   ⟨by decide, by decide⟩,
   ⟨by decide, ⟨_, _, rfl⟩, by decide, by decide⟩⟩

theorem witness_StatusTimerPlacesAndWatches :
    (lineSends run0 = true ∧ run0.line.statusTimer = some 50000 ∧ 50000 ≤ run0.age ∧ (¬ TelegramPending run0 ∨ run0.line.ownCompleted = true ∨ run0.line.faultCount < 4 ∨ run0.line.lineFault = true)) ∧
    (fifthPeriod.loader.phase = .running ∧ fifthPeriod.line.statusTimer = some 50000 ∧ 50000 ≤ fifthPeriod.age ∧ TelegramPending fifthPeriod ∧ fifthPeriod.line.ownCompleted = false ∧ 4 ≤ fifthPeriod.line.faultCount ∧ fifthPeriod.line.lineFault = false) ∧
    ({ fifthPeriod with loader.phase := .configFault }.loader.phase = .configFault ∧ 1 ≤ ownStation fifthPeriod ∧ ownStation fifthPeriod ≤ 27) ∧
    (0 < fifthPeriodFilling.cfg.captureLength ∧ (blockAt 1 fifthPeriodFilling).state = .filling ∧ PagesAddUp fifthPeriodFilling ∧ PoolCanonical fifthPeriodFilling ∧ 1 ≤ fifthPeriodFilling.cfg.blockPages ∧ fifthPeriodFilling.recs.fetchQ = [] ∧ fifthPeriodFilling.line.faultCount = 4) ∧
    ({ fifthPeriodFilling with cfg.captureLength := 0 }.cfg.captureLength = 0) :=
  ⟨⟨by decide, by decide, by decide, by decide⟩,
   ⟨by decide, by decide, by decide, by simp [TelegramPending, fifthPeriod], by decide, by decide, by decide⟩,
   ⟨by decide, by decide, by decide⟩,
   ⟨by decide, by decide, by unfold PagesAddUp; decide, by unfold PoolCanonical; decide, by decide, by decide, by decide⟩,
   by decide⟩

theorem witness_ReceivedBytesAreDiscardedOrHandedOn :
    (telegramWhole [] = false) ∧
    (decodeTelegram (ownStation run0) [] = none) ∧
    (decodeTelegram (ownStation run0) claimBytes = some (.shuntClaimHeard 3 3)) ∧
    (3 < 8 ∧ 3 < 32 ∧ 0 < 256 ∧ 3 < 256 ∧ ¬ KindOfClass 3 3 2 ∧ ¬ KindOfClass 4 6 24) ∧
    (32 ≤ 32 ∧ 27 < 28 ∧ (2 = 2 ∧ 27 < 28) ∧ (2 = 2 ∧ 6 ≠ 0 ∧ 6 ≠ 5)) :=
  ⟨by decide,
   by decide,
   by decide +kernel,
   ⟨by decide, by decide, by decide, by decide, by unfold KindOfClass; decide, by unfold KindOfClass; decide⟩,
   ⟨by decide, by decide, by decide, by decide⟩⟩

theorem witness_SentTelegramsAreReadAsSent :
    (1 ≤ ownStation alarmOffered ∧ ownStation alarmOffered ≤ 27 ∧ alarmOffered.line.alarmQ = [demoAlarmTelegram] ∧ demoAlarmTelegram.channel < 256 ∧ demoAlarmTelegram.lam < 65536 ∧ demoAlarmTelegram.step < 4294967296 ∧ -2147483648 ≤ demoAlarmTelegram.fMeas ∧ demoAlarmTelegram.fMeas < 2147483648) ∧
    (waiting0.line.chargeSlot = some .charge ∧ 1 ≤ ownStation waiting0 ∧ ownStation waiting0 ≤ 27) ∧
    (claimOffered.line.shuntSlot = some { isDone := false, group := 3 } ∧ doneOffered.line.shuntSlot = some { isDone := true, group := 3 } ∧ (3 : Nat) < 256) ∧
    (ramp0.seq.step < 4294967296 ∧ ramp0.seq.segment < 256 ∧ ramp0.servo.lam < 65536 ∧ -2147483648 ≤ ramp0.servo.fMeas ∧ ramp0.servo.fMeas < 2147483648 ∧ ramp0.line.loadGroup < 8 ∧ ramp0.recs.freePages < 65536) ∧
    (28 ≤ 28 ∧ 31 ≤ 31 ∧ (5 = 0 ∨ 5 = 5) ∧ 5 < 32) ∧
    (demoRequest.index < 256 ∧ demoRequest.target < 65536 ∧ demoRequest.rate < 65536 ∧ demoRequest.hold < 65536 ∧ demoRequest.settle < 256 ∧ demoRequest.extension < 65536 ∧ demoRequest.loopTo < 256 ∧ demoRequest.loopCount < 65536) ∧
    (255 < 256 ∧ 65535 < 65536 ∧ ([] : List Byte).length ≤ 66) :=
  ⟨⟨by decide, by decide, by decide, by decide, by decide, by decide, by decide, by decide⟩,
   ⟨by decide, by decide, by decide⟩,
   ⟨by decide, by decide, by decide⟩,
   ⟨by decide, by decide, by decide, by decide, by decide, by decide, by decide⟩,
   ⟨by decide, by decide, by decide, by decide⟩,
   ⟨by decide, by decide, by decide, by decide, by decide, by decide, by decide, by decide⟩,
   ⟨by decide, by decide, by decide⟩⟩

theorem witness_StatusFillsThePeerRecord :
    (Hears 6 run0 ∧ run0.peers.records.length = 27 ∧ isMember 6 run0 = true) ∧
    (Hears 27 run0 ∧ isMember 27 run0 = false) ∧
    (latchCode quietReport.latch ≤ latchCode (peerAt 6 waitsInDone).lastSeen ∧ Hears 6 waitsInDone ∧ CommandsFlow waitsInDone ∧ isMember 6 waitsInDone = true ∧ waitsInDone.seq.state = .run ∧ waitsInDone.seq.phase = some .done ∧ waitsInDone.seq.step < 4294967295 ∧ waitsInDone.seq.choice = some 0 ∧ waitsInDone.seq.table.getD 0 none = some demoSegment) ∧
    (after (.statusReceived 6 quietReport) waitsInDone (fun t => (t.seq.step, t.seq.phase)) = some (2, some .ramp)) ∧
    (after (.statusReceived 6 { quietReport with step := 1 }) waitsInDone (fun t => (t.seq.step, t.seq.mismatch)) = some (1, none)) ∧
    (after (.statusReceived 6 { quietReport with digest := 0 }) waitsInDone (fun t => t.seq.mismatch) = some (some 55000)) ∧
    (groupHeld.scan.holder = some { station := 6, age := 0 } ∧ quietReport.flags.getLsbD 3 = false ∧ CommandsFlow groupHeld ∧ groupHeld.scan.shunt = .waiting ∧ groupHeld.line.shuntSlot = none ∧ { quietReport with flags := 8 }.flags.getLsbD 3 = true) ∧
    ((peerAt 6 memberLost).lost = true ∧ Hears 6 memberLost ∧ memberLost.peers.records.length = 27) ∧
    (after (.statusReceived 6 quietReport) memberLost (fun t => t.alarm.causes) = some [.estop]) ∧
    (after (.statusReceived 6 { quietReport with step := 4294967295, phase := some .done }) { waitsInDone with seq := { waitsInDone.seq with step := 4294967295 } } (fun t => (t.seq.step, t.seq.state)) = some (4294967295, .ended)) :=
  ⟨⟨by unfold Hears; decide, by decide, by decide⟩,
   ⟨by unfold Hears; decide, by decide⟩,
   ⟨by decide, by unfold Hears; decide, by unfold CommandsFlow; decide, by decide, by decide, by decide, by decide, by decide, by decide⟩,
   by decide,
   by decide,
   by decide,
   ⟨by decide, by decide, by unfold CommandsFlow; decide, by decide, by decide, by decide⟩,
   ⟨by decide, by unfold Hears; decide, by decide⟩,
   by decide,
   by decide⟩

theorem witness_LatchRiseOfAMemberIsAnEdge :
    (Hears 6 run0 ∧ isMember 6 run0 = true ∧ latchCode (peerAt 6 run0).lastSeen < latchCode demoReport.latch ∧ run0.alarm.records.length < 24) ∧
    (Hears 9 run0 ∧ run0.peers.records.length = 27 ∧ isMember 9 run0 = false) ∧
    (latchCode Latch.none ≤ latchCode (peerAt 6 run0).lastSeen) ∧
    (latchAtLeast demoReport.latch .hold = true ∧ latchAtLeast { demoReport with latch := .note }.latch .hold = false) :=
  ⟨⟨by unfold Hears; decide, by decide, by decide, by decide⟩,
   ⟨by unfold Hears; decide, by decide, by decide⟩,
   by decide,
   ⟨by decide, by decide⟩⟩

theorem witness_ExpiredRecordIsAbsent :
    (Hears 6 withPeer ∧ withPeer.peers.records.length = 27 ∧ (peerAt 6 withPeer).expiry = some 50000 ∧ 50000 ≤ withPeer.age ∧ isMember 6 withPeer = true ∧ (withPeer.seq.state = .run ∨ withPeer.seq.state = .held ∨ withPeer.seq.state = .unloading)) ∧
    ({ withPeer with seq := run0.seq }.seq.state = .idle) ∧
    (latchAtLeast withPeer.alarm.latch .hold = false ∧ withPeer.seq.state = .run ∧ { withPeer with scan.holder := some { station := 6, age := 0 } }.scan.holder = some { station := 6, age := 0 }) ∧
    (RoomFor 1 withPeer ∧ after (.peerRecordExpiry 6) withPeer (fun t => t.seq.state) = some .held) :=
  ⟨⟨by unfold Hears; decide, by decide, by decide, by decide, by decide, by decide⟩,
   by decide,
   ⟨by decide, by decide, by decide⟩,
   ⟨by unfold RoomFor; decide, by decide⟩⟩

theorem witness_HeardAlarmIsRaisedOrDiscarded :
    (Hears 6 run0 ∧ isMember 6 run0 = true ∧ kindOfCode (demoAlarm 0x0C 2).kindCode = some .crackWire ∧ actionOfCode (demoAlarm 0x0C 2).actionCode = some .hold ∧ run0.alarm.records.length < 24) ∧
    (Hears 9 run0 ∧ isMember 9 run0 = false) ∧
    (kindOfCode (demoAlarm 0x12 2).kindCode = none ∧ actionOfCode (demoAlarm 1 0).actionCode = none ∧ actionOfCode (demoAlarm 1 5).actionCode = none) ∧
    ((∃ b ∈ oneRecord.alarm.records, keyOf b = (6, .crackWire, 4)) ∧ isMember 6 oneRecord = true) ∧
    (24 ≤ (listFull true).alarm.records.length ∧ (listFull true).alarm.records = [] ++ demoRecord 0 true :: (listFull true).alarm.records.drop 1 ∧ (demoRecord 0 true).acked = true ∧ (∀ b ∈ (listFull true).alarm.records, keyOf b ≠ (6, .crackWire, 4))) ∧
    (24 ≤ (listFull false).alarm.records.length ∧ (∀ x ∈ (listFull false).alarm.records, x.acked = false)) ∧
    (latchAtLeast Latch.hold .hold = true ∧ latchAtLeast Latch.note .hold = false) :=
  ⟨⟨by unfold Hears; decide, by decide, by decide, by decide, by decide⟩,
   ⟨by unfold Hears; decide, by decide⟩,
   ⟨by decide, by decide, by decide⟩,
   ⟨by decide, by decide⟩,
   ⟨by decide, by decide, by decide, by decide⟩,
   ⟨by decide, by decide⟩,
   ⟨by decide, by decide⟩⟩

theorem witness_ChargeListHoldsTheWindow :
    (Hears 6 run0) ∧
    (windowDueNow.loader.phase = .running ∧ windowDueNow.act.chargeList = { station := 6, age := 20000 } :: fullList.drop 1 ∧ 20000 + 10 * windowDueNow.cfg.wPump ≤ windowDueNow.age ∧ windowDueNow.act.state = .waitWindow ∧ NoOwnCharge windowDueNow ∧ windowDueNow.act.purpose = some .charge ∧ windowDueNow.line.chargeSlot = none ∧ (inWindow windowDueNow).length < 4) ∧
    (4 ≤ (inWindow { windowDueNow with act.chargeList := { station := 6, age := 20000 } :: fullList }).length) :=
  ⟨by unfold Hears; decide,
   ⟨by decide, by decide, by decide, by decide, by unfold NoOwnCharge; decide, by decide, by decide, by decide⟩,
   by decide⟩

theorem witness_ClaimHolderFollowsTheTelegrams :
    (Hears 6 run0 ∧ (4 ≠ run0.cfg.excitation ∨ run0.cfg.excitation = 0)) ∧
    (run0.cfg.excitation ≠ 0 ∧ run0.scan.holder = none) ∧
    (groupHeld.scan.holder = some { station := 6, age := 0 } ∧ Hears 6 groupHeld ∧ groupHeld.scan.shunt = .waiting ∧ groupHeld.line.shuntSlot = none ∧ { groupHeld with scan.shunt := .none }.scan.shunt ≠ .waiting ∧ 6 ≠ 7) :=
  ⟨⟨by unfold Hears; decide, by decide⟩,
   ⟨by decide, by decide⟩,
   ⟨by decide, by unfold Hears; decide, by decide, by decide, by decide, by decide⟩⟩

theorem witness_ServoTickFormsForceAndDrive :
    (live0.loader.phase = .running ∧ live0.servo.timer = some 50000 ∧ 50000 ≤ live0.age ∧ passesDrive live0.act.state = true) ∧
    (passesDrive run0.act.state = false ∧ run0.loader.phase = .running ∧ run0.servo.timer = some 50000 ∧ 50000 ≤ run0.age) ∧
    (lockedNow.loader.phase = .running ∧ lockedNow.servo.timer = some 50000 ∧ 50000 ≤ lockedNow.age ∧ lockedNow.act.state = .locked ∧ lockedNow.act.lockRefDue = false ∧ { lockedNow with act.lockRefDue := true }.act.lockRefDue = true) ∧
    (unlocking.servo.timer = some 50000 ∧ unlocking.act.state = .unlockCharge ∧ unlocking.act.releasing = false ∧ after (.servoTick 0) unlocking (fun t => (t.act.state, t.act.acquisition)) = some (.unlockCharge, some 55000)) ∧
    (after (.servoTick 4000000) { unlocking with act.acquisition := some 60000 } (fun t => t.act.acquisition) = some none) ∧
    (RunNeedsLive unlocking ∧ unlocking.alarm.latch = .none ∧ after (.servoTick 0) unlocking (fun t => decide (t.servo.fMeas ≤ (unlocking.cfg.fLimit : Int))) = some true) ∧
    (after (.servoTick 0) live0 (fun t => (t.act.state, decide (t.pins.drive = t.servo.drive))) = some (live0.act.state, true)) :=
  ⟨⟨by decide, by decide, by decide, by decide⟩,
   ⟨by decide, by decide, by decide, by decide⟩,
   ⟨by decide, by decide, by decide, by decide, by decide, by decide⟩,
   ⟨by decide, by decide, by decide, by decide⟩,
   by decide,
   ⟨by unfold RunNeedsLive; decide, by decide, by decide⟩,
   by decide⟩

theorem witness_FloorAndCeilingBoundTheGroup :
    (isMember 6 withPeer = true ∧ 6 ≠ ownStation withPeer ∧ (peerAt 6 withPeer).present = true ∧ (peerAt 6 withPeer).actuator ≠ .tripped) :=
  ⟨by decide, by decide, by decide, by decide⟩

theorem witness_ServoTickMovesTheLevel :
    (ramp0.loader.phase = .running ∧ ramp0.servo.timer = some 50000 ∧ 50000 ≤ ramp0.age ∧ ramp0.servo.clearOrder = false ∧ ramp0.act.state = .live ∧ ramp0.servo.lagging = false ∧ ramp0.seq.state = .run ∧ ramp0.seq.phase = some .ramp ∧ ramp0.seq.work = some demoWork ∧ ramp0.servo.lam < demoWork.target ∧ (∃ t, exec (.servoTick 0) ramp0 = .next t)) ∧
    (rampDown.seq.work = some { demoWork with target := 1200 } ∧ 1200 ≤ rampDown.servo.lam ∧ (∃ t, exec (.servoTick 0) rampDown = .next t)) ∧
    (run0.loader.phase = .running ∧ run0.servo.clearOrder = false ∧ run0.act.state ≠ .live ∧ (∃ t, exec (.servoTick 0) run0 = .next t)) ∧
    (clearPending.servo.clearOrder = true ∧ clearPending.act.state ≠ .live ∧ passesDrive clearPending.act.state = false ∧ (∃ t, exec (.servoTick 0) clearPending = .next t)) ∧
    (LatchHolds { live0 with alarm.latch := .hold } ∧ latchAtLeast { live0 with alarm.latch := .hold }.alarm.latch .hold = true ∧ (∃ t, exec (.servoTick 0) { live0 with alarm.latch := .hold } = .next t)) ∧
    (CommandsFlow rampEnd ∧ rampEnd.seq.state = .run ∧ rampEnd.seq.phase = some .ramp ∧ rampEnd.seq.work = some demoWork ∧ rampEnd.seq.hold = .paused 10000 ∧ 0 < 10000 ∧ after (.servoTick 0) rampEnd (fun t => (t.servo.lam, t.alarm.latch)) = some (demoWork.target, rampEnd.alarm.latch)) ∧
    (CommandsFlow unloadedNow ∧ unloadedNow.seq.state = .unloading ∧ after (.servoTick 0) unloadedNow (fun t => (t.servo.lam, t.alarm.latch)) = some (0, unloadedNow.alarm.latch)) ∧
    (CommandsFlow ramp0 ∧ after (.servoTick 0) ramp0 (fun t => (t.servo.lam, t.alarm.latch)) = some (1200, ramp0.alarm.latch) ∧ 1200 ≠ demoWork.target) :=
  ⟨⟨by decide, by decide, by decide, by decide, by decide, by decide, by decide, by decide, by decide, by decide, ⟨_, rfl⟩⟩,
   ⟨by decide, by decide, ⟨_, rfl⟩⟩,
   ⟨by decide, by decide, by decide, ⟨_, rfl⟩⟩,
   ⟨by decide, by decide, by decide, ⟨_, rfl⟩⟩,
   ⟨by unfold LatchHolds; decide, by decide, ⟨_, rfl⟩⟩,
   ⟨by unfold CommandsFlow; decide, by decide, by decide, by decide, by decide, by decide, by decide⟩,
   ⟨by unfold CommandsFlow; decide, by decide, by decide⟩,
   ⟨by unfold CommandsFlow; decide, by decide, by decide⟩⟩

theorem witness_ServoTickJudgesTheBands :
    (live0.loader.phase = .running ∧ live0.servo.timer = some 50000 ∧ 50000 ≤ live0.age ∧ live0.act.state = .live ∧ live0.servo.reacquire = none) ∧
    (after (.servoTick 0) live0 (fun t => decide (t.servo.error.natAbs ≤ 20000)) = some true) ∧
    (after (.servoTick 4000000) { live0 with servo.tripCount := 1 } (fun t => (decide (20000 < t.servo.error.natAbs), t.servo.tripCount)) = some (true, 2)) ∧
    (after (.servoTick 4000000) { live0 with servo.tripCount := 2 } (fun t => (t.servo.tripCount, t.alarm.latch)) = some (0, .dump)) ∧
    (after (.servoTick 8388607) { live0 with cfg.fLimit := 2000000 } (fun t => t.servo.overLimit) = some true) ∧
    (after (.servoTick 0) { live0 with servo.overLimit := true } (fun t => t.servo.overLimit) = some false) ∧
    (after (.servoTick 4000000) { live0 with servo.reacquire := some 60000, servo.tripCount := 2 } (fun t => (t.servo.lagging, t.servo.tripCount, t.servo.reacquire)) = some (false, 0, some 60000)) ∧
    (after (.servoTick 4000000) { live0 with act.state := .locking, servo.tripCount := 1, servo.reacquire := some 60000 } (fun t => (t.servo.lagging, t.servo.tripCount, t.servo.reacquire)) = some (false, 2, none)) ∧
    (after (.servoTick 8388607) { run0 with servo.overLimit := true, cfg.fLimit := 2000000, alarm.causes := [.overLimit] } (fun t => (t.servo.overLimit, t.alarm.causes)) = some (false, [])) ∧
    (RoomFor 1 live0 ∧ RoomFor 2 live0) :=
  ⟨⟨by decide, by decide, by decide, by decide, by decide⟩,
   by decide,
   by decide,
   by decide,
   by decide,
   by decide,
   by decide,
   by decide,
   by decide,
   ⟨by unfold RoomFor; decide, by unfold RoomFor; decide⟩⟩

theorem witness_TripReacquireAndMismatchExpire :
    ({ live0 with servo.tripCount := 3 }.loader.phase = .running ∧ live0.act.state = .live ∧ live0.servo.reacquire = none ∧ 0 < { live0 with servo.tripCount := 3 }.servo.tripCount ∧ { live0 with servo.tripCount := 3 }.cfg.tTrip ≤ { live0 with servo.tripCount := 3 }.servo.tripCount ∧ live0.alarm.latch ≠ .dump) ∧
    ({ live0 with servo.reacquire := some 50000 }.servo.reacquire = some 50000 ∧ 50000 ≤ live0.age) ∧
    (mismatchDue.loader.phase = .running ∧ mismatchDue.seq.mismatch = some 50000 ∧ 50000 ≤ mismatchDue.age ∧ mismatchDue.seq.state = .run ∧ mismatchDue.seq.phase = some .done ∧ latchAtLeast mismatchDue.alarm.latch .hold = false) ∧
    (RoomFor 1 live0 ∧ RoomFor 1 mismatchDue) :=
  ⟨⟨by decide, by decide, by decide, by decide, by decide, by decide⟩,
   ⟨by decide, by decide⟩,
   ⟨by decide, by decide, by decide, by decide, by decide, by decide⟩,
   ⟨by unfold RoomFor; decide, by unfold RoomFor; decide⟩⟩

theorem witness_HoldExpiryJudgesSettle :
    (dwell0.loader.phase = .running ∧ dwell0.seq.state = .run ∧ dwell0.seq.phase = some .dwell ∧ dwell0.seq.hold = .running 50000 ∧ 50000 ≤ dwell0.age ∧ dwell0.seq.work = some demoWork ∧ demoWork.settle = true ∧ dwell0.scan.settled = false ∧ 0 < demoWork.extension) ∧
    ({ dwell0 with scan.settled := true }.scan.settled = true ∧ dwell0.seq.step < 4294967295 ∧ dwell0.seq.table.getD (choiceOf dwell0.seq).2 none = none) ∧
    (twoSegments.seq.table.getD (choiceOf twoSegments.seq).2 none = some demoSegment ∧ (GateOpen twoSegments.seq.step twoSegments ∧ DigestsAgree twoSegments) ∧ twoSegments.seq.hold = .running 50000) ∧
    ({ twoSegments with peers := withPeer.peers }.seq.table.getD (choiceOf { twoSegments with peers := withPeer.peers }.seq).2 none = some demoSegment ∧ ¬ DigestsAgree { twoSegments with peers := withPeer.peers } ∧ twoSegments.seq.mismatch = none) ∧
    ({ dwell0 with seq.work := some { demoWork with extension := 0 } }.seq.work = some { demoWork with extension := 0 } ∧ { demoWork with extension := 0 }.extension = 0 ∧ dwell0.cfg.noSettleAction ≠ .none ∧ (dwell0.cfg.noSettleAction = .note ∨ latchCode dwell0.alarm.latch < latchCode dwell0.cfg.noSettleAction)) ∧
    (4294967295 ≤ lastStep.seq.step ∧ (GateOpen lastStep.seq.step lastStep ∧ DigestsAgree lastStep) ∧ lastStep.seq.table.getD (choiceOf lastStep.seq).2 none = some demoSegment) :=
  ⟨⟨by decide, by decide, by decide, by decide, by decide, by decide, by decide, by decide, by decide⟩,
   ⟨by decide, by decide, by decide⟩,
   ⟨by decide, answers_of_absent _ (by decide), by decide⟩,
   ⟨by decide, fun h => absurd (h 6 (by unfold PresentMember; decide)) (by decide +kernel), by decide⟩,
   ⟨by decide, by decide, by decide, by decide⟩,
   ⟨by decide, answers_of_absent _ (by decide), by decide⟩⟩

theorem witness_ExtensionExpiryRaisesNoSettle :
    (extensionDue.loader.phase = .running ∧ extensionDue.seq.state = .run ∧ extensionDue.seq.phase = some .dwell ∧ extensionDue.seq.extension = .running 50000 ∧ 50000 ≤ extensionDue.age ∧ extensionDue.cfg.noSettleAction ≠ .none ∧ latchCode extensionDue.alarm.latch < latchCode extensionDue.cfg.noSettleAction ∧ extensionDue.cfg.noSettleAction = .hold ∧ RoomFor 1 extensionDue) ∧
    ({ extensionDue with cfg.noSettleAction := .note }.cfg.noSettleAction = .note) ∧
    ({ extensionDue with cfg.noSettleAction := .unload }.cfg.noSettleAction = .unload ∧ { extensionDue with cfg.noSettleAction := .unload }.act.state = .live ∧ latchCode extensionDue.alarm.latch < latchCode .unload) ∧
    ({ extensionDue with cfg.noSettleAction := .dump }.cfg.noSettleAction = .dump ∧ { extensionDue with cfg.noSettleAction := .dump }.act.state = .live ∧ latchCode extensionDue.alarm.latch < latchCode .dump) :=
  ⟨⟨by decide, by decide, by decide, by decide, by decide, by decide, by decide, by decide, by unfold RoomFor; decide⟩,
   by decide,
   ⟨by decide, by decide, by decide⟩,
   ⟨by decide, by decide, by decide⟩⟩

theorem witness_InputsActInTheirStates :
    ({ run0 with act.state := .charging }.act.state = .charging ∧ { run0 with act.state := .charging }.loader.phase = .running ∧ { run0 with act.state := .charging }.pins.pressOk = false) ∧
    (unlocking.loader.phase = .running ∧ unlocking.act.state = .unlockCharge ∧ unlocking.act.releasing = false ∧ unlocking.pins.pressOk = true) ∧
    ({ live0 with act.state := .locking }.act.state = .locking ∧ { live0 with act.state := .locking }.pins.lockEngaged = false) ∧
    ({ unlocking with act.releasing := true }.act.releasing = true ∧ { unlocking with act.releasing := true }.pins.lockEngaged = true) ∧
    ((live0.act.state = .vented ∨ live0.act.state = .live ∨ live0.act.state = .waitWindow ∨ live0.act.state = .tripped) ∧ live0.pins.pressOk ≠ true ∧ live0.pins.lockEngaged ≠ true) ∧
    ({ run0 with act.state := .charging, seq.state := .held, alarm.latch := .unload }.seq.state = .held ∧ { run0 with act.state := .charging, seq.state := .held, alarm.latch := .unload }.alarm.latch = .unload) ∧
    (lockedNow.act.state = .locked ∧ lockedNow.pins.lockEngaged = true ∧ lockedNow.act.lockRefDue = false ∧ lockedNow.act.lockRef = some 5000 ∧ (lockedNow.servo.fMeas - 5000).natAbs ≤ lockedNow.cfg.lockBand ∧ lockedNow.cfg.lockBand < (lockedNow.servo.fMeas - 5001).natAbs ∧ { lockedNow with act.lockRefDue := true }.act.lockRefDue = true) ∧
    (lockedNow.pins.pressOk ≠ true ∧ { unlocking with act.releasing := true }.pins.pressOk ≠ false ∧ unlocking.pins.lockEngaged ≠ false ∧ lockedNow.pins.lockEngaged ≠ false) ∧
    (State.reset.loader.phase = .reading ∧ held0.loader.phase = .held ∧ run0.pins.pressOk = false ∧ run0.pins.lockEngaged = false) ∧
    ((commandEnding .charging .charge).cmd.current = some { kind := .charge, console := 28 } ∧ (commandEnding .charging .charge).recs.fetchQ = [] ∧ (commandEnding .locking .lock).cmd.current = some { kind := .lock, console := 28 } ∧ (commandEnding .unlockCharge .unlock).cmd.current = some { kind := .unlock, console := 28 } ∧ RoomFor 1 lockedNow) :=
  ⟨⟨by decide, by decide, by decide⟩,
   ⟨by decide, by decide, by decide, by decide⟩,
   ⟨by decide, by decide⟩,
   ⟨by decide, by decide⟩,
   ⟨by decide, by decide, by decide⟩,
   ⟨by decide, by decide⟩,
   ⟨by decide, by decide, by decide, by decide, by decide, by decide, by decide⟩,
   ⟨by decide, by decide, by decide, by decide⟩,
   ⟨by decide, by decide, by decide, by decide⟩,
   ⟨by decide, by decide, by decide, by decide, by unfold RoomFor; decide⟩⟩

theorem witness_EstopTripsAndItsEndChangesNoState :
    (live0.loader.phase ≠ .held ∧ live0.pins.estop = false ∧ live0.act.state ≠ .locked ∧ live0.act.state ≠ .tripped) ∧
    ({ run0 with act.state := .locked }.act.state = .locked ∧ { run0 with act.state := .locked }.pins.estop = false) ∧
    ({ run0 with pins.estop := true }.pins.estop = true ∧ run0.loader.phase ≠ .held) ∧
    (State.reset.loader.phase ≠ .held ∧ State.reset.loader.phase ≠ .running ∧ State.reset.pins.estop = false) ∧
    ((shuntClaiming false).loader.phase = .running ∧ (shuntClaiming false).pins.estop = false ∧ (shuntClaiming false).act.state = .locked ∧ (shuntClaiming false).alarm.latch ≠ .dump ∧ (shuntClaiming false).scan.shunt ≠ .none ∧ (shuntClaiming false).cmd.current = some { kind := .shunt, console := 28 } ∧ (shuntClaiming false).line.replyQ.length < 4 ∧ (shuntClaiming false).recs.fetchQ = [] ∧ (shuntClaiming false).cfg.excitation ≠ 0 ∧ (shuntClaiming false).line.shuntSlot = some { isDone := false, group := 3 } ∧ (shuntClaiming false).line.tx = some { cls := .shunt, bytes := [], won := false }) ∧
    ((shuntClaiming true).line.tx = some { cls := .shunt, bytes := [], won := true } ∧ { shuntClaiming true with line.shuntSlot := none }.line.shuntSlot = none ∧ { shuntClaiming true with line.shuntSlot := some { isDone := true, group := 3 } }.line.shuntSlot = some { isDone := true, group := 3 } ∧ { shuntClaiming true with cfg.excitation := 0 }.cfg.excitation = 0) :=
  ⟨⟨by decide, by decide, by decide, by decide⟩,
   ⟨by decide, by decide⟩,
   ⟨by decide, by decide⟩,
   ⟨by decide, by decide, by decide⟩,
   ⟨by decide, by decide, by decide, by decide, by decide, by decide, by decide, by decide, by decide, by decide, by decide⟩,
   ⟨by decide, by decide, by decide, by decide⟩⟩

theorem witness_FailureTimersReturnTheActuator :
    (timersDue.loader.phase = .running ∧ { timersDue with act.state := .charging }.act.state = .charging ∧ timersDue.act.chargeTimer = some 50000 ∧ 50000 ≤ timersDue.age) ∧
    ({ timersDue with act.state := .locking }.act.state = .locking ∧ timersDue.act.lockTimer = some 50000) ∧
    (timersDue.act.state = .unlockCharge ∧ timersDue.act.deadline = some 50000) ∧
    (RoomFor 1 timersDue ∧ (commandEnding .charging .charge).act.state = .charging ∧ (commandEnding .charging .charge).act.chargeTimer = some 50000 ∧ (commandEnding .charging .charge).cmd.current = some { kind := .charge, console := 28 } ∧ (commandEnding .charging .charge).recs.fetchQ = [] ∧ (commandEnding .charging .charge).line.replyQ.length < 4) ∧
    ((commandEnding .locking .lock).act.lockTimer = some 50000 ∧ (commandEnding .locking .lock).cmd.current = some { kind := .lock, console := 28 }) ∧
    ((commandEnding .unlockCharge .unlock).act.deadline = some 50000 ∧ (commandEnding .unlockCharge .unlock).cmd.current = some { kind := .unlock, console := 28 }) ∧
    (4 ≤ { commandEnding .unlockCharge .unlock with line.replyQ := List.replicate 4 demoReply }.line.replyQ.length) :=
  ⟨⟨by decide, by decide, by decide, by decide⟩,
   ⟨by decide, by decide⟩,
   ⟨by decide, by decide⟩,
   ⟨by unfold RoomFor; decide, by decide, by decide, by decide, by decide, by decide⟩,
   ⟨by decide, by decide⟩,
   ⟨by decide, by decide⟩,
   by decide⟩

theorem witness_ReleaseAndLockCheck :
    (timersDue.loader.phase = .running ∧ timersDue.act.state = .unlockCharge ∧ timersDue.act.acquisition = some 50000 ∧ 50000 ≤ timersDue.age ∧ timersDue.pins.lockEngaged = true) ∧
    ({ timersDue with pins.lockEngaged := false }.pins.lockEngaged = false) ∧
    (lockedNow.loader.phase = .running ∧ lockedNow.act.lockCheck = some 50000 ∧ 50000 ≤ lockedNow.age ∧ lockedNow.act.lockRef = some 5000 ∧ (lockedNow.servo.fMeas - 5000).natAbs ≤ lockedNow.cfg.lockBand) ∧
    (lockedNow.act.state = .locked ∧ { lockedNow with act.lockRef := some 5001 }.cfg.lockBand < ({ lockedNow with act.lockRef := some 5001 }.servo.fMeas - 5001).natAbs) ∧
    ((commandEnding .unlockCharge .unlock).act.acquisition = some 50000 ∧ (commandEnding .unlockCharge .unlock).cmd.current = some { kind := .unlock, console := 28 } ∧ (commandEnding .unlockCharge .unlock).recs.fetchQ = [] ∧ RoomFor 1 { lockedNow with act.lockRef := some 5001 }) :=
  ⟨⟨by decide, by decide, by decide, by decide, by decide⟩,
   by decide,
   ⟨by decide, by decide, by decide, by decide, by decide⟩,
   ⟨by decide, by decide⟩,
   ⟨by decide, by decide, by decide, by unfold RoomFor; decide⟩⟩

theorem witness_ScanAveragesItsSamples :
    (run0.loader.phase = .running ∧ run0.scan.timer = some 50000 ∧ 50000 ≤ run0.age ∧ { run0 with scan.runTaken := 2 }.scan.runTaken + 1 < { run0 with scan.runTaken := 2 }.scan.runLength ∧ run0.scan.zero = none ∧ run0.scan.shunt = .none ∧ run0.recs.capture = false) ∧
    ({ run0 with scan.runTaken := 3 }.scan.runLength ≤ { run0 with scan.runTaken := 3 }.scan.runTaken + 1 ∧ (channelAt 15 run0).state ≠ .disabled) ∧
    (0 < { run0 with scan.runTaken := 4 }.scan.runTaken) ∧
    (CompletesQuietly 50000 (blockFilling 8 0) ∧ (blockAt 1 (blockFilling 8 0)).state = .filling ∧ (blockFilling 8 0).age - (blockAt 1 (blockFilling 8 0)).firstAge ≤ 655350 ∧ (blockAt 1 (blockFilling 8 0)).samples < samplesOf (blockFilling 8 0) ∧ (blockAt 1 (blockFilling 8 0)).samples + 1 < samplesOf (blockFilling 8 0)) ∧
    (CompletesQuietly 50000 (blockFilling 9 0) ∧ (blockAt 1 (blockFilling 9 0)).samples < samplesOf (blockFilling 9 0) ∧ samplesOf (blockFilling 9 0) ≤ (blockAt 1 (blockFilling 9 0)).samples + 1) ∧
    (CompletesQuietly 50000 (blockFilling 8 654351) ∧ 655350 < (blockFilling 8 654351).age - (blockAt 1 (blockFilling 8 654351)).firstAge ∧ LowestFree 0 (blockFilling 8 654351) ∧ pagesRequired (blockFilling 8 654351) ≤ (blockFilling 8 654351).recs.freePages) ∧
    (CompletesQuietly 50000 { run0 with scan.runTaken := 3 } ∧ (∀ e ∈ { run0 with scan.runTaken := 3 }.recs.table, e.state ≠ .filling) ∧ LowestFree 0 { run0 with scan.runTaken := 3 } ∧ pagesRequired { run0 with scan.runTaken := 3 } ≤ { run0 with scan.runTaken := 3 }.recs.freePages) ∧
    (CompletesQuietly 50000 poolCrowded ∧ (∀ e ∈ poolCrowded.recs.table, e.state ≠ .filling) ∧ poolCrowded.recs.freePages < pagesRequired poolCrowded) :=
  ⟨⟨by decide, by decide, by decide, by decide, by decide, by decide, by decide⟩,
   ⟨by decide, by decide⟩,
   by decide,
   ⟨by unfold CompletesQuietly CommandsFlow PagesAddUp PoolCanonical; decide +kernel, by decide, by decide, by decide, by decide⟩,
   ⟨by unfold CompletesQuietly CommandsFlow PagesAddUp PoolCanonical; decide +kernel, by decide, by decide⟩,
   ⟨by unfold CompletesQuietly CommandsFlow PagesAddUp PoolCanonical; decide +kernel, by decide, by unfold LowestFree; decide, by decide⟩,
   ⟨by unfold CompletesQuietly CommandsFlow PagesAddUp PoolCanonical; decide +kernel, by decide, by unfold LowestFree; decide, by decide⟩,
   ⟨by unfold CompletesQuietly CommandsFlow PagesAddUp PoolCanonical; decide +kernel, by decide, by decide⟩⟩

theorem witness_LimitAndSettleJudgeTheAverages :
    (atLimit.loader.phase = .running ∧ (channelAt 2 atLimit).state = .ok ∧ 0 < (channelAt 2 atLimit).exceed ∧ (channelAt 2 atLimit).cause = false) ∧
    ((channelAt 3 atLimit).state = .ok ∧ 0 < (channelAt 3 atLimit).exceed ∧ (channelAt 3 atLimit).cause = true) ∧
    (settleDue.loader.phase = .running ∧ settleDue.scan.settleTimer = some 50000 ∧ 50000 ≤ settleDue.age ∧ 2 < 16 ∧ SettleChecked 2 { settleDue with scan.channels := atLimit.scan.channels } ∧ (channelAt 2 { settleDue with scan.channels := atLimit.scan.channels }).ref = none) ∧
    ((∀ c, c < 16 → SettleChecked c settleDue → HoldsStill c settleDue) ∧ timerRuns settleDue.seq.extension = false) ∧
    (timerRuns { settleDue with seq.extension := .running 60000 }.seq.extension = true ∧ inDwell settleDue = true) ∧
    ({ run0 with scan.runTaken := 3 }.scan.runLength ≤ { run0 with scan.runTaken := 3 }.scan.runTaken + 1 ∧ run0.scan.shunt = .none ∧ after (.scan (List.replicate 16 80004) 0) (exceedRun 1) (fun t => ((channelAt 2 t).latest, (channelAt 2 t).exceed, (channelAt 2 t).cause)) = some (20001, 2, false)) ∧
    (after (.scan (List.replicate 16 80004) 0) (exceedRun 2) (fun t => ((channelAt 2 t).exceed, (channelAt 2 t).cause)) = some (0, true)) ∧
    (after (.scan (List.replicate 16 80000) 0) (exceedRun 2) (fun t => ((channelAt 2 t).latest, (channelAt 2 t).exceed, (channelAt 2 t).cause)) = some (20000, 0, false)) ∧
    (RoomFor 16 (exceedRun 2) ∧ RoomFor 1 atLimit) :=
  ⟨⟨by decide, by decide, by decide, by decide⟩,
   ⟨by decide, by decide, by decide⟩,
   ⟨by decide, by decide, by decide, by decide, by unfold SettleChecked; decide, by decide⟩,
   ⟨settleDue_holds, by decide⟩,
   ⟨by decide, by decide⟩,
   ⟨by decide, by decide, by decide +kernel⟩,
   by decide +kernel,
   by decide +kernel,
   ⟨by unfold RoomFor; decide, by unfold RoomFor; decide⟩⟩

theorem witness_ZeroCollectsAndCompletes :
    ((zeroing 62).loader.phase = .running ∧ (zeroing 62).scan.timer = some 50000 ∧ 50000 ≤ (zeroing 62).age ∧ (zeroing 62).scan.runTaken + 1 < (zeroing 62).scan.runLength ∧ (zeroing 62).scan.zero = some { loadSum := 640, count := 62, vented := true } ∧ 62 + 1 < 64 ∧ (zeroing 62).seq.state = .idle ∧ (zeroing 62).servo.lam = 0 ∧ (channelAt 0 (zeroing 62)).state ≠ .disabled) ∧
    ({ zeroing 62 with servo.lam := 1 }.servo.lam ≠ 0 ∧ (zeroing 62).cmd.current = some { kind := .zero, console := 28 } ∧ (zeroing 62).line.replyQ.length < 4 ∧ (zeroing 62).scan.shunt = .none) ∧
    ((zeroing 64).loader.phase = .running ∧ (zeroing 64).scan.zero = some { loadSum := 640, count := 64, vented := true } ∧ (zeroing 64).cmd.current = some { kind := .zero, console := 28 } ∧ (zeroing 64).line.replyQ.length < 4) ∧
    ((zeroing 63).scan.timer = some 50000 ∧ (zeroing 63).scan.runTaken + 1 < (zeroing 63).scan.runLength ∧ (zeroing 63).scan.zero = some { loadSum := 640, count := 63, vented := true } ∧ (zeroing 63).scan.shunt = .none ∧ (zeroing 63).cmd.current = some { kind := .zero, console := 28 } ∧ (zeroing 63).act.state = .vented ∧ (channelAt 15 (zeroing 63)).state ≠ .disabled) :=
  ⟨⟨by decide, by decide, by decide, by decide, by decide, by decide, by decide, by decide, by decide⟩,
   ⟨by decide, by decide, by decide, by decide⟩,
   ⟨by decide, by decide, by decide, by decide⟩,
   ⟨by decide, by decide, by decide, by decide, by decide, by decide, by decide⟩⟩

theorem witness_ShuntSpansAndJudgement :
    ((shunting .before 16).loader.phase = .running ∧ (shunting .before 16).scan.shunt = .before ∧ (shunting .before 16).scan.shuntScans = 16) ∧
    ((shunting .onSettle 20).scan.shunt = .onSettle ∧ (shunting .onSettle 20).scan.shuntScans = 20) ∧
    ((shunting .on 36).scan.shunt = .on ∧ (shunting .on 36).scan.shuntScans = 36) ∧
    ((shunting .offSettle 40).scan.shunt = .offSettle ∧ (shunting .offSettle 40).scan.shuntScans = 40 ∧ (shunting .offSettle 40).cmd.current = some { kind := .shunt, console := 28 } ∧ (shunting .offSettle 40).scan.channels.length = 16 ∧ (channelAt 15 (shunting .offSettle 40)).state ≠ .disabled ∧ (channelCfg 15 (shunting .offSettle 40)).shuntStep ≠ 0 ∧ ¬ StepWithin 15 (shunting .offSettle 40)) ∧
    (StepWithin 0 { shunting .offSettle 40 with scan.channels := [{ Channel.reset with state := .ok, onSum := 163200 }] }) ∧
    ((shunting .before 15).scan.timer = some 50000 ∧ 50000 ≤ (shunting .before 15).age ∧ (shunting .before 15).scan.runTaken + 1 < (shunting .before 15).scan.runLength ∧ (shunting .before 15).scan.zero = none ∧ CommandsFlow (shunting .before 15) ∧ (shunting .before 15).scan.shuntScans = 15 ∧ (shunting .before 14).scan.shuntScans < 15) ∧
    (CommandsFlow (shunting .onSettle 19) ∧ (shunting .onSettle 19).scan.shuntScans ≤ 19) ∧
    (CommandsFlow (shunting .on 35) ∧ (shunting .on 35).scan.shuntScans = 35 ∧ (shunting .on 34).scan.shuntScans < 35) ∧
    (CommandsFlow (shunting .offSettle 38) ∧ (shunting .offSettle 38).scan.shuntScans < 39) ∧
    ((shunting .offSettle 39).scan.shuntScans = 39 ∧ (shunting .offSettle 39).scan.channels.length = 16 ∧ (shunting .offSettle 39).cmd.current = some { kind := .shunt, console := 28 }) ∧
    (RoomFor 16 (shunting .offSettle 39)) :=
  ⟨⟨by decide, by decide, by decide⟩,
   ⟨by decide, by decide⟩,
   ⟨by decide, by decide⟩,
   ⟨by decide, by decide, by decide, by decide, by decide, by decide, by unfold StepWithin; decide⟩,
   by unfold StepWithin; decide,
   ⟨by decide, by decide, by decide, by decide, by unfold CommandsFlow; decide, by decide, by decide⟩,
   ⟨by unfold CommandsFlow; decide, by decide⟩,
   ⟨by unfold CommandsFlow; decide, by decide, by decide⟩,
   ⟨by unfold CommandsFlow; decide, by decide⟩,
   ⟨by decide, by decide, by decide⟩,
   by unfold RoomFor; decide⟩

theorem witness_LoopReadingsAreDebouncedAndTaken :
    (run0.loader.phase = .running ∧ run0.crack.timer = some 50000 ∧ 50000 ≤ run0.age ∧ (List.replicate 8 LoopReading.opened).length = 8 ∧ run0.crack.loops.length = 8 ∧ (List.replicate 8 LoopReading.opened)[7]? = some .opened ∧ (loopAt 7 run0).taken ≠ some .opened ∧ candidateCount .opened (loopAt 7 run0) < debounceOf 7 run0) ∧
    (debounceOf 3 loopsMoving ≤ candidateCount .opened (loopAt 3 loopsMoving) ∧ (loopAt 3 loopsMoving).taken ≠ some .opened) ∧
    (hitsAged.crack.inputs.length = 4 ∧ after (.loopScan (List.replicate 8 .intact)) hitsAged (fun t => ((aeAt 1 t).hits, (aeAt 1 t).band, decide (Cause.ae 1 ∈ t.alarm.causes))) = some ([49001], .normal, false)) ∧
    (after (.loopScan (List.replicate 8 .intact)) hitsAged (fun t => decide (aeAt 0 t = aeAt 0 hitsAged)) = some true) ∧
    ((loopAt 2 loopsMoving).candidate = none) ∧
    ((∃ r n, (loopAt 6 loopsMoving).candidate = some (r, n) ∧ n + 1 < debounceOf 6 loopsMoving)) ∧
    ((loopAt 4 loopsMoving).state = .intact ∧ (loopAt 4 loopsMoving).candidate = some (.opened, 2) ∧ debounceOf 4 loopsMoving ≤ 2 + 1 ∧ loopsMoving.crack.entries.length = 8 ∧ 4 < 8) ∧
    ((loopAt 5 loopsMoving).state = .broken ∧ (loopAt 5 loopsMoving).candidate = some (.intact, 2) ∧ debounceOf 5 loopsMoving ≤ 2 + 1) ∧
    (RoomFor 8 loopsMoving ∧ (loopAt 3 loopsMoving).state = .intact ∧ FaultReading .intact .shorted ∧ FaultReading .accepted .intact) ∧
    (FaultReading (loopAt 5 loopsMoving).state .intact ∧ (loopAt 5 loopsMoving).candidate = some (.intact, 2) ∧ RoomFor 1 loopsMoving) :=
  ⟨⟨by decide, by decide, by decide, by decide, by decide, by decide, by decide, by decide⟩,
   ⟨by decide, by decide⟩,
   ⟨by decide, by decide⟩,
   by decide,
   by decide,
   ⟨.opened, 1, by decide, by decide⟩,
   ⟨by decide, by decide, by decide, by decide, by decide⟩,
   ⟨by decide, by decide, by decide⟩,
   ⟨by unfold RoomFor; decide, by decide, by unfold FaultReading; decide, by unfold FaultReading; decide⟩,
   ⟨by unfold FaultReading; decide, by decide, by unfold RoomFor; decide⟩⟩

theorem witness_HitsAreMergedOrAccepted :
    (hitsMade.loader.phase = .running ∧ (aeAt 1 hitsMade).dead = some 50000 ∧ hitsMade.age ≤ 50000) ∧
    (hitsMade.crack.timer ≠ none ∧ 3 < hitsMade.crack.inputs.length ∧ (aeAt 3 hitsMade).dead = none ∧ (aeAt 3 hitsMade).band = .normal) ∧
    ((aeAt 2 hitsMade).dead = some 49999 ∧ 49999 ≤ hitsMade.age ∧ 49999 < hitsMade.age) :=
  ⟨⟨by decide, by decide, by decide⟩,
   ⟨by decide, by decide, by decide, by decide⟩,
   ⟨by decide, by decide, by decide⟩⟩

theorem witness_FetchFollowsItsTable :
    (Taken (demoHead 3) 3 run0 ∧ (63 < 64 ∧ 64 ≠ 255) ∧ 60000 < 60001) ∧
    ((blockAt 63 run0).state = .free) ∧
    ((blockAt 1 threeBlocks).state = .filling ∧ (blockAt 3 threeBlocks).state = .sending ∧ threeBlocks.recs.sending ≠ none ∧ (blockAt 2 (withBlock 2 .sealed run0)).state = .sealed ∧ (withBlock 2 .sealed run0).recs.sending = none ∧ (withBlock 2 .sealed run0).recs.sealedQ = [2]) ∧
    (run0.recs.sending = none ∧ run0.recs.sealedQ = [] ∧ run0.recs.fetchQ.length < 4 ∧ 0 < 1) ∧
    (4 ≤ { run0 with recs.fetchQ := List.replicate 4 { console := 28, expiry := 60000, joinedSending := false } }.recs.fetchQ.length) :=
  ⟨⟨by unfold Taken; decide, by decide, by decide⟩,
   by decide,
   ⟨by decide, by decide, by decide, by decide, by decide, by decide⟩,
   ⟨by decide, by decide, by decide, by decide⟩,
   by decide⟩

theorem witness_FreeGivesTheBlockBack :
    (Taken (demoHead 1) 1 threeBlocks ∧ 63 < 64) ∧
    ((blockAt 63 threeBlocks).state = .free) ∧
    ((blockAt 1 threeBlocks).state = .filling) ∧
    ((blockAt 2 threeBlocks).state = .sealed) :=
  ⟨⟨by unfold Taken; decide, by decide⟩,
   by decide,
   by decide,
   by decide⟩

theorem witness_CutSealsAndCapturesEnd :
    (Taken (demoHead 0) 0 run0 ∧ (∀ e ∈ run0.recs.table, e.state ≠ .filling)) ∧
    (Taken (demoHead 0) 0 threeBlocks ∧ PagesAddUp threeBlocks ∧ PoolCanonical threeBlocks ∧ 1 ≤ threeBlocks.cfg.blockPages ∧ (blockAt 1 threeBlocks).state = .filling ∧ threeBlocks.recs.fetchQ = []) ∧
    ({ run0 with recs.capture := true }.recs.capture = true) ∧
    (twoRequests.recs.fetchQ = [{ console := 28, expiry := 50001, joinedSending := false }] ++ { console := 29, expiry := 50000, joinedSending := false } :: [] ∧ 50000 ≤ twoRequests.age ∧ twoRequests.recs.sending = none ∧ twoRequests.line.replyQ.length < 4) ∧
    (Taken (demoHead 0) 0 cutServed ∧ PagesAddUp cutServed ∧ BlocksMatch cutServed ∧ (blockAt 1 cutServed).state = .filling ∧ cutServed.recs.fetchQ = [demoFetch 60000] ∧ cutServed.recs.sending = none ∧ (cutServed.recs.sealedQ ++ [1]).head? = some 1 ∧ cutServed.line.replyQ.length < 3) ∧
    (BlocksMatch { threeBlocks with recs.fetchQ := [demoFetch 60000] } ∧ PagesAddUp { threeBlocks with recs.fetchQ := [demoFetch 60000] } ∧ { threeBlocks with recs.fetchQ := [demoFetch 60000] }.recs.sending ≠ none) ∧
    ({ threeBlocks with recs.fetchQ := [demoFetch 50000, { demoFetch 50001 with joinedSending := false }] }.recs.sending ≠ none ∧ (∀ q ∈ { threeBlocks with recs.fetchQ := [demoFetch 50000, { demoFetch 50001 with joinedSending := false }] }.recs.fetchQ, q.joinedSending = true ∨ 50000 < q.expiry) ∧ threeBlocks.age = 50000) ∧
    ({ threeBlocks with recs.fetchQ := [demoFetch 0, { demoFetch 50000 with joinedSending := false }] }.recs.fetchQ = [demoFetch 0] ++ { demoFetch 50000 with joinedSending := false } :: [] ∧ { demoFetch 50000 with joinedSending := false }.joinedSending = false ∧ (demoFetch 0).joinedSending = true) :=
  ⟨⟨by unfold Taken; decide, by decide⟩,
   ⟨by unfold Taken; decide, by unfold PagesAddUp; decide, by unfold PoolCanonical; decide, by decide, by decide, by decide⟩,
   by decide,
   ⟨by decide, by decide, by decide, by decide⟩,
   ⟨by unfold Taken; decide, by unfold PagesAddUp; decide, by unfold BlocksMatch; decide, by decide, by decide, by decide, by decide, by decide⟩,
   ⟨by unfold BlocksMatch; decide, by unfold PagesAddUp; decide, by decide⟩,
   ⟨by decide, by decide, by decide⟩,
   ⟨by decide, by decide, by decide⟩⟩

theorem witness_CommandFormIsJudgedFirst :
    (telegramOf (.run (demoHead 0)) = some (demoHead 0, 0x42) ∧ CommandsFlow run0 ∧ RowOfItsOwn (.run (demoHead 0))) ∧
    (¬ Answerable { demoHead 0 with dest := 6 } run0 ∧ telegramOf (.run { demoHead 0 with dest := 6 }) = some ({ demoHead 0 with dest := 6 }, 0x42)) ∧
    (Answerable (demoHead 1) run0 ∧ commandLength 0x42 = some 0 ∧ (demoHead 1).len ≠ 0) ∧
    (0x53 < 0x54) ∧
    (Taken (demoHead 2) 2 run0 ∧ 4 < 5) ∧
    (CommandsFlow { run0 with loader.phase := .configFault } ∧ { run0 with loader.phase := .configFault }.loader.phase = .configFault ∧ 1 ≤ ownStation run0 ∧ ownStation run0 ≤ 27 ∧ Answerable (demoHead 0) { run0 with loader.phase := .configFault }) :=
  ⟨⟨by decide, by unfold CommandsFlow; decide, by simp [RowOfItsOwn]⟩,
   ⟨by unfold Answerable; decide, by decide⟩,
   ⟨by unfold Answerable; decide, by decide, by decide⟩,
   by decide,
   ⟨by unfold Taken; decide, by decide⟩,
   ⟨by unfold CommandsFlow; decide, by decide, by decide, by decide, by unfold Answerable; decide⟩⟩

theorem witness_ProgramAndClearprogEditTheTable :
    (Taken (demoHead 13) 13 run0 ∧ (31 < 32)) ∧
    (demoRequest.index ≤ 31 ∧ 0 < demoRequest.rate ∧ demoRequest.settle ≤ 1 ∧ demoRequest.loopTo ≤ demoRequest.index ∧ 0 < demoRequest.loopCount ∧ ¬ (run0.seq.state = .run ∧ run0.seq.phase = some .done)) ∧
    (Taken (demoHead 0) 0 run0 ∧ (run0.seq.state = .idle ∨ run0.seq.state = .ended)) ∧
    (Taken (demoHead 0) 0 ramp0 ∧ (ramp0.seq.state = .run ∨ ramp0.seq.state = .held ∨ ramp0.seq.state = .unloading)) :=
  ⟨⟨by unfold Taken; decide, by decide⟩,
   ⟨by decide, by decide, by decide, by decide, by decide, by decide⟩,
   ⟨by unfold Taken; decide, by decide⟩,
   ⟨by unfold Taken; decide, by decide⟩⟩

theorem witness_RunIsJudgedInOrder :
    (Taken (demoHead 0) 0 ramp0 ∧ RunRefusedFor ramp0 .state) ∧
    (Taken (demoHead 0) 0 run0 ∧ RunRefusedFor run0 .actuator) ∧
    (Taken (demoHead 0) 0 readyToRun ∧ (readyToRun.seq.state = .idle ∨ readyToRun.seq.state = .ended) ∧ readyToRun.act.state = .live ∧ ValidProgram 1 readyToRun ∧ readyToRun.peers.memberAbsent = false ∧ DigestsAgree readyToRun ∧ readyToRun.alarm.latch = .none ∧ readyToRun.seq.table.getD 0 none = some demoSegment) ∧
    (RunRefusedFor otherDigests .programMismatch ∧ Taken (demoHead 0) 0 otherDigests) :=
  ⟨⟨by unfold Taken; decide, by simp only [RunRefusedFor]; decide⟩,
   ⟨by unfold Taken; decide, by simp only [RunRefusedFor]; decide⟩,
   ⟨by unfold Taken; decide, by decide, by decide, readyToRun_valid, by decide, digestsAgree_of_equal (by decide +kernel), by decide, by decide⟩,
   ⟨⟨by decide, by decide, ⟨1, readyToRun_valid⟩, by decide, fun h => absurd (h 6 (by unfold PresentMember; decide)) (by decide +kernel)⟩, by unfold Taken; decide⟩⟩

theorem witness_ConsoleRaisesTheLatch :
    (Taken (demoHead 0) 0 { run0 with alarm.latch := .unload } ∧ latchAtLeast { run0 with alarm.latch := .unload }.alarm.latch .hold = true ∧ latchAtLeast { run0 with alarm.latch := .unload }.alarm.latch .unload = true) ∧
    (Taken (demoHead 0) 0 ramp0 ∧ latchAtLeast ramp0.alarm.latch .hold = false ∧ latchAtLeast ramp0.alarm.latch .unload = false) ∧
    (ramp0.seq.state = .run ∧ ramp0.act.state = .live ∧ lockedNow.act.state ≠ .live ∧ Taken (demoHead 0) 0 lockedNow) :=
  ⟨⟨by unfold Taken; decide, by decide, by decide⟩,
   ⟨by unfold Taken; decide, by decide, by decide⟩,
   ⟨by decide, by decide, by decide, by unfold Taken; decide⟩⟩

theorem witness_ResumeLowersTheLatch :
    (Taken (demoHead 0) 0 heldDwell ∧ CommandsFlow heldDwell ∧ resumeReason heldDwell = none ∧ heldDwell.seq.state = .held ∧ heldDwell.act.state = .live ∧ heldDwell.seq.phase = some .dwell ∧ heldDwell.seq.extensionUsed = false ∧ heldDwell.seq.hold = .paused 40 ∧ 0 < 40) ∧
    (resumeReason { heldDwell with alarm.causes := [.estop] } = some .causePresent) ∧
    ({ heldDwell with seq.phase := some .ramp }.seq.phase = some .ramp) ∧
    (¬ (run0.seq.state = .held ∧ run0.act.state = .live) ∧ resumeReason run0 = none ∧ CommandsFlow run0 ∧ Taken (demoHead 0) 0 run0) ∧
    ((heldReturn true 2 .stopped (.paused 30)).seq.extensionUsed = true ∧ (heldReturn true 2 .stopped (.paused 30)).seq.extension = .paused 30 ∧ resumeReason (heldReturn true 2 .stopped (.paused 30)) = none ∧ CommandsFlow (heldReturn true 2 .stopped (.paused 30)) ∧ Taken (demoHead 0) 0 (heldReturn true 2 .stopped (.paused 30)) ∧ 0 < 30) ∧
    ((heldReturn true 2 .stopped .stopped).seq.extension = .stopped ∧ resumeReason (heldReturn true 2 .stopped .stopped) = none) ∧
    ((heldReturn true 2 .stopped (.paused 0)).seq.extension = .paused 0 ∧ (heldReturn true 2 .stopped (.paused 0)).cfg.noSettleAction ≠ .none ∧ resumeReason (heldReturn true 2 .stopped (.paused 0)) = none) ∧
    ((heldReturn false 0 (.paused 0) .stopped).seq.hold = .paused 0 ∧ (heldReturn false 0 (.paused 0) .stopped).seq.work = some { demoWork with extension := 0 } ∧ { demoWork with extension := 0 }.settle = true ∧ resumeReason (heldReturn false 0 (.paused 0) .stopped) = none) ∧
    ((heldReturn false 2 (.paused 0) .stopped).seq.work = some { demoWork with extension := 2 } ∧ 0 < { demoWork with extension := 2 }.extension) ∧
    ({ heldReturn false 2 (.paused 0) .stopped with seq.work := some { demoWork with settle := false } }.seq.work = some { demoWork with settle := false } ∧ { demoWork with settle := false }.settle = false) ∧
    (heldDone.seq.state = .held ∧ heldDone.act.state = .live ∧ heldDone.seq.phase = some .done ∧ heldDone.seq.choice = some 0 ∧ heldDone.seq.table.getD 0 none = some demoSegment ∧ resumeReason heldDone = none ∧ CommandsFlow heldDone ∧ Taken (demoHead 0) 0 heldDone) :=
  ⟨⟨by unfold Taken; decide, by unfold CommandsFlow; decide, by decide, by decide, by decide, by decide, by decide, by decide, by decide⟩,
   by decide,
   by decide,
   ⟨by decide, by decide, by unfold CommandsFlow; decide, by unfold Taken; decide⟩,
   ⟨by decide, by decide, by decide, by unfold CommandsFlow; decide, by unfold Taken; decide, by decide⟩,
   ⟨by decide, by decide⟩,
   ⟨by decide, by decide, by decide⟩,
   ⟨by decide, by decide, by decide, by decide⟩,
   ⟨by decide, by decide⟩,
   ⟨by decide, by decide⟩,
   ⟨by decide, by decide, by decide, by decide, by decide, by decide, by unfold CommandsFlow; decide, by unfold Taken; decide⟩⟩

theorem witness_ImmediateCommandsAnswerInTheirEvent :
    (Taken (demoHead 4) 4 run0 ∧ 1 < 2 ∧ (∃ a ∈ oneRecord.alarm.records, a.source = 6 ∧ kindCode a.kind = 0x0C ∧ a.channel = 4) ∧ (∀ a ∈ oneRecord.alarm.records, ¬ (a.source = 7 ∧ kindCode a.kind = 0x0C ∧ a.channel = 4)) ∧ Taken (demoHead 4) 4 oneRecord) ∧
    (Taken (demoHead 1) 1 loopsMoving ∧ 7 < 8 ∧ 7 ≤ 7 ∧ (loopAt 7 loopsMoving).state ≠ .broken ∧ (loopAt 5 loopsMoving).state = .broken) ∧
    (Taken (demoHead 2) 2 run0 ∧ 1 ≤ 1 ∧ 27 ≤ 27 ∧ 27 < 28) :=
  ⟨⟨by unfold Taken; decide, by decide, by decide, by decide, by unfold Taken; decide⟩,
   ⟨by unfold Taken; decide, by decide, by decide, by decide, by decide⟩,
   ⟨by unfold Taken; decide, by decide, by decide, by decide⟩⟩

theorem witness_QueuedCommandsStartInOrder :
    (queuedOf (.lock (demoHead 0)) = some (demoHead 0, .lock) ∧ Taken (demoHead 0) 0 run0 ∧ run0.cmd.queue.length < 8) ∧
    (8 ≤ { run0 with cmd.queue := List.replicate 8 { kind := .vent, console := 28 } }.cmd.queue.length) ∧
    (run0.cmd.queue = []) ∧
    ({ run0 with cmd.queue := [{ kind := .vent, console := 28 }] }.cmd.queue = { kind := .vent, console := 28 } :: [] ∧ run0.cmd.current = none ∧ run0.loader.phase = .running) :=
  ⟨⟨by decide, by unfold Taken; decide, by decide⟩,
   by decide,
   by decide,
   ⟨by decide, by decide, by decide⟩⟩

theorem witness_ChargeAndUnlockWaitForTheWindow :
    (Taken (demoHead 0) 0 run0 ∧ QueueIdle run0 ∧ NoOwnCharge run0 ∧ run0.act.state = .vented ∧ run0.alarm.latch ≠ .dump ∧ run0.line.chargeSlot = none) ∧
    (Taken (demoHead 0) 0 lockedNow ∧ QueueIdle lockedNow ∧ NoOwnCharge lockedNow ∧ lockedNow.act.state = .locked ∧ lockedNow.pins.estop = false ∧ lockedNow.alarm.latch ≠ .dump ∧ lockedNow.line.chargeSlot = none) ∧
    ({ run0 with act.state := .tripped }.act.state = .tripped ∧ { run0 with alarm.latch := .dump }.alarm.latch = .dump ∧ { lockedNow with pins.estop := true }.pins.estop = true) :=
  ⟨⟨by unfold Taken; decide, by unfold QueueIdle; decide, by unfold NoOwnCharge; decide, by decide, by decide, by decide⟩,
   ⟨by unfold Taken; decide, by unfold QueueIdle; decide, by unfold NoOwnCharge; decide, by decide, by decide, by decide, by decide⟩,
   ⟨by decide, by decide, by decide⟩⟩

theorem witness_VentLockAndCleartripChangeState :
    (Taken (demoHead 0) 0 live0 ∧ QueueIdle live0 ∧ live0.act.state = .live ∧ live0.servo.lam = 0 ∧ (live0.seq.state = .idle ∨ live0.seq.state = .ended) ∧ live0.seq.state ≠ .run ∧ live0.seq.state ≠ .unloading ∧ live0.pins.lockEngaged = false) ∧
    (QueueIdle { run0 with act.state := .tripped } ∧ { run0 with act.state := .tripped }.act.state = .tripped ∧ { run0 with act.state := .tripped }.pins.estop = false ∧ { run0 with act.state := .tripped, pins.estop := true }.pins.estop = true) ∧
    (Taken (demoHead 0) 0 dwell0 ∧ QueueIdle dwell0 ∧ dwell0.act.state = .live ∧ dwell0.seq.state = .run ∧ dwell0.seq.phase ≠ some .ramp ∧ dwell0.pins.lockEngaged = false) ∧
    (ramp0.seq.phase = some .ramp ∧ ramp0.servo.lam ≠ 0) :=
  ⟨⟨by unfold Taken; decide, by unfold QueueIdle; decide, by decide, by decide, by decide, by decide, by decide, by decide⟩,
   ⟨by unfold QueueIdle; decide, by decide, by decide, by decide⟩,
   ⟨by unfold Taken; decide, by unfold QueueIdle; decide, by decide, by decide, by decide, by decide⟩,
   ⟨by decide, by decide⟩⟩

theorem witness_ZeroAndShuntBegin :
    (Taken (demoHead 0) 0 run0 ∧ QueueIdle run0 ∧ run0.seq.state = .idle ∧ run0.servo.lam = 0 ∧ run0.cfg.excitation ≠ 0 ∧ run0.line.shuntSlot = none) ∧
    (Taken (demoHead 0) 0 ramp0 ∧ QueueIdle ramp0 ∧ ramp0.seq.state ≠ .idle ∧ ramp0.seq.state ≠ .held ∧ ramp0.servo.lam ≠ 0) ∧
    ({ run0 with cfg.excitation := 0 }.cfg.excitation = 0 ∧ doneOffered.line.shuntSlot ≠ none) :=
  ⟨⟨by unfold Taken; decide, by unfold QueueIdle; decide, by decide, by decide, by decide, by decide⟩,
   ⟨by unfold Taken; decide, by unfold QueueIdle; decide, by decide, by decide, by decide⟩,
   ⟨by decide, by decide⟩⟩

theorem witness_StepKeepsLevelsAndDriveInBounds :
    (LevelBounded stepped ∧ (∃ t, step stepped = .next t)) ∧
    (DriveBounded stepped ∧ (∃ t, step stepped = .next t)) :=
  ⟨⟨by unfold LevelBounded; decide, ⟨_, rfl⟩⟩,
   ⟨by unfold DriveBounded; decide, ⟨_, rfl⟩⟩⟩

theorem witness_StepKeepsLinesAndEstop :
    (LinesFollow stepped ∧ (∃ t, step stepped = .next t)) ∧
    (EstopHeld stepped ∧ (∃ t, step stepped = .next t)) :=
  ⟨⟨by unfold LinesFollow; decide, ⟨_, rfl⟩⟩,
   ⟨by unfold EstopHeld; decide, ⟨_, rfl⟩⟩⟩

theorem witness_StepKeepsAlarmList :
    (AlarmListOk stepped ∧ (∃ t, step stepped = .next t)) :=
  ⟨by unfold AlarmListOk; decide, ⟨_, rfl⟩⟩

theorem witness_StepKeepsRecordMemory :
    (PagesAddUp stepped ∧ BlocksMatch stepped ∧ PoolCanonical stepped ∧ (∃ t, step stepped = .next t)) :=
  ⟨by unfold PagesAddUp; decide, by unfold BlocksMatch; decide, by unfold PoolCanonical; decide, ⟨_, rfl⟩⟩

theorem witness_SealedBlockKeepsItsBytes :
    (PagesAddUp threeBlocks ∧ BlocksMatch threeBlocks ∧ HoldsRecord 2 threeBlocks ∧ (∃ t, exec (.cut (demoHead 0)) threeBlocks = .next t)) :=
  ⟨by unfold PagesAddUp; decide, by unfold BlocksMatch; decide, by unfold HoldsRecord; decide, ⟨_, rfl⟩⟩

theorem witness_StepKeepsShuntGuarded :
    (ShuntGuarded stepped ∧ (∃ t, step stepped = .next t)) :=
  ⟨by unfold ShuntGuarded; decide, ⟨_, rfl⟩⟩

theorem witness_CrackEntryIsKeptToTheStart :
    (CrackKept crackedLoop ∧ (∃ t, exec (.loopReadingTaken 4) crackedLoop = .next t) ∧ 4 < 8 ∧ crackedLoop.crack.entries.getD 4 none = some demoEntry ∧ ¬ IsStart (.loopReadingTaken 4)) ∧
    (CrackKept stepped ∧ (∃ t, step stepped = .next t)) :=
  ⟨⟨by unfold CrackKept; decide, ⟨_, rfl⟩, by decide, by decide, by simp [IsStart]⟩,
   ⟨by unfold CrackKept; decide, ⟨_, rfl⟩⟩⟩

theorem witness_LatchFallsOnlyAtResume :
    (after (.resume (demoHead 0)) heldDwell (fun t => decide (latchCode t.alarm.latch < latchCode heldDwell.alarm.latch)) = some true) ∧
    (RunNeedsLive stepped ∧ (∃ t, step stepped = .next t)) ∧
    (LatchHolds stepped ∧ (∃ t, step stepped = .next t)) :=
  ⟨by decide,
   ⟨by unfold RunNeedsLive; decide, ⟨_, rfl⟩⟩,
   ⟨by unfold LatchHolds; decide, ⟨_, rfl⟩⟩⟩

theorem witness_StepKeepsTimersAndQueues :
    (DwellTimers stepped ∧ (∃ t, step stepped = .next t)) ∧
    (SettleInDwell stepped ∧ (∃ t, step stepped = .next t)) ∧
    (QueuesBounded stepped ∧ (∃ t, step stepped = .next t)) ∧
    (CommandsFlow stepped ∧ (∃ t, step stepped = .next t)) ∧
    (TakeMatches stepped ∧ (∃ t, step stepped = .next t)) :=
  ⟨⟨by unfold DwellTimers; decide, ⟨_, rfl⟩⟩,
   ⟨by unfold SettleInDwell; decide, ⟨_, rfl⟩⟩,
   ⟨by unfold QueuesBounded; decide, ⟨_, rfl⟩⟩,
   ⟨by unfold CommandsFlow; decide, ⟨_, rfl⟩⟩,
   ⟨by unfold TakeMatches; decide, ⟨_, rfl⟩⟩⟩

theorem witness_OnlyTheOwnersChangeTheirState :
    ((∃ t, exec .estopActive ramp0 = .next t) ∧ ¬ IsStart .estopActive) ∧
    (Instr.estopActive ≠ .chargeOwnCompletion ∧ Instr.estopActive ≠ .unlockDeadlineExpiry) :=
  ⟨⟨⟨_, rfl⟩, by simp [IsStart]⟩,
   ⟨by decide, by decide⟩⟩

end Sys2Proof.Machine
end

/-! The levels of the load group (section 2.4, R23): which they are, and that λ_floor and λ_ceiling are the least and
the greatest of them. -/
namespace Sys2Proof.Machine

open Sys2Proof

/-! ### The peers the load group is made of -/

/-- The search of `otherMembers` over the numbers below 28 leaves no member out: members are frame stations. -/
theorem mem_otherMembers {n : Nat} {s : State} :
    n ∈ otherMembers s ↔ isMember n s = true ∧ n ≠ ownStation s := by
  have below_28 (h : isMember n s = true) : n < 28 := by
    simp only [isMember, isFrameStation, Bool.and_eq_true, decide_eq_true_eq] at h
    omega
  simp only [otherMembers, List.mem_filter, List.mem_range, Bool.and_eq_true, bne_iff_ne]
  exact and_iff_right_of_imp fun h => below_28 h.1

theorem mem_presentPeers {p : PeerRecord} {s : State} :
    p ∈ presentPeers s ↔
      ∃ n, isMember n s = true ∧ n ≠ ownStation s ∧ (peerAt n s).present = true ∧ peerAt n s = p := by
  simp only [presentPeers, List.mem_filter, List.mem_map, mem_otherMembers]
  constructor
  · rintro ⟨⟨n, ⟨hmember, hother⟩, rfl⟩, hpresent⟩
    exact ⟨n, hmember, hother, hpresent, rfl⟩
  · rintro ⟨n, hmember, hother, hpresent, rfl⟩
    exact ⟨⟨n, ⟨hmember, hother⟩, rfl⟩, hpresent⟩

theorem mem_peerLevels {l : Nat} {s : State} :
    l ∈ peerLevels s ↔
      ∃ n, isMember n s = true ∧ n ≠ ownStation s ∧ (peerAt n s).present = true ∧
        (peerAt n s).actuator ≠ .tripped ∧ (peerAt n s).lam = l := by
  simp only [peerLevels, List.mem_map, List.mem_filter, mem_presentPeers, decide_eq_true_eq]
  constructor
  · rintro ⟨_, ⟨⟨n, hmember, hother, hpresent, rfl⟩, hactuator⟩, hlam⟩
    exact ⟨n, hmember, hother, hpresent, hactuator, hlam⟩
  · rintro ⟨n, hmember, hother, hpresent, hactuator, hlam⟩
    exact ⟨_, ⟨⟨n, hmember, hother, hpresent, rfl⟩, hactuator⟩, hlam⟩

/-! ### Least and greatest of the own level and the peers' -/

/-- The fold of `lambdaFloor` is the library's `min?` of the own level put in front of the peers'. -/
theorem lambdaFloor_least (s : State) :
    lambdaFloor s ∈ s.servo.lam :: peerLevels s ∧ ∀ l ∈ s.servo.lam :: peerLevels s, lambdaFloor s ≤ l :=
  List.min?_eq_some_iff.mp List.min?_cons'

/-- As `lambdaFloor_least`, with `max?`. -/
theorem lambdaCeiling_greatest (s : State) :
    lambdaCeiling s ∈ s.servo.lam :: peerLevels s ∧ ∀ l ∈ s.servo.lam :: peerLevels s, l ≤ lambdaCeiling s :=
  List.max?_eq_some_iff.mp List.max?_cons'

/-- Settles O22: each of the two is a bound of the levels of R23 and one of them, read through `mem_peerLevels`. -/
theorem floorAndCeilingBoundTheGroup : Obligations.FloorAndCeilingBoundTheGroup := by
  intro s
  obtain ⟨floor_mem, floor_le⟩ := lambdaFloor_least s
  obtain ⟨ceiling_mem, le_ceiling⟩ := lambdaCeiling_greatest s
  have own : s.servo.lam ∈ s.servo.lam :: peerLevels s := List.mem_cons_self
  refine ⟨floor_le _ own, le_ceiling _ own, ?bounds, ?floor, ?ceiling⟩
  case bounds =>
    intro n hmember hother hpresent hactuator
    have peer : (peerAt n s).lam ∈ s.servo.lam :: peerLevels s :=
      List.mem_cons_of_mem _ (mem_peerLevels.mpr ⟨n, hmember, hother, hpresent, hactuator, rfl⟩)
    exact ⟨floor_le _ peer, le_ceiling _ peer⟩
  case floor => exact (List.mem_cons.mp floor_mem).imp_right mem_peerLevels.mp
  case ceiling => exact (List.mem_cons.mp ceiling_mem).imp_right mem_peerLevels.mp

end Sys2Proof.Machine

/-! The load program (sections 3.1 and 3.2) and RUN (section 3.4): how PROGRAM and CLEARPROG edit the segment table, and
in which order RUN is judged. -/
namespace Sys2Proof.Machine

open Sys2Proof

/-! ### A console command that is taken -/

theorem takeCommand_of_taken {head : CommandHead} {code len : Nat} {owner : State → State} {s : State}
    (h : Taken head len s) (hlen : commandLength code = some len) : takeCommand head code owner s = owner s := by
  obtain ⟨hphase, hconsole, hdest, hroom, hheld, hlength⟩ := h
  have here : addressedHere head s = true := by
    simpa [addressedHere, isConsole] using ⟨hconsole, hdest⟩
  have room : replyRoom s = true := by
    simp [replyRoom, Config.replyQueueSize, hroom, hheld]
  simp [takeCommand, judgeForm, here, room, hphase, hlen, hlength]

theorem exec_program {head : CommandHead} {q : SegmentRequest} {s : State} (h : Taken head 13 s) :
    exec (.program head q) s = .next (programRequest head q s) :=
  congrArg _ (takeCommand_of_taken h rfl)

theorem exec_clearprog {head : CommandHead} {s : State} (h : Taken head 0 s) :
    exec (.clearprog head) s = .next (clearprogRequest head s) :=
  congrArg _ (takeCommand_of_taken h rfl)

theorem exec_run {head : CommandHead} {s : State} (h : Taken head 0 s) :
    exec (.run head) s = .next (runRequest head s) :=
  congrArg _ (takeCommand_of_taken h rfl)

/-! ### Events and replies that only grow (R11, R13)

A seal may serve a waiting FETCH and so place a REPLY behind the one of the command; it takes none out. -/

/-- From `s` to `t` no event leaves the events-since-STATUS set and no REPLY its queue. -/
structure LineGrows (s t : State) : Prop where
  events : ∀ bit, HasEvent bit s → HasEvent bit t
  replies : s.line.replyQ <+: t.line.replyQ

theorem LineGrows.of_line_eq {s t : State} (h : t.line = s.line) : LineGrows s t :=
  ⟨fun _ he => by rwa [HasEvent, h], by rw [h]⟩

theorem LineGrows.refl (s : State) : LineGrows s s :=
  .of_line_eq rfl

theorem LineGrows.trans {s t u : State} (hst : LineGrows s t) (htu : LineGrows t u) : LineGrows s u :=
  ⟨fun bit h => htu.events bit (hst.events bit h), hst.replies.trans htu.replies⟩

/-- What an operation appends to the REPLY queue stands behind what a command has answered before it. -/
theorem LineGrows.replies_append {s t : State} {before : List Reply} {r : Reply} (h : LineGrows s t)
    (hs : s.line.replyQ = before ++ [r]) : ∃ more, t.line.replyQ = before ++ r :: more := by
  obtain ⟨more, hmore⟩ := h.replies
  exact ⟨more, by rw [← hmore, hs, List.append_assoc, List.singleton_append]⟩

theorem setEvent_lineGrows (e : Event) (s : State) : LineGrows s (setEvent e s) where
  events bit h := by
    rw [HasEvent, setEvent_events, BitVec.getLsbD_or, show s.line.events.getLsbD bit = true from h, Bool.true_or]
  replies := by simp

theorem placeLateReply_lineGrows (r : Reply) (s : State) : LineGrows s (placeLateReply r s) where
  events := by simp [HasEvent]
  replies := by unfold placeLateReply; split <;> simp

theorem startSending_lineGrows (block console : Nat) (s : State) : LineGrows s (startSending block console s) :=
  ⟨by simp [HasEvent], by simp⟩

theorem serveFetch_lineGrows (s : State) : LineGrows s (serveFetch s) := by
  unfold serveFetch
  split
  case h_1 r rest _ _ _ =>
    have taken : LineGrows s { s with recs.fetchQ := rest } := .of_line_eq rfl
    exact taken.trans ((placeLateReply_lineGrows _ _).trans (startSending_lineGrows _ r.console _))
  case h_2 => exact .refl s

theorem sealBlock_lineGrows (cause : SealCause) (kind : Option AlarmKind) (s : State) :
    LineGrows s (sealBlock cause kind s) := by
  unfold sealBlock
  split
  case h_1 => exact .refl s
  case h_2 =>
    refine LineGrows.trans ?_ ((setEvent_lineGrows .blockSealed _).trans (serveFetch_lineGrows _))
    exact .of_line_eq rfl

theorem setSequencer_lineGrows (q : Sequencer) (s : State) : LineGrows s (setSequencer q s) := by
  have taken : LineGrows s { s with seq := q } := .of_line_eq rfl
  unfold setSequencer
  split
  case isTrue => exact taken
  case isFalse => exact taken.trans (sealBlock_lineGrows .phase none _)

theorem enterSegment_lineGrows (i : Nat) (s : State) : LineGrows s (enterSegment i s) := by
  unfold enterSegment
  split
  case h_1 => exact .refl s
  case h_2 => split <;> exact setSequencer_lineGrows _ s

theorem watchMismatch_lineGrows (s : State) : LineGrows s (watchMismatch s) :=
  ⟨by simp [HasEvent], by simp⟩

theorem askGate_lineGrows (s : State) : LineGrows s (askGate s) := by
  unfold askGate
  split
  case isFalse => exact .refl s
  case isTrue =>
    split
    case h_1 => exact .refl s
    case h_2 choice _ =>
      dsimp only
      split
      · exact (watchMismatch_lineGrows s).trans (enterSegment_lineGrows choice _)
      · exact watchMismatch_lineGrows s

/-! ### The peer table's digest answer (R26) -/

theorem presentMember_iff {n : Nat} {s : State} :
    PresentMember n s ↔ isMember n s = true ∧ n ≠ ownStation s ∧ (peerAt n s).present = true := by
  have range_of_member (h : isMember n s = true) : 1 ≤ n ∧ n ≤ 27 := by
    simp only [isMember, isFrameStation, Bool.and_eq_true, decide_eq_true_eq] at h
    exact h.1
  constructor
  · rintro ⟨-, -, hother, hmember, hpresent⟩
    exact ⟨hmember, hother, hpresent⟩
  · rintro ⟨hmember, hother, hpresent⟩
    obtain ⟨hlow, hhigh⟩ := range_of_member hmember
    exact ⟨hlow, hhigh, hother, hmember, hpresent⟩

theorem digestAnswer_eq_true_iff {s : State} : digestAnswer s = true ↔ DigestsAgree s := by
  simp only [digestAnswer, List.all_eq_true, decide_eq_true_eq, mem_presentPeers, DigestsAgree, presentMember_iff]
  constructor
  · rintro h n ⟨hmember, hother, hpresent⟩
    exact h _ ⟨n, hmember, hother, hpresent, rfl⟩
  · rintro h _ ⟨n, hmember, hother, hpresent, rfl⟩
    exact h n ⟨hmember, hother, hpresent⟩

theorem digestAnswer_eq_false_iff {s : State} :
    digestAnswer s = false ↔ ∃ p ∈ presentPeers s, p.digest ≠ s.seq.digest := by
  simp [digestAnswer]

/-! ### The segment table (sections 3.1 and 3.2) -/

theorem programOutOfRange_iff {q : SegmentRequest} :
    programOutOfRange q = true ↔
      31 < q.index ∨ q.rate = 0 ∨ 1 < q.settle ∨ (q.loopTo ≠ 255 ∧ q.index < q.loopTo) ∨
        (q.loopTo ≠ 255 ∧ q.loopCount = 0) := by
  simp [programOutOfRange, or_assoc]

/-- `replaceTable` written out: the sequencer's table and digest, the peer table's flag and the event (R32 to R34). -/
theorem replaceTable_eq (table : List (Option Segment)) (s : State) :
    replaceTable table s = { setEvent .programEdited s with
      seq.table := table
      seq.digest := digestOf table
      peers.digestMismatch := (replaceTable table s).peers.digestMismatch } := rfl

theorem replaceTable_programEdited (table : List (Option Segment)) (s : State) : HasEvent 8 (replaceTable table s) := by
  have bit : (eventBit .programEdited).getLsbD 8 = true := by decide
  rw [HasEvent, replaceTable, setEvent_events, BitVec.getLsbD_or, bit, Bool.or_true]

theorem replaceTable_digestMismatch_iff (table : List (Option Segment)) (s : State) :
    (replaceTable table s).peers.digestMismatch = true ↔ ∃ p ∈ presentPeers s, p.digest ≠ digestOf table := by
  simp only [replaceTable, setEvent_frame, updateDigestFlag_digestMismatch, Bool.not_eq_true', digestAnswer_eq_false_iff]
  rfl

theorem askGate_of_not_done {s : State} (h : ¬ (s.seq.state = .run ∧ s.seq.phase = some .done)) : askGate s = s :=
  if_neg h

theorem askIfChanged_of_not_done {old : Half} {s : State} (h : ¬ (s.seq.state = .run ∧ s.seq.phase = some .done)) :
    askIfChanged old s = s := by
  rw [askIfChanged, askGate_of_not_done h, ite_self]

/-- Asking again after a change of the digest is `askGate`, or nothing (R42). -/
theorem askIfChanged_cases (old : Half) (s : State) : askIfChanged old s = s ∨ askIfChanged old s = askGate s := by
  unfold askIfChanged
  split
  · exact .inl rfl
  · exact .inr rfl

theorem askIfChanged_lineGrows (old : Half) (s : State) : LineGrows s (askIfChanged old s) := by
  rcases askIfChanged_cases old s with h | h <;> rw [h]
  · exact .refl s
  · exact askGate_lineGrows s

theorem askIfChanged_frame (old : Half) (s : State) :
    (askIfChanged old s).servo = s.servo ∧ (askIfChanged old s).alarm = s.alarm ∧
      (askIfChanged old s).seq.table = s.seq.table ∧ (askIfChanged old s).seq.digest = s.seq.digest := by
  rcases askIfChanged_cases old s with h | h <;> simp [h]

/-- The station with the entry of a request stored and the DONE placed, before it asks again (R32). -/
def entryStored (head : CommandHead) (q : SegmentRequest) (s : State) : State :=
  replaceTable (setAt q.index (some (storedSegment q)) s.seq.table) (replied head 0x40 .done .none [] s)

theorem programRequest_of_bad {head : CommandHead} {q : SegmentRequest} {s : State}
    (h : programOutOfRange q = true) : programRequest head q s = replied head 0x40 .refused .range [] s :=
  if_pos h

theorem programRequest_of_good {head : CommandHead} {q : SegmentRequest} {s : State} (h : ¬ programOutOfRange q = true) :
    programRequest head q s = askIfChanged s.seq.digest (entryStored head q s) :=
  if_neg h

theorem digestOf_all_empty : digestOf (List.replicate 32 none) = crc16 (List.replicate 384 255) := by
  rw [digestOf, entryBytes_empty]

theorem clearprogRequest_of_idle_or_ended {head : CommandHead} {s : State}
    (h : s.seq.state = .idle ∨ s.seq.state = .ended) :
    clearprogRequest head s = replaceTable (List.replicate 32 none) (replied head 0x41 .done .none [] s) :=
  if_pos h

theorem clearprogRequest_of_under_way {head : CommandHead} {s : State}
    (h : s.seq.state = .run ∨ s.seq.state = .held ∨ s.seq.state = .unloading) :
    clearprogRequest head s = replied head 0x41 .refused .state [] s :=
  if_neg (by rcases h with h | h | h <;> simp [h])

/-- Settles O42: PROGRAM is judged by `programOutOfRange_iff` and asks again from `entryStored`, by which neither
table nor digest changes; CLEARPROG is `replaceTable` with 32 EMPTY entries. -/
theorem programAndClearprogEditTheTable : Obligations.ProgramAndClearprogEditTheTable := by
  refine ⟨⟨?bad, ?good⟩, ?clear, ?underWay⟩
  case bad =>
    intro head q s taken bad
    rw [exec_program taken, programRequest_of_bad (programOutOfRange_iff.mpr bad)]
  case good =>
    intro head q s taken hindex hrate hsettle hloop
    have good : ¬ programOutOfRange q = true := by
      rw [programOutOfRange_iff]
      omega
    obtain ⟨hservo, halarm, htable, hdigest⟩ := askIfChanged_frame s.seq.digest (entryStored head q s)
    have grows := askIfChanged_lineGrows s.seq.digest (entryStored head q s)
    refine ⟨_, exec_program taken, ?_⟩
    rw [programRequest_of_good good, htable, hdigest, hservo, halarm]
    refine ⟨rfl, rfl, grows.events _ (replaceTable_programEdited _ _), rfl, rfl, grows.replies_append rfl, ?_⟩
    intro notDone
    rw [askIfChanged_of_not_done (s := entryStored head q s) notDone]
    exact ⟨rfl, rfl, rfl, rfl, rfl, rfl⟩
  case clear =>
    intro head s taken atRest
    refine ⟨_, exec_clearprog taken, ?_⟩
    rw [clearprogRequest_of_idle_or_ended atRest]
    constructor
    · rw [← digestOf_all_empty]
      exact replaceTable_eq _ _
    · exact replaceTable_digestMismatch_iff _ (replied head 0x41 .done .none [] s)
  case underWay =>
    intro head s taken underWay
    rw [exec_clearprog taken, clearprogRequest_of_under_way underWay]

/-! ### The validity of a program (R31) -/

theorem segmentAt_isSome_of_lt {i : Nat} {q : Sequencer} (h : i < programLength q) : (segmentAt i q).isSome = true := by
  have inTable : i < q.table.length := h.trans_le List.findIdx_le_length
  have filled := List.not_of_lt_findIdx h
  rw [segmentAt, List.getD_eq_getElem _ _ inTable]
  simpa [← Option.isSome_iff_ne_none] using filled

theorem segmentAt_programLength (q : Sequencer) : segmentAt (programLength q) q = none := by
  unfold segmentAt
  rcases Nat.lt_or_ge (programLength q) q.table.length with h | h
  · rw [List.getD_eq_getElem _ _ h]
    exact Option.isNone_iff_eq_none.mp (List.findIdx_getElem (w := h))
  · exact List.getD_eq_default _ _ h

theorem programValid_iff {q : Sequencer} :
    programValid q = true ↔ 1 ≤ programLength q ∧ ∀ i, programLength q ≤ i → segmentAt i q = none := by
  simp only [programValid, Bool.and_eq_true, decide_eq_true_eq, List.all_eq_true, Option.isNone_iff_eq_none, segmentAt]
  refine and_congr_right fun _ => ⟨fun h i hi => ?_, fun h e he => ?_⟩
  · rcases Nat.lt_or_ge i q.table.length with inTable | past
    · rw [List.getD_eq_getElem _ _ inTable]
      exact h _ (List.mem_drop_iff_getElem.mpr ⟨i - programLength q, by omega, by congr; omega⟩)
    · exact List.getD_eq_default _ _ past
  · obtain ⟨k, hk, rfl⟩ := List.mem_drop_iff_getElem.mp he
    rw [← List.getD_eq_getElem _ none]
    exact h _ (Nat.le_add_right _ k)

/-- The one length a valid program can have is that of its lowest EMPTY entry. -/
theorem programLength_of_validProgram {n : Nat} {s : State} (h : ValidProgram n s) : programLength s.seq = n := by
  obtain ⟨-, hfilled, hempty⟩ := h
  rcases Nat.lt_trichotomy (programLength s.seq) n with hlt | heq | hgt
  · have filled := hfilled _ hlt
    rw [show s.seq.table.getD _ none = none from segmentAt_programLength s.seq] at filled
    exact absurd filled (by decide)
  · exact heq
  · have filled := segmentAt_isSome_of_lt hgt
    rw [show segmentAt n s.seq = none from hempty n le_rfl] at filled
    exact absurd filled (by decide)

theorem programValid_eq_true_iff {s : State} : programValid s.seq = true ↔ ∃ n, ValidProgram n s := by
  rw [programValid_iff]
  constructor
  · rintro ⟨hpos, hempty⟩
    exact ⟨programLength s.seq, hpos, fun i hi => segmentAt_isSome_of_lt hi, hempty⟩
  · rintro ⟨n, valid⟩
    rw [programLength_of_validProgram valid]
    obtain ⟨hpos, -, hempty⟩ := valid
    exact ⟨hpos, hempty⟩

/-! ### RUN (R36, R37) -/

/-- `judgeRun` asks the six conditions of R36 as the statements word them, one after the other. -/
theorem judgeRun_eq (s : State) [Decidable (∃ n, ValidProgram n s)] [Decidable (DigestsAgree s)] :
    judgeRun s =
      if ¬ (s.seq.state = .idle ∨ s.seq.state = .ended) then .state
      else if s.act.state ≠ .live then .actuator
      else if ¬ ∃ n, ValidProgram n s then .programInvalid
      else if s.peers.memberAbsent = true then .absentMember
      else if ¬ DigestsAgree s then .programMismatch
      else if s.alarm.latch ≠ .none then .action
      else .none := by
  simp only [judgeRun, ← programValid_eq_true_iff, ← digestAnswer_eq_true_iff, Bool.not_eq_true', Bool.not_eq_true]

theorem judgeRun_of_refused {s : State} {reason : Reason} (h : RunRefusedFor s reason) : judgeRun s = reason := by
  classical
  rw [judgeRun_eq]
  cases reason
  case state => exact if_pos h
  case actuator =>
    obtain ⟨hstate, hact⟩ := h
    simp [hstate, hact]
  case programInvalid =>
    obtain ⟨hstate, hact, hvalid⟩ := h
    simp [hstate, hact, hvalid]
  case absentMember =>
    obtain ⟨hstate, hact, hvalid, habsent⟩ := h
    simp [hstate, hact, hvalid, habsent]
  case programMismatch =>
    obtain ⟨hstate, hact, hvalid, habsent, hdigest⟩ := h
    simp [hstate, hact, hvalid, habsent, hdigest]
  case action =>
    obtain ⟨hstate, hact, hvalid, habsent, hdigest, hlatch⟩ := h
    simp [hstate, hact, hvalid, habsent, hdigest, hlatch]
  all_goals exact h.elim

theorem runRefusedFor_ne_none {s : State} {reason : Reason} (h : RunRefusedFor s reason) : reason ≠ .none := by
  rintro rfl
  exact h

theorem judgeRun_of_accepted {s : State} (hstate : s.seq.state = .idle ∨ s.seq.state = .ended)
    (hact : s.act.state = .live) (hvalid : ∃ n, ValidProgram n s) (habsent : s.peers.memberAbsent = false)
    (hdigest : DigestsAgree s) (hlatch : s.alarm.latch = .none) : judgeRun s = .none := by
  classical
  rw [judgeRun_eq]
  simp [hstate, hact, hvalid, habsent, hdigest, hlatch]

theorem runRequest_of_refused {head : CommandHead} {s : State} {reason : Reason} (h : RunRefusedFor s reason) :
    runRequest head s = replied head 0x42 .refused reason [] s := by
  rw [runRequest, judgeRun_of_refused h]
  exact if_neg (runRefusedFor_ne_none h)

theorem runRequest_of_accepted {head : CommandHead} {s : State} (h : judgeRun s = .none) :
    runRequest head s = startRun (replied head 0x42 .done .none [] s) :=
  if_pos h

/-- The entry of a filled segment below the step limit (R37). -/
theorem enterSegment_seq {i : Nat} {g : Segment} {s : State} (hg : segmentAt i s.seq = some g)
    (hstep : s.seq.step < Config.stepLimit) :
    (enterSegment i s).seq =
      { s.seq with
        state := .run
        phase := some .ramp
        step := s.seq.step + 1
        segment := i
        work := some (workingCopyOf g)
        hold := .paused (1000 * g.hold)
        extension := .stopped
        extensionUsed := false
        mismatch := none
        choice := none } := by
  have hold_steps : ms (100 * g.hold) = 1000 * g.hold := by
    rw [ms, Config.perMs]; omega
  simp [enterSegment, hg, Nat.not_le.mpr hstep, hold_steps]

theorem startRun_lineGrows (s : State) : LineGrows s (startRun s) := by
  refine LineGrows.trans ?_ (enterSegment_lineGrows 0 _)
  exact .of_line_eq rfl

/-- Settles O43: the refusals by `judgeRun_of_refused`, the acceptance by `enterSegment_seq` from the step 0 that an
accepted RUN starts with. -/
theorem runIsJudgedInOrder : Obligations.RunIsJudgedInOrder := by
  refine ⟨?refused, ?accepted⟩
  case refused =>
    intro head s reason taken refused
    rw [exec_run taken, runRequest_of_refused refused]
  case accepted =>
    intro head s g taken hstate hact hvalid habsent hdigest hlatch hg
    have accepted := judgeRun_of_accepted hstate hact hvalid habsent hdigest hlatch
    refine ⟨startRun (replied head 0x42 .done .none [] s), ?_, ?_, ?_, ?_, ?_, ?_⟩
    · rw [exec_run taken, runRequest_of_accepted accepted]
    · exact enterSegment_seq hg (by simp [Config.stepLimit])
    · simp [startRun, replied]
    · simp [startRun, replied]
    · simp [startRun, replied]
    · exact (startRun_lineGrows _).replies_append rfl

end Sys2Proof.Machine

/-! The servo tick (sections 4.3 to 4.5): the force values it forms, and what can happen to the actuator unit and the
drive output between the stages and the end of the event, in the tick's raises and in the commands started after it. -/
namespace Sys2Proof.Machine

open Sys2Proof

/-! ### The actuator unit under a raise and under the sequencer (R84, R135)

A raise and a change of the sequencer move the actuator unit in one way only: by a trip. -/

/-- From `s` to `t` the actuator unit and the drive output are as they were, or a state other than LOCKED has
tripped. -/
def KeptOrTripped (s t : State) : Prop :=
  (t.act = s.act ∧ t.pins.drive = s.pins.drive) ∨
    (s.act.state ≠ .locked ∧ t.act.state = .tripped ∧ t.pins.drive = 0)

theorem KeptOrTripped.of_kept {s t : State} (hact : t.act = s.act) (hpins : t.pins = s.pins) : KeptOrTripped s t :=
  .inl ⟨hact, by rw [hpins]⟩

theorem KeptOrTripped.trans {s t u : State} (hst : KeptOrTripped s t) (htu : KeptOrTripped t u) :
    KeptOrTripped s u := by
  rcases hst with ⟨hact, hdrive⟩ | ⟨hlocked, htripped, hdrive⟩ <;>
    rcases htu with ⟨hact', hdrive'⟩ | ⟨hlocked', htripped', hdrive'⟩
  · exact .inl ⟨hact'.trans hact, hdrive'.trans hdrive⟩
  · exact .inr ⟨hact ▸ hlocked', htripped', hdrive'⟩
  · exact .inr ⟨hlocked, hact' ▸ htripped, hdrive'.trans hdrive⟩
  · exact .inr ⟨hlocked, htripped', hdrive'⟩

/-- A unit that has not tripped is the one that it was. -/
theorem KeptOrTripped.kept {s t : State} (h : KeptOrTripped s t) (hstate : t.act.state ≠ .tripped) :
    t.act = s.act ∧ t.pins.drive = s.pins.drive :=
  h.resolve_right fun ⟨_, htripped, _⟩ => hstate htripped

theorem KeptOrTripped.kept_of_locked {s t : State} (h : KeptOrTripped s t) (hlocked : s.act.state = .locked) :
    t.act = s.act :=
  (h.resolve_right fun ⟨hne, _, _⟩ => hne hlocked).1

theorem actuatorOnLatch_keptOrTripped (new : Latch) (s : State) : KeptOrTripped s (actuatorOnLatch new s) := by
  unfold actuatorOnLatch
  split
  case isTrue h => exact .inr ⟨h.2.1, by simp, by simp⟩
  case isFalse => exact .of_kept rfl rfl

theorem handLatch_keptOrTripped (new : Latch) (s : State) : KeptOrTripped s (handLatch new s) := by
  simpa [handLatch, KeptOrTripped] using actuatorOnLatch_keptOrTripped new s

/-- A raise up to the hand-on of the latch: what it does to the alarm unit, the line unit and the record memory. -/
def raiseRecorded (r : Raise) (s : State) : State :=
  let s1 := setEvent .alarmRaised
    { s with alarm := { storeRaise r s.alarm with latch := latchMax s.alarm.latch r.action } }
  let s2 := if sendsTelegram r s then placeAlarm (alarmTelegramOf r s) s1 else s1
  if latchAtLeast r.action .hold then cutAndCapture r.kind s2 else s2

theorem raiseAlarm_eq (r : Raise) (s : State) :
    raiseAlarm r s =
      if latchMax s.alarm.latch r.action = s.alarm.latch then raiseRecorded r s
      else handLatch (latchMax s.alarm.latch r.action) (raiseRecorded r s) := rfl

@[simp] theorem raiseRecorded_frame (r : Raise) (s : State) :
    (raiseRecorded r s).act = s.act ∧ (raiseRecorded r s).pins = s.pins ∧ (raiseRecorded r s).seq = s.seq := by
  unfold raiseRecorded
  dsimp only
  split <;> split <;> simp

theorem raiseAlarm_keptOrTripped (r : Raise) (s : State) : KeptOrTripped s (raiseAlarm r s) := by
  have recorded : KeptOrTripped s (raiseRecorded r s) := .of_kept (by simp) (by simp)
  rw [raiseAlarm_eq]
  split
  · exact recorded
  · exact recorded.trans (handLatch_keptOrTripped _ _)

theorem raiseOwn_keptOrTripped (kind : AlarmKind) (channel : Nat) (action : Latch) (s : State) :
    KeptOrTripped s (raiseOwn kind channel action s) :=
  raiseAlarm_keptOrTripped _ s

/-- Under a latch of DUMP no raise is handed on: neither the actuator unit nor the sequencer moves (R135). -/
theorem raiseOwn_of_dump {kind : AlarmKind} {channel : Nat} {action : Latch} {s : State} (h : s.alarm.latch = .dump) :
    (raiseOwn kind channel action s).act = s.act ∧ (raiseOwn kind channel action s).seq = s.seq := by
  have unrisen : latchMax s.alarm.latch action = s.alarm.latch := by
    rw [h]
    cases action <;> rfl
  rw [raiseOwn, raiseAlarm_eq]
  simp [unrisen]

theorem extensionExpired_keptOrTripped (s : State) : KeptOrTripped s (extensionExpired s) := by
  have raised : KeptOrTripped s (raiseOwn .noSettle 0 s.cfg.noSettleAction { s with seq.extension := .stopped }) :=
    raiseOwn_keptOrTripped _ _ _ { s with seq.extension := .stopped }
  unfold extensionExpired
  dsimp only
  split
  · exact raised.trans (.of_kept (by simp) (by simp))
  · exact raised

theorem startExtension_keptOrTripped (left : Nat) (s : State) : KeptOrTripped s (startExtension left s) := by
  unfold startExtension
  split
  · exact extensionExpired_keptOrTripped s
  · exact .of_kept rfl rfl

theorem judgeSettle_keptOrTripped (s : State) : KeptOrTripped s (judgeSettle s) := by
  unfold judgeSettle
  dsimp only
  split
  · exact startExtension_keptOrTripped _ { s with seq.hold := .stopped, seq.extensionUsed := true }
  · exact .of_kept (by simp) (by simp)

theorem startHold_keptOrTripped (left : Nat) (s : State) : KeptOrTripped s (startHold left s) := by
  unfold startHold
  split
  · exact judgeSettle_keptOrTripped s
  · exact .of_kept rfl rfl

theorem startDwell_keptOrTripped (s : State) : KeptOrTripped s (startDwell s) := by
  have entered : KeptOrTripped s (dwellEntered (setSequencer { s.seq with phase := some .dwell } s)) :=
    .of_kept (by simp) (by simp)
  exact entered.trans (startHold_keptOrTripped _ _)

theorem sequencerOnLevel_keptOrTripped (s : State) : KeptOrTripped s (sequencerOnLevel s) := by
  unfold sequencerOnLevel
  split
  · exact startDwell_keptOrTripped s
  · split
    · exact .of_kept (by simp) (by simp)
    · exact .of_kept rfl rfl

theorem sequencerOnLevel_of_rest {s : State} (hrun : s.seq.state ≠ .run) (hunloading : s.seq.state ≠ .unloading) :
    sequencerOnLevel s = s := by
  simp [sequencerOnLevel, rampEnds, hrun, hunloading]

/-! ### The actuator unit under the commands started at the end of an event (Table 5-5, R165) -/

/-- What started commands can do to the actuator unit. Of the states with drive they leave LIVE only, and the one that
they enter is LOCKING, from LIVE; out of LOCKED they lead into an unlock's wait and no further. -/
structure CommandsMove (s t : State) : Prop where
  driveless : s.pins.drive = 0 → t.pins.drive = 0
  busy : passesDrive s.act.state = true → s.act.state ≠ .live → t.act = s.act
  driving : passesDrive t.act.state = true →
    (t.act.state = s.act.state ∧ t.pins.drive = s.pins.drive) ∨ (s.act.state = .live ∧ t.act.state = .locking)
  locked : s.act.state = .locked ∨ s.act.state = .waitWindow →
    (t.act.state = .locked ∨ t.act.state = .waitWindow) ∧ t.act.lockRef = s.act.lockRef ∧
      t.act.lockRefDue = s.act.lockRefDue ∧ t.act.lockCheck = s.act.lockCheck

theorem CommandsMove.of_kept {s t : State} (hact : t.act = s.act) (hpins : t.pins = s.pins) : CommandsMove s t where
  driveless h := by rwa [hpins]
  busy _ _ := hact
  driving _ := .inl ⟨by rw [hact], by rw [hpins]⟩
  locked h := by simpa [hact] using h

theorem CommandsMove.trans {s t u : State} (hst : CommandsMove s t) (htu : CommandsMove t u) : CommandsMove s u where
  driveless h := htu.driveless (hst.driveless h)
  busy hs hlive := by
    have first := hst.busy hs hlive
    exact (htu.busy (first ▸ hs) (first ▸ hlive)).trans first
  driving hu := by
    rcases htu.driving hu with ⟨hstate, hdrive⟩ | ⟨hlive, hlocking⟩
    · rw [hstate, hdrive]
      exact hst.driving (hstate ▸ hu)
    · rcases hst.driving (hlive ▸ rfl) with ⟨hstate, -⟩ | ⟨-, hlocking'⟩
      · exact .inr ⟨hstate ▸ hlive, hlocking⟩
      · rw [hlive] at hlocking'
        cases hlocking'
  locked h := by
    obtain ⟨hstate, href, hdue, hcheck⟩ := hst.locked h
    obtain ⟨hstate', href', hdue', hcheck'⟩ := htu.locked hstate
    exact ⟨hstate', href'.trans href, hdue'.trans hdue, hcheck'.trans hcheck⟩

/-- A command that leaves LIVE, VENTED or TRIPPED for a state without drive. -/
theorem CommandsMove.of_drive_off {s t : State}
    (hs : s.act.state = .live ∨ s.act.state = .vented ∨ s.act.state = .tripped) (ht : passesDrive t.act.state = false)
    (hdrive : t.pins.drive = 0) : CommandsMove s t where
  driveless _ := hdrive
  busy hpass hlive := by
    rcases hs with h | h | h
    · exact absurd h hlive
    all_goals
      rw [h] at hpass
      cases hpass
  driving h := by
    rw [ht] at h
    cases h
  locked h := by rcases hs with hs | hs | hs <;> simp [hs] at h

theorem enterState_drive (st : ActState) (iso dump lockCmd : Bool) (s : State) :
    (enterState st iso dump lockCmd s).pins.drive = if passesDrive st then s.pins.drive else 0 := by
  simp [enterState]

@[simp] theorem enterWait_drive (p : ChargePurpose) (s : State) : (enterWait p s).pins.drive = 0 := by
  simp [enterWait, enterState_drive, passesDrive]

@[simp] theorem enterVented_drive (s : State) : (enterVented s).pins.drive = 0 := by
  simp [enterVented, enterState_drive, passesDrive]

@[simp] theorem lockSeats_drive (s : State) : (lockSeats s).pins.drive = 0 := by
  simp [lockSeats, enterLocked, enterState_drive, passesDrive]

@[simp] theorem judgeWait_lockCheck (s : State) : (judgeWait s).act.lockCheck = s.act.lockCheck := by
  unfold judgeWait placeCharge
  dsimp only
  split
  · split
    · rfl
    · split <;> rfl
  · rfl

theorem enterWait_lock (p : ChargePurpose) (s : State) :
    (enterWait p s).act.lockRef = s.act.lockRef ∧ (enterWait p s).act.lockRefDue = s.act.lockRefDue ∧
      (enterWait p s).act.lockCheck = s.act.lockCheck := by
  simp [enterWait]

theorem endCommand_move (result : ReplyResult) (reason : Reason) (s : State) :
    CommandsMove s (endCommand result reason s) :=
  .of_kept (by simp) (by simp)

theorem judgeCharge_move (s : State) : CommandsMove s (judgeCharge s) := by
  unfold judgeCharge
  split_ifs with _ hvented _
  · exact endCommand_move _ _ s
  · exact endCommand_move _ _ s
  · exact endCommand_move _ _ s
  · exact .of_drive_off (.inr (.inl (not_not.mp hvented))) (by simp [passesDrive]) (by simp)

theorem judgeVent_move (s : State) : CommandsMove s (judgeVent s) := by
  unfold judgeVent
  split_ifs with _ hlive _
  · exact endCommand_move _ _ s
  · exact endCommand_move _ _ s
  · exact endCommand_move _ _ s
  · exact .of_drive_off (.inl (not_not.mp hlive)) (by simp [passesDrive]) (by simp)

/-- LOCKING is the one state with drive that a command enters. -/
theorem enterLocking_move {s : State} (hlive : s.act.state = .live) : CommandsMove s (enterLocking s) := by
  unfold enterLocking
  dsimp only
  split
  · exact .of_drive_off (.inl hlive) (by simp [passesDrive]) (by simp)
  · constructor
    case driveless =>
      intro h
      simp [enterState_drive, h]
    case busy => exact fun _ h => absurd hlive h
    case driving => exact fun _ => .inr ⟨hlive, by simp⟩
    case locked => simp [hlive]

theorem judgeLock_move (s : State) : CommandsMove s (judgeLock s) := by
  unfold judgeLock
  split_ifs with _ hlive _
  · exact endCommand_move _ _ s
  · exact endCommand_move _ _ s
  · exact endCommand_move _ _ s
  · exact enterLocking_move (not_not.mp hlive)

theorem enterWait_move_of_locked {s : State} (hlocked : s.act.state = .locked) :
    CommandsMove s (enterWait .unlock s) where
  driveless _ := enterWait_drive _ s
  busy h := by simp [hlocked, passesDrive] at h
  driving h := by simp [passesDrive] at h
  locked _ := ⟨.inr (by simp), enterWait_lock _ s⟩

theorem judgeUnlock_move (s : State) : CommandsMove s (judgeUnlock s) := by
  unfold judgeUnlock
  split_ifs with _ hlocked _ _
  · exact endCommand_move _ _ s
  · exact endCommand_move _ _ s
  · exact endCommand_move _ _ s
  · exact endCommand_move _ _ s
  · exact enterWait_move_of_locked (not_not.mp hlocked)

theorem judgeCleartrip_move (s : State) : CommandsMove s (judgeCleartrip s) := by
  unfold judgeCleartrip
  split_ifs with htripped _
  · exact endCommand_move _ _ s
  · exact endCommand_move _ _ s
  · exact .of_drive_off (.inr (.inr (not_not.mp htripped))) (by simp [passesDrive]) (by simp)

theorem judgeQueued_move (kind : QueuedKind) (s : State) : CommandsMove s (judgeQueued kind s) := by
  cases kind
  case charge => exact judgeCharge_move s
  case vent => exact judgeVent_move s
  case lock => exact judgeLock_move s
  case unlock => exact judgeUnlock_move s
  case cleartrip => exact judgeCleartrip_move s
  case zero => exact .of_kept (by simp [judgeQueued]) (by simp [judgeQueued])
  case shunt => exact .of_kept (by simp [judgeQueued]) (by simp [judgeQueued])

theorem startWaiting_move (n : Nat) (s : State) : CommandsMove s (startWaiting n s) := by
  induction n generalizing s with
  | zero => exact .of_kept rfl rfl
  | succ n ih =>
    unfold startWaiting
    split
    case h_1 q rest _ _ =>
      have taken : CommandsMove s { s with cmd.queue := rest, cmd.current := some q } := .of_kept rfl rfl
      exact taken.trans ((judgeQueued_move q.kind _).trans (ih _))
    case h_2 => exact .of_kept rfl rfl

theorem startCommands_move (s : State) : CommandsMove s (startCommands s) := by
  unfold startCommands
  split
  · exact startWaiting_move _ s
  · exact .of_kept rfl rfl

/-! ### The stages of a tick (R56 to R71) -/

/-- The integral that a tick starts from: 0 where a clear order is pending (R57). -/
def heldIntegral (s : State) : Int :=
  if s.servo.clearOrder then 0 else s.servo.integral

/-- The measured force with the numbers of R62. -/
theorem measuredForce_eq (code zero : Int) (gain : Nat) :
    measuredForce code zero gain = clampTo (-16000000) 16000000 (Int.tdiv ((code - zero) * gain) 1000) := rfl

/-- The error with the numbers of R63. -/
theorem clampedError_eq (fSet fMeas : Int) : clampedError fSet fMeas = clampTo (-8388607) 8388607 (fSet - fMeas) := rfl

/-- The PI law with the numbers of R64 and R65. -/
theorem piLaw_eq (kp ki : Nat) (integral error : Int) :
    let cand := clampTo (-2147418112) 2147418112 (integral + ki * error)
    let q := Int.tdiv (kp * error + cand) 65536
    piLaw kp ki integral error =
      (clampTo (-32767) 32767 q,
        if (32767 < q ∧ 0 < error) ∨ (q < -32767 ∧ error < 0) then integral else cand) := rfl

/-- The state of a tick after stage 5, with λ moved and the force values formed. -/
def stagesToError (code : Int) (s : State) : State :=
  measureStage code (rampStage (lambdaFloor s) (lambdaCeiling s)
    (stopReacquire { s with servo := carryClear s.servo, pins.loadCode := code }))

/-- The state of a tick after stage 7: all that the tick forms, before the bands are judged. -/
def stagesToDrive (code : Int) (s : State) : State :=
  driveStage (stagesToError code s)

theorem servoStages_eq (code : Int) (s : State) : servoStages code s = bandStage (stagesToDrive code s) := rfl

@[simp] theorem carryClear_frame (v : Servo) :
    (carryClear v).timer = v.timer ∧ (carryClear v).overLimit = v.overLimit ∧
      (carryClear v).loadZero = v.loadZero ∧ (carryClear v).integral = if v.clearOrder then 0 else v.integral := by
  unfold carryClear
  split <;> simp [*]

@[simp] theorem stopReacquire_frame (s : State) :
    (stopReacquire s).age = s.age ∧ (stopReacquire s).cfg = s.cfg ∧ (stopReacquire s).pins = s.pins ∧
      (stopReacquire s).seq = s.seq ∧ (stopReacquire s).act = s.act ∧ (stopReacquire s).crack = s.crack ∧
      (stopReacquire s).alarm = s.alarm ∧ (stopReacquire s).servo.timer = s.servo.timer ∧
      (stopReacquire s).servo.integral = s.servo.integral ∧ (stopReacquire s).servo.overLimit = s.servo.overLimit ∧
      (stopReacquire s).servo.loadZero = s.servo.loadZero := by
  unfold stopReacquire
  split <;> simp

@[simp] theorem rampStage_frame (floor ceiling : Nat) (s : State) :
    (rampStage floor ceiling s).age = s.age ∧ (rampStage floor ceiling s).cfg = s.cfg ∧
      (rampStage floor ceiling s).pins = s.pins ∧ (rampStage floor ceiling s).seq = s.seq ∧
      (rampStage floor ceiling s).act = s.act ∧ (rampStage floor ceiling s).crack = s.crack ∧
      (rampStage floor ceiling s).alarm = s.alarm ∧ (rampStage floor ceiling s).servo.timer = s.servo.timer ∧
      (rampStage floor ceiling s).servo.integral = s.servo.integral ∧
      (rampStage floor ceiling s).servo.overLimit = s.servo.overLimit ∧
      (rampStage floor ceiling s).servo.loadZero = s.servo.loadZero := by
  unfold rampStage
  split
  · split <;> simp
  · simp

@[simp] theorem stagesToError_frame (code : Int) (s : State) :
    (stagesToError code s).age = s.age ∧ (stagesToError code s).cfg = s.cfg ∧ (stagesToError code s).seq = s.seq ∧
      (stagesToError code s).act = s.act ∧ (stagesToError code s).crack = s.crack ∧
      (stagesToError code s).alarm = s.alarm ∧ (stagesToError code s).pins = { s.pins with loadCode := code } ∧
      (stagesToError code s).servo.timer = s.servo.timer ∧
      (stagesToError code s).servo.integral = heldIntegral s ∧
      (stagesToError code s).servo.overLimit = s.servo.overLimit := by
  simp [stagesToError, measureStage, heldIntegral]

/-- Stages 3 to 5 (R61 to R63). -/
theorem stagesToError_force (code : Int) (s : State) :
    let v := (stagesToError code s).servo
    v.fSet = ((s.cfg.fDesign * v.lam / 10000 : Nat) : Int) ∧
      v.fMeas = clampTo (-16000000) 16000000 (Int.tdiv ((code - s.servo.loadZero) * s.cfg.gain) 1000) ∧
      v.error = clampTo (-8388607) 8388607 (v.fSet - v.fMeas) := by
  simp [stagesToError, measureStage, setpoint, measuredForce_eq, clampedError_eq]

@[simp] theorem driveStage_frame (s : State) :
    (driveStage s).age = s.age ∧ (driveStage s).cfg = s.cfg ∧ (driveStage s).seq = s.seq ∧
      (driveStage s).act = s.act ∧ (driveStage s).crack = s.crack ∧ (driveStage s).alarm = s.alarm ∧
      (driveStage s).pins.pressOk = s.pins.pressOk ∧ (driveStage s).pins.loadCode = s.pins.loadCode ∧
      (driveStage s).servo.timer = s.servo.timer ∧ (driveStage s).servo.lam = s.servo.lam ∧
      (driveStage s).servo.fSet = s.servo.fSet ∧ (driveStage s).servo.fMeas = s.servo.fMeas ∧
      (driveStage s).servo.error = s.servo.error ∧ (driveStage s).servo.overLimit = s.servo.overLimit := by
  unfold driveStage
  dsimp only
  split <;> simp

@[simp] theorem stagesToDrive_frame (code : Int) (s : State) :
    (stagesToDrive code s).age = s.age ∧ (stagesToDrive code s).cfg = s.cfg ∧ (stagesToDrive code s).seq = s.seq ∧
      (stagesToDrive code s).act = s.act ∧ (stagesToDrive code s).crack = s.crack ∧
      (stagesToDrive code s).alarm = s.alarm ∧ (stagesToDrive code s).pins.pressOk = s.pins.pressOk ∧
      (stagesToDrive code s).pins.loadCode = code ∧ (stagesToDrive code s).servo.timer = s.servo.timer ∧
      (stagesToDrive code s).servo.overLimit = s.servo.overLimit := by
  simp [stagesToDrive]

theorem stagesToDrive_force (code : Int) (s : State) :
    let v := (stagesToDrive code s).servo
    v.fSet = ((s.cfg.fDesign * v.lam / 10000 : Nat) : Int) ∧
      v.fMeas = clampTo (-16000000) 16000000 (Int.tdiv ((code - s.servo.loadZero) * s.cfg.gain) 1000) ∧
      v.error = clampTo (-8388607) 8388607 (v.fSet - v.fMeas) := by
  simpa [stagesToDrive] using stagesToError_force code s

/-- Stages 6 and 7 in a state with drive: the PI law, and u on the output (R64 to R66). -/
theorem stagesToDrive_of_drive (code : Int) {s : State} (h : passesDrive s.act.state = true) :
    let t := stagesToDrive code s
    let cand := clampTo (-2147418112) 2147418112 (heldIntegral s + s.cfg.ki * t.servo.error)
    let q := Int.tdiv (s.cfg.kp * t.servo.error + cand) 65536
    t.servo.drive = clampTo (-32767) 32767 q ∧
      t.servo.integral =
        (if (32767 < q ∧ 0 < t.servo.error) ∨ (q < -32767 ∧ t.servo.error < 0) then heldIntegral s else cand) ∧
      t.pins.drive = t.servo.drive := by
  simp [stagesToDrive, driveStage, h, piLaw_eq]

/-- Stages 6 and 7 in a state without drive (R67). -/
theorem stagesToDrive_of_no_drive (code : Int) {s : State} (h : passesDrive s.act.state = false) :
    (stagesToDrive code s).servo.drive = 0 ∧ (stagesToDrive code s).pins.drive = 0 ∧
      (stagesToDrive code s).servo.integral = heldIntegral s := by
  simp [stagesToDrive, driveStage, h]

/-! ### Stage 8 (R69 to R71) -/

@[simp] theorem overLimitChanged_frame (was now : Bool) (s : State) :
    (overLimitChanged was now s).age = s.age ∧ (overLimitChanged was now s).cfg = s.cfg ∧
      (overLimitChanged was now s).crack = s.crack ∧ (overLimitChanged was now s).pins.pressOk = s.pins.pressOk ∧
      (overLimitChanged was now s).pins.loadCode = s.pins.loadCode ∧
      (overLimitChanged was now s).act.lockRefDue = s.act.lockRefDue ∧
      (overLimitChanged was now s).servo.timer = s.servo.timer ∧
      (overLimitChanged was now s).servo.lam = s.servo.lam ∧
      (overLimitChanged was now s).servo.integral = s.servo.integral ∧
      (overLimitChanged was now s).servo.drive = s.servo.drive ∧
      (overLimitChanged was now s).servo.fSet = s.servo.fSet ∧
      (overLimitChanged was now s).servo.fMeas = s.servo.fMeas ∧
      (overLimitChanged was now s).servo.error = s.servo.error := by
  unfold overLimitChanged
  split <;> simp

@[simp] theorem bandStage_frame (s : State) :
    (bandStage s).age = s.age ∧ (bandStage s).cfg = s.cfg ∧ (bandStage s).crack = s.crack ∧
      (bandStage s).pins.pressOk = s.pins.pressOk ∧ (bandStage s).pins.loadCode = s.pins.loadCode ∧
      (bandStage s).servo.timer = s.servo.timer ∧ (bandStage s).servo.lam = s.servo.lam ∧
      (bandStage s).servo.integral = s.servo.integral ∧ (bandStage s).servo.drive = s.servo.drive ∧
      (bandStage s).servo.fSet = s.servo.fSet ∧ (bandStage s).servo.fMeas = s.servo.fMeas ∧
      (bandStage s).servo.error = s.servo.error := by
  unfold bandStage tripCountReached
  dsimp only
  split <;> simp

theorem overLimitChanged_keptOrTripped (was now : Bool) (s : State) :
    KeptOrTripped s (overLimitChanged was now s) := by
  unfold overLimitChanged
  split
  · exact (raiseOwn_keptOrTripped .overload 0 .dump s).trans (.of_kept (by simp) (by simp))
  · exact .of_kept (by simp) (by simp)
  · exact .of_kept rfl rfl

/-- The flags and counts that a tick leaves, before its raises (R69 to R71). -/
def bandsJudged (s : State) : State :=
  { s with
    servo.lagging := laggingAfter s
    servo.tripCount := tripCountAfter s
    servo.overLimit := overLimitAfter s }

theorem bandStage_eq (s : State) :
    bandStage s =
      overLimitChanged s.servo.overLimit (overLimitAfter s)
        (if 0 < tripCountAfter s ∧ s.cfg.tTrip ≤ tripCountAfter s then tripCountReached (bandsJudged s)
          else bandsJudged s) := rfl

theorem bandStage_keptOrTripped (s : State) : KeptOrTripped s (bandStage s) := by
  have judged : KeptOrTripped s (bandsJudged s) := .of_kept rfl rfl
  have counted : KeptOrTripped (bandsJudged s) (tripCountReached (bandsJudged s)) :=
    raiseOwn_keptOrTripped _ _ _ { bandsJudged s with servo.tripCount := 0 }
  rw [bandStage_eq]
  refine KeptOrTripped.trans ?_ (overLimitChanged_keptOrTripped _ _ _)
  split
  · exact judged.trans counted
  · exact judged

/-- An OVERLOAD moves neither the actuator unit nor the sequencer where none is raised, or none is handed on. -/
theorem overLimitChanged_of_unrisen {was now : Bool} {s : State}
    (h : was = true ∨ now = false ∨ s.alarm.latch = .dump) :
    (overLimitChanged was now s).act = s.act ∧ (overLimitChanged was now s).seq = s.seq := by
  unfold overLimitChanged
  split
  · have dump : s.alarm.latch = .dump := by simpa using h
    simpa using raiseOwn_of_dump dump
  · simp
  · simp

/-- In UNLOCK_CHARGE no trip count is kept, so that stage 8 trips on OVERLOAD only (R70, R71). -/
theorem bandStage_of_unlockCharge {s : State} (hstate : s.act.state = .unlockCharge)
    (h : s.servo.overLimit = true ∨ s.servo.fMeas ≤ s.cfg.fLimit ∨ s.alarm.latch = .dump) :
    (bandStage s).act = s.act ∧ (bandStage s).seq = s.seq := by
  have uncounted : tripCountAfter s = 0 := by simp [tripCountAfter, bandsChecked, hstate]
  have unrisen : s.servo.overLimit = true ∨ overLimitAfter s = false ∨ (bandsJudged s).alarm.latch = .dump :=
    h.imp_right (.imp_left fun hlow => by simp [overLimitAfter, Int.not_lt.mpr hlow])
  rw [bandStage_eq, uncounted]
  exact overLimitChanged_of_unrisen unrisen

/-! ### What the tick hands to the actuator unit (R82, R94) -/

@[simp] theorem firstLockRef_acquiring (s : State) :
    (firstLockRef s).act.acquisition = s.act.acquisition ∧ (firstLockRef s).act.releasing = s.act.releasing := by
  unfold firstLockRef loadLockCheck
  split
  · dsimp only
    split <;> simp
  · simp

theorem firstLockRef_of_due {s : State} (hstate : s.act.state = .locked) (hdue : s.act.lockRefDue = true) :
    firstLockRef s = loadLockCheck { s with act.lockRef := some s.servo.fMeas, act.lockRefDue := false } := by
  simp [firstLockRef, hstate, hdue]

theorem firstLockRef_of_not_due {s : State} (h : s.act.lockRefDue = false) : firstLockRef s = s := by
  simp [firstLockRef, h]

theorem lockInterval_eq (s : State) : lockInterval s = (if aeQuiet s then 10000 else 5000) * s.cfg.lockInterval := by
  unfold lockInterval ms Config.perMs
  split <;> omega

@[simp] theorem acquisitionTest_lockCheck (s : State) : (acquisitionTest s).act.lockCheck = s.act.lockCheck := by
  unfold acquisitionTest
  split
  · split
    · split <;> rfl
    · rfl
  · rfl

theorem acquiring_iff {s : State} : acquiring s = true ↔ s.act.state = .unlockCharge ∧ s.act.releasing = false := by
  simp [acquiring]

theorem acquisitionTest_of_holds {s : State} (hacquiring : acquiring s = true) (hpress : s.pins.pressOk = true)
    (herror : s.servo.error.natAbs ≤ s.cfg.bTrack) :
    (acquisitionTest s).act.acquisition = some (s.act.acquisition.getD (s.age + 10 * s.cfg.tAcq)) := by
  have holds : acquisitionHolds s = true := by simp [acquisitionHolds, hpress, herror]
  cases hrunning : s.act.acquisition <;> simp [acquisitionTest, hacquiring, holds, hrunning, ms, Config.perMs]

theorem acquisitionTest_of_fails {s : State} (hacquiring : acquiring s = true)
    (h : s.pins.pressOk = false ∨ s.cfg.bTrack < s.servo.error.natAbs) :
    (acquisitionTest s).act.acquisition = none := by
  have fails : acquisitionHolds s = false := by simpa [acquisitionHolds, imp_iff_not_or] using h
  simp [acquisitionTest, hacquiring, fails]

/-! ### The whole tick -/

/-- The tick up to its report of λ to the sequencer, before the acquisition test. -/
def tickReported (code : Int) (s : State) : State :=
  sequencerOnLevel (firstLockRef (servoStages code s))

theorem servoTickEvent_eq (code : Int) (s : State) :
    servoTickEvent code s = acquisitionTest (tickReported code s) := rfl

@[simp] theorem tickReported_frame (code : Int) (s : State) :
    (tickReported code s).age = s.age ∧ (tickReported code s).cfg = s.cfg ∧
      (tickReported code s).pins.pressOk = s.pins.pressOk ∧ (tickReported code s).pins.loadCode = code ∧
      (tickReported code s).servo.timer = s.servo.timer ∧
      (tickReported code s).servo.lam = (stagesToDrive code s).servo.lam ∧
      (tickReported code s).servo.integral = (stagesToDrive code s).servo.integral ∧
      (tickReported code s).servo.drive = (stagesToDrive code s).servo.drive ∧
      (tickReported code s).servo.fSet = (stagesToDrive code s).servo.fSet ∧
      (tickReported code s).servo.fMeas = (stagesToDrive code s).servo.fMeas ∧
      (tickReported code s).servo.error = (stagesToDrive code s).servo.error := by
  simp [tickReported, servoStages_eq]

theorem servoStages_keptOrTripped (code : Int) (s : State) :
    KeptOrTripped (stagesToDrive code s) (servoStages code s) :=
  bandStage_keptOrTripped _

/-- A tick leaves the actuator's state and puts u on the output, or the actuator trips. -/
theorem servoTickEvent_drive (code : Int) (s : State) :
    let t := servoTickEvent code s
    (t.act.state = s.act.state ∧ t.pins.drive = (stagesToDrive code s).pins.drive) ∨
      (t.act.state = .tripped ∧ t.pins.drive = 0) := by
  have reported := sequencerOnLevel_keptOrTripped (firstLockRef (servoStages code s))
  rcases servoStages_keptOrTripped code s with ⟨hact, hdrive⟩ | ⟨-, htripped, hdrive⟩ <;>
    rcases reported with ⟨hact', hdrive'⟩ | ⟨-, htripped', hdrive'⟩
  · exact .inl (by simp [servoTickEvent, hact, hact', hdrive, hdrive'])
  · exact .inr (by simp [servoTickEvent, htripped', hdrive'])
  · exact .inr (by simp [servoTickEvent, htripped, hact', hdrive, hdrive'])
  · exact .inr (by simp [servoTickEvent, htripped', hdrive'])

/-- A tick of a station in LOCKED does to the actuator unit what `firstLockRef` does: nothing trips it (R84, R94). -/
theorem tickReported_of_locked (code : Int) {s : State} (h : s.act.state = .locked) :
    (servoStages code s).act = s.act ∧ (tickReported code s).act = (firstLockRef (servoStages code s)).act := by
  have stages : (servoStages code s).act = s.act := by
    simpa using (servoStages_keptOrTripped code s).kept_of_locked (by simpa using h)
  exact ⟨stages, (sequencerOnLevel_keptOrTripped _).kept_of_locked (by simp [stages, h])⟩

/-- A tick that has not tripped leaves the acquisition as it found it until the acquisition test. -/
theorem tickReported_acquisition (code : Int) {s : State} (h : (tickReported code s).act.state ≠ .tripped) :
    (tickReported code s).act.acquisition = s.act.acquisition ∧
      (tickReported code s).act.releasing = s.act.releasing := by
  obtain ⟨reported, -⟩ := (sequencerOnLevel_keptOrTripped (firstLockRef (servoStages code s))).kept h
  have untripped : (servoStages code s).act.state ≠ .tripped := by
    simpa [tickReported, reported] using h
  obtain ⟨stages, -⟩ := (servoStages_keptOrTripped code s).kept untripped
  simp [tickReported, reported, stages]

/-! ### SERVO_TICK -/

/-- The station with the servo timer reloaded, as the tick finds it (R56). -/
def tickDue (s : State) : State :=
  { s with servo.timer := some (s.age + 10) }

theorem exec_servoTick {code : Int} {s : State} {due : Nat} (hphase : s.loader.phase = .running)
    (htimer : s.servo.timer = some due) (hdue : due ≤ s.age) :
    exec (.servoTick code) s = .next (startCommands (servoTickEvent code (tickDue s))) := by
  have running : isRunning s = true := by simp [isRunning, hphase]
  have taken : timerEvent s.servo.timer (servoTimerExpires code) s = servoTickEvent code (tickDue s) := by
    rw [timerEvent, whenRunning, if_pos running, htimer, onExpiry, advanceTo_of_le hdue]
    rfl
  exact congrArg (fun t => Host.Outcome.next (startCommands t)) taken

@[simp] theorem servoTickEvent_servo (code : Int) (s : State) :
    (servoTickEvent code s).servo = (tickReported code s).servo := by
  simp [servoTickEvent_eq]

/-- u stands on the drive output after a tick that leaves a state with drive as it is: no command leads back into
one. -/
theorem drive_of_state_kept {code : Int} {s : State} (hdrive : passesDrive s.act.state = true)
    (hstate : (startCommands (servoTickEvent code s)).act.state = s.act.state) :
    (startCommands (servoTickEvent code s)).pins.drive = (stagesToDrive code s).pins.drive := by
  have move := startCommands_move (servoTickEvent code s)
  rcases move.driving (hstate ▸ hdrive) with ⟨hsame, hkept⟩ | ⟨hlive, hlocking⟩ <;>
    rcases servoTickEvent_drive code s with ⟨htick, hu⟩ | ⟨htripped, -⟩
  · exact hkept.trans hu
  · rw [← hstate, hsame, htripped] at hdrive
    cases hdrive
  · rw [← hstate, hlocking, hlive] at htick
    cases htick
  · rw [htripped] at hlive
    cases hlive

theorem drive_of_no_drive {code : Int} {s : State} (h : passesDrive s.act.state = false) :
    (startCommands (servoTickEvent code s)).pins.drive = 0 := by
  obtain ⟨-, houtput, -⟩ := stagesToDrive_of_no_drive code h
  refine (startCommands_move _).driveless ?_
  rcases servoTickEvent_drive code s with ⟨-, hu⟩ | ⟨-, hzero⟩
  · exact hu.trans houtput
  · exact hzero

/-- In LOCKED the lock reference and the lock-check timer stand after the event as `firstLockRef` leaves them. -/
theorem lock_after_tick (code : Int) {s : State} (h : s.act.state = .locked) :
    let t := startCommands (servoTickEvent code s)
    let r := firstLockRef (servoStages code s)
    t.act.lockRef = r.act.lockRef ∧ t.act.lockRefDue = r.act.lockRefDue ∧ t.act.lockCheck = r.act.lockCheck := by
  obtain ⟨stages, reported⟩ := tickReported_of_locked code h
  have locked : (servoTickEvent code s).act.state = .locked := by simp [servoTickEvent_eq, reported, stages, h]
  obtain ⟨-, href, hdue, hcheck⟩ := (startCommands_move (servoTickEvent code s)).locked (.inl locked)
  exact ⟨href.trans (by simp [servoTickEvent_eq, reported]), hdue.trans (by simp [servoTickEvent_eq, reported]),
    hcheck.trans (by simp [servoTickEvent_eq, reported])⟩

/-- The first tick of a LOCKED start takes F_lockref and loads the lock-check timer (R94). -/
theorem lock_after_first_tick (code : Int) {s : State} (hlocked : s.act.state = .locked)
    (hdue : s.act.lockRefDue = true) :
    let t := startCommands (servoTickEvent code s)
    t.act.lockRef = some t.servo.fMeas ∧ t.act.lockRefDue = false ∧
      t.act.lockCheck = some (s.age + (if aeQuiet s then 10000 else 5000) * s.cfg.lockInterval) := by
  obtain ⟨href, hrefDue, hcheck⟩ := lock_after_tick code hlocked
  obtain ⟨stages, -⟩ := tickReported_of_locked code hlocked
  dsimp only
  rw [href, hrefDue, hcheck, firstLockRef_of_due (by rw [stages, hlocked]) (by rw [stages, hdue])]
  simp [loadLockCheck, lockInterval_eq, aeQuiet, servoStages_eq]

/-- A later tick leaves both as they are. -/
theorem lock_after_later_tick (code : Int) {s : State} (hlocked : s.act.state = .locked)
    (hdue : s.act.lockRefDue = false) :
    let t := startCommands (servoTickEvent code s)
    t.act.lockRef = s.act.lockRef ∧ t.act.lockCheck = s.act.lockCheck := by
  obtain ⟨href, -, hcheck⟩ := lock_after_tick code hlocked
  obtain ⟨stages, -⟩ := tickReported_of_locked code hlocked
  dsimp only
  rw [href, hcheck, firstLockRef_of_not_due (by rw [stages, hdue]), stages]
  exact ⟨rfl, rfl⟩

/-- Commands leave the actuator unit of an UNLOCK_CHARGE alone, and none of them enters it. -/
theorem act_of_unlockCharge {code : Int} {s : State}
    (h : (startCommands (servoTickEvent code s)).act.state = .unlockCharge ∨
      (tickReported code s).act.state = .unlockCharge) :
    (tickReported code s).act.state = .unlockCharge ∧
      (startCommands (servoTickEvent code s)).act = (servoTickEvent code s).act := by
  have move := startCommands_move (servoTickEvent code s)
  have reported : (tickReported code s).act.state = .unlockCharge := by
    rcases h with h | h
    · rcases move.driving (by rw [h]; rfl) with ⟨hsame, -⟩ | ⟨-, hlocking⟩
      · rw [h] at hsame
        simpa [servoTickEvent_eq] using hsame.symm
      · rw [h] at hlocking
        cases hlocking
    · exact h
  have ticked : (servoTickEvent code s).act.state = .unlockCharge := by simpa [servoTickEvent_eq] using reported
  exact ⟨reported, move.busy (by rw [ticked]; rfl) (by simp [ticked])⟩

/-- The acquisition test of a tick that leaves an acquiring unlock in UNLOCK_CHARGE (R82). -/
theorem acquisition_after_tick {code : Int} {s : State} (hreleasing : s.act.releasing = false)
    (after : (startCommands (servoTickEvent code s)).act.state = .unlockCharge) :
    let t := startCommands (servoTickEvent code s)
    (s.pins.pressOk = true → t.servo.error.natAbs ≤ s.cfg.bTrack →
        t.act.acquisition = some (s.act.acquisition.getD (s.age + 10 * s.cfg.tAcq))) ∧
      (s.pins.pressOk = false ∨ s.cfg.bTrack < t.servo.error.natAbs → t.act.acquisition = none) := by
  obtain ⟨reported, unmoved⟩ := act_of_unlockCharge (.inl after)
  obtain ⟨hacquisition, hkept⟩ := tickReported_acquisition code (s := s) (by simp [reported])
  have acquires : acquiring (tickReported code s) = true := acquiring_iff.mpr ⟨reported, hkept.trans hreleasing⟩
  dsimp only
  rw [unmoved, servoTickEvent_eq]
  constructor
  · intro press band
    rw [acquisitionTest_of_holds acquires (by simpa using press) (by simpa using band), hacquisition]
    simp
  · intro outside
    exact acquisitionTest_of_fails acquires (by simpa using outside)

/-- An acquiring unlock goes on where the tick raises no OVERLOAD, or the latch is DUMP already (R71, R82, R84). -/
theorem unlockCharge_after_tick {code : Int} {s : State} (hstate : s.act.state = .unlockCharge)
    (hrun : RunNeedsLive s)
    (h : s.servo.overLimit = true ∨ (startCommands (servoTickEvent code s)).servo.fMeas ≤ s.cfg.fLimit ∨
      s.alarm.latch = .dump) :
    (startCommands (servoTickEvent code s)).act.state = .unlockCharge := by
  obtain ⟨hact, hseq⟩ :=
    bandStage_of_unlockCharge (s := stagesToDrive code s) (by simpa using hstate) (by simpa using h)
  have rest : s.seq.state ≠ .run ∧ s.seq.state ≠ .unloading := by
    simpa [RunNeedsLive, hstate] using hrun
  have silent : tickReported code s = firstLockRef (servoStages code s) :=
    sequencerOnLevel_of_rest (by simpa [servoStages_eq, hseq] using rest.1)
      (by simpa [servoStages_eq, hseq] using rest.2)
  have reported : (tickReported code s).act.state = .unlockCharge := by
    simp [silent, servoStages_eq, hact, hstate]
  rw [(act_of_unlockCharge (.inr reported)).2]
  simpa [servoTickEvent_eq] using reported

/-- Settles O21: the values by the stages, which nothing behind stage 7 changes; the drive output, the lock reference
and the acquisition by what raises (`KeptOrTripped`) and started commands (`CommandsMove`) can do to the actuator. -/
theorem servoTickFormsForceAndDrive : Obligations.ServoTickFormsForceAndDrive := by
  refine ⟨?values, ?locked, ?unlocking⟩
  case values =>
    intro s code due hphase htimer hdue
    obtain ⟨hset, hmeas, herror⟩ := stagesToDrive_force code (tickDue s)
    refine ⟨_, exec_servoTick hphase htimer hdue, ?_⟩
    simp only [startCommands_frame, servoTickEvent_servo, tickReported_frame]
    refine ⟨rfl, by simp [servoTickEvent_eq], hset, hmeas, herror, fun hdrive => ?_, fun hdrive => ?_⟩
    · obtain ⟨hu, hintegral, houtput⟩ := stagesToDrive_of_drive code (s := tickDue s) hdrive
      exact ⟨hu, hintegral, fun hstate => (drive_of_state_kept (s := tickDue s) hdrive hstate).trans houtput⟩
    · obtain ⟨hu, -, hintegral⟩ := stagesToDrive_of_no_drive code (s := tickDue s) hdrive
      exact ⟨hu, drive_of_no_drive (s := tickDue s) hdrive, hintegral⟩
  case locked =>
    intro s code due hphase htimer hdue hlocked
    exact ⟨_, exec_servoTick hphase htimer hdue, lock_after_first_tick code (s := tickDue s) hlocked,
      lock_after_later_tick code (s := tickDue s) hlocked⟩
  case unlocking =>
    intro s code due hphase htimer hdue hstate hreleasing
    refine ⟨_, exec_servoTick hphase htimer hdue, fun after press band => ?_, fun after => ?_, ?_⟩
    · obtain ⟨holds, -⟩ := acquisition_after_tick (s := tickDue s) hreleasing after
      rw [holds press band]
      show some (s.act.acquisition.getD (s.age + 10 * s.cfg.tAcq)) = _
      cases s.act.acquisition <;> rfl
    · exact (acquisition_after_tick (s := tickDue s) hreleasing after).2
    · exact unlockCharge_after_tick (s := tickDue s) hstate

end Sys2Proof.Machine

/-! The states without drive (section 5.2, R67): no command but CHARGE_OWN_COMPLETION leads out of them into a
pressurisation. An operation of the model keeps them when it leaves the actuator's state alone, moves it by a trip
(`KeptOrTripped`), or does to it what started commands do (`CommandsMove`). -/
namespace Sys2Proof.Machine

open Sys2Proof

/-! ### Operations that keep the drive off -/

/-- The actuator stands in a state without drive (R67): VENTED, WAIT_WINDOW, LOCKED or TRIPPED. -/
def DriveOff (s : State) : Prop :=
  passesDrive s.act.state = false

/-- An operation that leads out of no state without drive into one with drive. -/
def KeepsDriveOff (f : State → State) : Prop :=
  ∀ s, DriveOff s → DriveOff (f s)

theorem DriveOff.state_ne {s : State} {st : ActState} (h : DriveOff s) (hst : passesDrive st = true) :
    s.act.state ≠ st := by
  rintro rfl
  rw [DriveOff, hst] at h
  cases h

theorem driveOff_of_waitWindow {s : State} (h : s.act.state = .waitWindow) : DriveOff s := by
  simp [DriveOff, h, passesDrive]

theorem KeptOrTripped.driveOff {s t : State} (h : KeptOrTripped s t) (hs : DriveOff s) : DriveOff t := by
  rcases h with ⟨hact, -⟩ | ⟨-, htripped, -⟩
  · simpa [DriveOff, hact] using hs
  · simp [DriveOff, htripped, passesDrive]

theorem CommandsMove.driveOff {s t : State} (h : CommandsMove s t) (hs : DriveOff s) : DriveOff t := by
  by_contra hdriving
  rcases h.driving (by simpa [DriveOff] using hdriving) with ⟨hstate, -⟩ | ⟨hlive, -⟩
  · exact hdriving (by simpa [DriveOff, hstate] using hs)
  · exact hs.state_ne rfl hlive

protected theorem DriveOff.ite {p : Prop} [Decidable p] {s t : State} (hs : DriveOff s) (ht : DriveOff t) :
    DriveOff (if p then s else t) := by
  split
  · exact hs
  · exact ht

theorem startCommands_driveOff {s : State} (hs : DriveOff s) : DriveOff (startCommands s) :=
  (startCommands_move s).driveOff hs

theorem ownCompletes_frame (s : State) :
    (ownCompletes s).act = s.act ∧ (ownCompletes s).age = s.age ∧ (ownCompletes s).cfg = s.cfg := by
  unfold ownCompletes
  dsimp only
  split <;> simp

namespace KeepsDriveOff

variable {f g : State → State}

theorem of_state (h : ∀ s, (f s).act.state = s.act.state) : KeepsDriveOff f := by
  intro s hs
  simpa [DriveOff, h] using hs

theorem of_keptOrTripped (h : ∀ s, KeptOrTripped s (f s)) : KeepsDriveOff f :=
  fun s => (h s).driveOff

theorem comp (hg : KeepsDriveOff g) (hf : KeepsDriveOff f) : KeepsDriveOff (fun s => g (f s)) :=
  fun s hs => hg _ (hf s hs)

theorem guarded {p : State → Prop} [DecidablePred p] (hf : KeepsDriveOff f) :
    KeepsDriveOff (fun s => if p s then f s else s) :=
  fun s hs => .ite (hf s hs) hs

theorem skip : KeepsDriveOff (fun s => s) :=
  fun _ hs => hs

/-! ### The frames of an event: the phase it needs, its timer, its telegram -/

protected theorem whenRunning (hf : KeepsDriveOff f) : KeepsDriveOff (whenRunning f) :=
  fun s hs => .ite (hf s hs) hs

protected theorem advanceTo (t : Nat) : KeepsDriveOff (advanceTo t) := by
  refine of_state fun s => ?_
  exact congrArg (fun u => u.act.state) (advanceTo_frame t s)

protected theorem onExpiry (due : Option Nat) (hf : KeepsDriveOff f) : KeepsDriveOff (onExpiry due f) := by
  cases due with
  | none => exact skip
  | some t => exact hf.comp (KeepsDriveOff.advanceTo t)

protected theorem timerEvent (due : Option Nat) (hf : KeepsDriveOff f) : KeepsDriveOff (timerEvent due f) :=
  (hf.onExpiry due).whenRunning

/-- The actuator unit's own timers run only in states with drive. -/
protected theorem actuatorExpiry {st : ActState} (due : Option Nat) (hst : passesDrive st = true) :
    KeepsDriveOff (actuatorExpiry st due f) := by
  intro s hs
  rw [actuatorExpiry, if_neg (hs.state_ne hst)]
  exact startCommands_driveOff hs

protected theorem fromPeer (sender : Nat) (hf : KeepsDriveOff f) : KeepsDriveOff (fromPeer sender f) :=
  fun s hs => .ite (hf s hs) hs

protected theorem ownCompletion (c : TxClass) (hf : ∀ s, (f s).act.state = s.act.state) :
    KeepsDriveOff (ownCompletion c f) := by
  refine of_state fun s => ?_
  obtain ⟨hact, -, -⟩ := ownCompletes_frame s
  unfold ownCompletion onOwnCompletion
  split
  · split
    · rw [hf, hact]
    · rfl
  · rfl

protected theorem judgeForm (head : CommandHead) (code : Nat) (hf : KeepsDriveOff f) :
    KeepsDriveOff (judgeForm head code f) := by
  intro s hs
  unfold judgeForm
  split
  · exact hs
  · split
    · exact hf s hs
    · exact hs

protected theorem takeCommand (head : CommandHead) (code : Nat) (hf : KeepsDriveOff f) :
    KeepsDriveOff (takeCommand head code f) := by
  intro s hs
  unfold takeCommand
  split
  · split
    · exact hf.judgeForm head code s hs
    · split <;> exact hs
    · exact hs
  · exact hs

end KeepsDriveOff

/-! ### Raises (chapter 8) -/

theorem raiseAlarm_keepsDriveOff (r : Raise) : KeepsDriveOff (raiseAlarm r) :=
  .of_keptOrTripped (raiseAlarm_keptOrTripped r)

theorem raiseOwn_driveOff (kind : AlarmKind) (channel : Nat) (action : Latch) {s : State} (hs : DriveOff s) :
    DriveOff (raiseOwn kind channel action s) :=
  (raiseOwn_keptOrTripped kind channel action s).driveOff hs

theorem causeOn_driveOff (c : Cause) {s : State} (hs : DriveOff s) : DriveOff (causeOn c s) := by
  simpa [DriveOff] using hs

theorem consoleLatch_keepsDriveOff (action : Latch) : KeepsDriveOff (consoleLatch action) := by
  intro s hs
  unfold consoleLatch
  dsimp only
  split
  · exact hs
  · exact (handLatch_keptOrTripped _ { s with alarm.latch := latchMax s.alarm.latch action }).driveOff hs

theorem alarmHeard_keepsDriveOff (sender : Nat) (report : AlarmReport) : KeepsDriveOff (alarmHeard sender report) := by
  intro s hs
  unfold alarmHeard
  split
  · split
    · exact raiseAlarm_keepsDriveOff _ s hs
    · exact hs
  · exact hs

theorem setLineFault_keepsDriveOff : KeepsDriveOff setLineFault := by
  intro s hs
  unfold setLineFault
  dsimp only
  split
  · exact causeOn_driveOff _ (raiseOwn_driveOff _ _ _ hs)
  · exact hs

theorem statusTimerExpires_keepsDriveOff : KeepsDriveOff statusTimerExpires := by
  intro s hs
  unfold statusTimerExpires watchLine
  dsimp only
  split
  · exact setLineFault_keepsDriveOff _ hs
  · exact hs

/-! ### Crack monitor (chapter 7) -/

theorem loopFaults_keepsDriveOff (l : Nat) : KeepsDriveOff (loopFaults l) := by
  intro s hs
  have faulty : DriveOff (setLoopState .fault l s) := hs
  exact raiseOwn_driveOff _ _ _ faulty

theorem loopBreaks_keepsDriveOff (l : Nat) : KeepsDriveOff (loopBreaks l) := by
  intro s hs
  have broken : DriveOff (setEvent .crackBreak (setLoopState .broken l (fillEntry l s))) := by
    simpa [DriveOff] using hs
  exact causeOn_driveOff _ (raiseOwn_driveOff _ _ _ broken)

theorem actOnReading_keepsDriveOff (l : Nat) (reading : LoopReading) : KeepsDriveOff (actOnReading l reading) := by
  intro s hs
  unfold actOnReading
  split
  · exact loopBreaks_keepsDriveOff l s hs
  · exact loopFaults_keepsDriveOff l s hs
  · exact loopFaults_keepsDriveOff l s hs
  · exact loopFaults_keepsDriveOff l s hs
  · exact hs

theorem takeReading_keepsDriveOff (l : Nat) (reading : LoopReading) : KeepsDriveOff (takeReading l reading) :=
  fun _ hs => actOnReading_keepsDriveOff l reading _ hs

theorem senseLoop_keepsDriveOff (l : Nat) (reading : LoopReading) : KeepsDriveOff (senseLoop l reading) := by
  intro s hs
  unfold senseLoop
  dsimp only
  split_ifs
  · exact hs
  · exact hs
  · exact takeReading_keepsDriveOff l reading s hs
  · exact hs

theorem senseLoops_keepsDriveOff (l : Nat) (readings : List LoopReading) : KeepsDriveOff (senseLoops l readings) := by
  induction readings generalizing l with
  | nil => exact .skip
  | cons reading rest ih => exact (ih (l + 1)).comp (senseLoop_keepsDriveOff l reading)

theorem startReadLoop_keepsDriveOff (l : Nat) (reading : LoopReading) : KeepsDriveOff (startReadLoop l reading) := by
  intro s hs
  unfold startReadLoop
  dsimp only
  split_ifs
  · exact hs
  · exact loopFaults_keepsDriveOff l _ hs
  · exact hs

theorem startReadLoops_keepsDriveOff (l : Nat) (readings : List LoopReading) :
    KeepsDriveOff (startReadLoops l readings) := by
  induction readings generalizing l with
  | nil => exact .skip
  | cons reading rest ih => exact (ih (l + 1)).comp (startReadLoop_keepsDriveOff l reading)

theorem bandChanged_keepsDriveOff (i : Nat) (old new : AeBand) : KeepsDriveOff (bandChanged i old new) := by
  intro s hs
  unfold bandChanged
  split
  · exact hs
  · exact causeOn_driveOff _ (raiseOwn_driveOff _ _ _ hs)
  · exact causeOn_driveOff _ (raiseOwn_driveOff _ _ _ hs)
  · exact hs
  · exact hs
  · exact hs

theorem judgeBand_keepsDriveOff (i : Nat) : KeepsDriveOff (judgeBand i) := by
  intro s hs
  unfold judgeBand
  dsimp only
  split
  · exact hs
  · exact bandChanged_keepsDriveOff i _ _ _ hs

theorem ageInput_keepsDriveOff (i : Nat) : KeepsDriveOff (ageInput i) := by
  intro s hs
  unfold ageInput
  dsimp only
  split
  · exact hs
  · exact judgeBand_keepsDriveOff i _ hs

theorem takePulse_keepsDriveOff (i : Nat) : KeepsDriveOff (takePulse i) := by
  intro s hs
  unfold takePulse
  split
  · exact hs
  · exact judgeBand_keepsDriveOff i _ hs

theorem loopScanEvent_keepsDriveOff (readings : List LoopReading) : KeepsDriveOff (loopScanEvent readings) := by
  intro s hs
  have sensed := senseLoops_keepsDriveOff 0 (readings.take 8) { s with pins.loopReadings := readings.take 8 } hs
  unfold loopScanEvent
  dsimp only
  exact ageInput_keepsDriveOff 3 _ (ageInput_keepsDriveOff 2 _ (ageInput_keepsDriveOff 1 _ (ageInput_keepsDriveOff 0 _
    sensed)))

theorem takeCandidate_keepsDriveOff (l : Nat) : KeepsDriveOff (takeCandidate l) := by
  intro s hs
  unfold takeCandidate
  split
  · split
    · exact takeReading_keepsDriveOff l _ s hs
    · exact hs
  · exact hs

/-! ### Strain scanner (chapter 6) -/

theorem exceedReached_keepsDriveOff (c : Nat) : KeepsDriveOff (exceedReached c) := by
  intro s hs
  unfold exceedReached
  split
  · exact hs
  · exact causeOn_driveOff _ (raiseOwn_driveOff _ _ _ hs)

theorem limitCheck_keepsDriveOff (c : Nat) : KeepsDriveOff (limitCheck c) := by
  intro s hs
  unfold limitCheck
  dsimp only
  split_ifs
  · exact hs
  · exact exceedReached_keepsDriveOff c s hs
  · exact hs
  · exact hs

theorem limitChecks_keepsDriveOff (c n : Nat) : KeepsDriveOff (limitChecks c n) := by
  induction n generalizing c with
  | zero => exact .skip
  | succ n ih => exact (ih (c + 1)).comp (limitCheck_keepsDriveOff c)

theorem completeRun_keepsDriveOff : KeepsDriveOff completeRun := by
  intro s hs
  have checked := limitChecks_keepsDriveOff 0 16 (updateEnabled (fun _ ch => formAverage s.scan.runLength ch) s) hs
  simpa [completeRun, DriveOff] using checked

theorem judgeChannel_keepsDriveOff (c : Nat) : KeepsDriveOff (judgeChannel c) := by
  intro s hs
  unfold judgeChannel
  dsimp only
  split_ifs
  · exact hs
  · exact raiseOwn_driveOff _ _ _ hs
  · exact hs

theorem judgeChannels_keepsDriveOff (c n : Nat) : KeepsDriveOff (judgeChannels c n) := by
  induction n generalizing c with
  | zero => exact .skip
  | succ n ih => exact (ih (c + 1)).comp (judgeChannel_keepsDriveOff c)

theorem shuntEnds_keepsDriveOff : KeepsDriveOff shuntEnds := by
  intro s hs
  have judged := judgeChannels_keepsDriveOff 0 16 s hs
  unfold shuntEnds
  dsimp only
  split <;> simpa [DriveOff] using judged

theorem advanceShunt_keepsDriveOff (samples : List (Int × Bool)) : KeepsDriveOff (advanceShunt samples) := by
  intro s hs
  unfold advanceShunt
  split
  case h_4 =>
    split
    · exact shuntEnds_keepsDriveOff s hs
    · exact hs
  case h_5 => exact hs
  all_goals
    dsimp only
    split
    · simpa [DriveOff] using hs
    · exact hs

theorem endZero_keepsDriveOff : KeepsDriveOff endZero := by
  intro s hs
  unfold endZero
  split
  · split
    · simpa [DriveOff] using hs
    · exact hs
  · exact hs

theorem scanTimerExpires_keepsDriveOff (codes : List Int) (loadCode : Int) :
    KeepsDriveOff (scanTimerExpires codes loadCode) := by
  intro s hs
  have completed : KeepsDriveOff completeIfDue := completeRun_keepsDriveOff.guarded
  have zeroed : KeepsDriveOff (advanceZero codes) := .of_state (by simp)
  have scanned : KeepsDriveOff scanCompleted := .of_state (by simp)
  exact scanned _ (advanceShunt_keepsDriveOff _ _ (zeroed _ (completed _ hs)))

/-! ### Force servo and level sequencer (chapters 3 and 4) -/

theorem servoTimerExpires_keepsDriveOff (code : Int) : KeepsDriveOff (servoTimerExpires code) := by
  intro s hs
  rcases servoTickEvent_drive code { s with servo.timer := some (s.age + ms 1) } with ⟨hstate, -⟩ | ⟨htripped, -⟩
  · simpa [DriveOff, servoTimerExpires, hstate] using hs
  · simp [DriveOff, servoTimerExpires, htripped, passesDrive]

theorem tripCountReached_keepsDriveOff : KeepsDriveOff tripCountReached :=
  fun _ hs => raiseOwn_driveOff _ _ _ hs

theorem mismatchExpires_keepsDriveOff : KeepsDriveOff mismatchExpires :=
  fun _ hs => raiseOwn_driveOff _ _ _ hs

theorem dwellExpiry_keepsDriveOff (timer : HoldTimer) {f : State → State} (hf : ∀ s, KeptOrTripped s (f s)) :
    KeepsDriveOff (dwellExpiry timer f) :=
  fun s hs => .ite ((KeepsDriveOff.of_keptOrTripped hf).timerEvent _ s hs) hs

theorem resumeDwell_keptOrTripped (s : State) : KeptOrTripped s (resumeDwell s) := by
  have entered : KeptOrTripped s (dwellEntered s) := .of_kept (by simp) (by simp)
  unfold resumeDwell
  split
  · split
    · exact entered.trans (startExtension_keptOrTripped _ _)
    · exact .of_kept (by simp) (by simp)
  · exact entered.trans (startHold_keptOrTripped _ _)

theorem sequencerOnResume_keptOrTripped (s : State) : KeptOrTripped s (sequencerOnResume s) := by
  have returned : KeptOrTripped s (setSequencer { s.seq with state := .run } s) := .of_kept (by simp) (by simp)
  unfold sequencerOnResume
  split
  · dsimp only
    split
    · exact returned.trans (resumeDwell_keptOrTripped _)
    · exact .of_kept (by simp) (by simp)
    · exact returned
  · exact .of_kept rfl rfl

/-! ### Peer table (chapter 2) -/

theorem takePeerStatus_keepsDriveOff (n : Nat) (report : StatusReport) : KeepsDriveOff (takePeerStatus n report) := by
  intro s hs
  have raised : DriveOff (actionEdge n report.latch s) := by
    unfold actionEdge
    dsimp only
    split
    · simpa [DriveOff] using raiseOwn_driveOff .peerAction n report.latch hs
    · simpa [DriveOff] using hs
  simpa [takePeerStatus, DriveOff] using raised

theorem peerExpires_keepsDriveOff (n : Nat) : KeepsDriveOff (peerExpires n) := by
  have lost : KeepsDriveOff (decideLost n) := by
    intro s hs
    unfold decideLost
    split
    · have marked : DriveOff (updatePeer (fun p => { p with lost := true }) n s) := by simpa [DriveOff] using hs
      exact causeOn_driveOff _ (raiseOwn_driveOff _ _ _ marked)
    · exact hs
  have told : KeepsDriveOff (fun s => if isMember n s then updatePeerFlags s else s) :=
    (KeepsDriveOff.of_state (by simp)).guarded
  have released : KeepsDriveOff (holderAbsent n) := .of_state (by simp)
  have asked : KeepsDriveOff (fun s => if isMember n s then askGate s else s) :=
    (KeepsDriveOff.of_state (by simp)).guarded
  have aged : KeepsDriveOff (updatePeer (fun p => { p with present := false, expiry := none }) n) :=
    .of_state (by simp)
  exact fun s hs => asked _ (released _ (lost _ (told _ (aged s hs))))

theorem recordExpiry_keepsDriveOff (n : Nat) : KeepsDriveOff (recordExpiry n) := by
  intro s hs
  unfold recordExpiry
  split
  · exact hs
  · exact (peerExpires_keepsDriveOff n).timerEvent _ s hs

/-! ### Actuator unit (chapter 5): inputs, trips and lock checks -/

theorem pressOkEvent_keepsDriveOff (level : Bool) : KeepsDriveOff (pressOkEvent level) := by
  have changed : KeepsDriveOff pressOkChanged := by
    intro s hs
    unfold pressOkChanged
    split
    case isTrue h => exact absurd h.1 (hs.state_ne rfl)
    case isFalse => split <;> exact hs
  exact fun _ hs => .ite (startCommands_driveOff (changed.whenRunning _ hs)) hs

theorem makeLockCheck_keepsDriveOff : KeepsDriveOff makeLockCheck := by
  intro s hs
  unfold makeLockCheck
  split
  · exact hs
  · split
    · exact raiseOwn_driveOff _ _ _ hs
    · exact hs

theorem lockEngagedEvent_keepsDriveOff (level : Bool) : KeepsDriveOff (lockEngagedEvent level) := by
  have changed : KeepsDriveOff lockEngagedChanged := by
    intro s hs
    unfold lockEngagedChanged
    split_ifs with hlocking _ hreleasing
    · exact absurd hlocking.1 (hs.state_ne rfl)
    · exact makeLockCheck_keepsDriveOff s hs
    · exact absurd hreleasing.1 (hs.state_ne rfl)
    · exact hs
  exact fun _ hs => .ite (startCommands_driveOff (changed.whenRunning _ hs)) hs

theorem raiseEstop_keepsDriveOff : KeepsDriveOff raiseEstop :=
  fun _ hs => causeOn_driveOff _ (raiseOwn_driveOff _ _ _ hs)

theorem tripOnEstop_keepsDriveOff : KeepsDriveOff tripOnEstop := by
  intro s hs
  unfold tripOnEstop
  split
  · exact hs
  · simp [DriveOff, passesDrive]

theorem estopActiveEvent_keepsDriveOff : KeepsDriveOff estopActiveEvent :=
  fun _ hs =>
    .ite (startCommands_driveOff (raiseEstop_keepsDriveOff.whenRunning _ (tripOnEstop_keepsDriveOff _ hs))) hs

theorem estopInactiveEvent_keepsDriveOff : KeepsDriveOff estopInactiveEvent := by
  have cleared : KeepsDriveOff (causeOff .estop) := .of_state (by simp)
  exact fun _ hs => .ite (cleared.whenRunning _ hs) hs

/-! ### Start-up (chapter 11) -/

theorem start_driveOff (cause : StartCause) (levels : StartLevels) (pending : List Instr) :
    DriveOff (State.start cause levels pending) := by
  simp only [DriveOff, start_act, Actuator.reset]
  split_ifs <;> rfl

theorem distribute_keepsDriveOff (loops : List LoopReading) : KeepsDriveOff (distribute loops) := by
  have estop : KeepsDriveOff startEstop := raiseEstop_keepsDriveOff.guarded
  exact fun _ hs => startReadLoops_keepsDriveOff _ _ _ (estop _ hs)

theorem readingEnds_keepsDriveOff (straps : Nat) (image : List Byte) (loops : List LoopReading) :
    KeepsDriveOff (readingEnds straps image loops) := by
  intro s hs
  unfold readingEnds
  dsimp only
  split
  · exact distribute_keepsDriveOff loops _ hs
  · exact hs

/-! ### Line unit and record memory (chapters 1 and 9): the actuator unit is not told -/

theorem opportunity_keepsDriveOff : KeepsDriveOff opportunity := by
  refine .of_state fun s => ?_
  unfold opportunity offerClass takeStatus
  split
  · split
    · rfl
    · split
      · dsimp only
        split <;> rfl
      · rfl
  · rfl

theorem withdrawOffer_keepsDriveOff : KeepsDriveOff withdrawOffer := by
  refine .of_state fun s => ?_
  unfold withdrawOffer releaseTake releaseShuntSlot
  split
  · rfl
  · dsimp only
    split
    · rfl
    · split <;> rfl
    · rfl

theorem answerAllEmpty_act (requests : List FetchRequest) (s : State) : (answerAllEmpty requests s).act = s.act := by
  induction requests generalizing s with
  | nil => rfl
  | cons r rest ih => simp [answerAllEmpty, ih]

theorem partCompletes_act (s : State) : (partCompletes s).act = s.act := by
  unfold partCompletes dataCompleted
  split
  · split
    · rfl
    · split
      · simp [sendingEnds, expireAfterSending, answerAllEmpty_act]
      · simp
  · rfl

theorem releaseShuntSlot_act (keep : Option ShuntTelegram) (s : State) : (releaseShuntSlot keep s).act = s.act := by
  unfold releaseShuntSlot
  split <;> rfl

theorem noticeIfEmpty_act (s : State) : (noticeIfEmpty s).act = s.act := by
  unfold noticeIfEmpty shuntSlotEmptied
  split
  · split <;> simp
  · rfl

theorem ownClaimCompleted_act (s : State) : (ownClaimCompleted s).act = s.act := by
  unfold ownClaimCompleted
  split
  · split <;> simp
  · rfl

theorem ownClaimCompletes_act (s : State) : (ownClaimCompletes s).act = s.act := by
  unfold ownClaimCompletes
  split
  · split
    · rfl
    · dsimp only
      rw [noticeIfEmpty_act, ownClaimCompleted_act]
      split <;> simp [releaseShuntSlot_act]
  · rfl

theorem ownDoneCompletes_act (s : State) : (ownDoneCompletes s).act = s.act := by
  unfold ownDoneCompletes
  split
  · split
    · dsimp only
      rw [noticeIfEmpty_act]
      split <;> simp [releaseShuntSlot_act]
    · rfl
  · rfl

theorem fetchExpiry_keepsDriveOff : KeepsDriveOff fetchExpiry := by
  intro s hs
  unfold fetchExpiry
  split
  · split
    · exact hs
    · simpa [DriveOff, expireRequest] using KeepsDriveOff.advanceTo _ s hs
  · exact hs

/-! ### Commands of a console, judged by their owners (chapter 10) -/

theorem programRequest_act (head : CommandHead) (q : SegmentRequest) (s : State) :
    (programRequest head q s).act = s.act := by
  unfold programRequest askIfChanged
  split
  · rfl
  · split <;> simp [answerDone, answer]

theorem clearprogRequest_act (head : CommandHead) (s : State) : (clearprogRequest head s).act = s.act := by
  unfold clearprogRequest
  split <;> simp [answerDone, answerRefused, answer]

theorem runRequest_act (head : CommandHead) (s : State) : (runRequest head s).act = s.act := by
  unfold runRequest
  split <;> simp [answerDone, answerRefused, answer]

theorem resumeRequest_keepsDriveOff (head : CommandHead) : KeepsDriveOff (resumeRequest head) := by
  intro s hs
  unfold resumeRequest
  split
  · exact (sequencerOnResume_keptOrTripped _).driveOff hs
  · exact hs

theorem ackRequest_act (head : CommandHead) (all source kind channel : Nat) (s : State) :
    (ackRequest head all source kind channel s).act = s.act := by
  unfold ackRequest
  split_ifs <;> rfl

theorem acceptRequest_act (head : CommandHead) (l : Nat) (s : State) : (acceptRequest head l s).act = s.act := by
  unfold acceptRequest
  split_ifs <;> rfl

theorem fetchRequest_act (head : CommandHead) (which wait : Nat) (s : State) :
    (fetchRequest head which wait s).act = s.act := by
  unfold fetchRequest
  split_ifs
  · rfl
  · unfold fetchOldest
    split
    · simp [answerDone, answer]
    · split_ifs <;> rfl
  · unfold fetchBlock
    split
    · rfl
    · rfl
    · split <;> simp [answerDone, answerRefused, answer]

theorem freeRequest_act (head : CommandHead) (n : Nat) (s : State) : (freeRequest head n s).act = s.act := by
  unfold freeRequest
  split
  · rfl
  · split <;> rfl

theorem cutRequest_act (head : CommandHead) (s : State) : (cutRequest head s).act = s.act := by
  unfold cutRequest
  split <;> simp [answerDone, answerRefused, answer]

theorem takeQueued_keepsDriveOff (head : CommandHead) (kind : QueuedKind) : KeepsDriveOff (takeQueued head kind) := by
  refine KeepsDriveOff.takeCommand head _ fun s hs => ?_
  unfold enqueue
  split
  · exact startCommands_driveOff hs
  · exact hs

/-! ### Whole commands -/

/-- A telegram of another station, or a command of a console. -/
theorem handOn_keepsDriveOff (c : Instr) : KeepsDriveOff (handOn c) := by
  have taken {f : State → State} (head : CommandHead) (code : Nat) (hf : ∀ s, (f s).act = s.act) :
      KeepsDriveOff (takeCommand head code f) :=
    .takeCommand head code (.of_state fun s => by rw [hf])
  have held {f : State → State} (sender : Nat) (hf : ∀ s, (f s).act.state = s.act.state) :
      KeepsDriveOff (fromPeer sender f) :=
    .fromPeer sender (.of_state hf)
  cases c
  case statusReceived sender report =>
    exact fun s hs => startCommands_driveOff ((takePeerStatus_keepsDriveOff sender report).fromPeer sender s hs)
  case alarmHeard sender report =>
    exact fun s hs => startCommands_driveOff ((alarmHeard_keepsDriveOff sender report).fromPeer sender s hs)
  case chargeHeard sender _ => exact held sender (by simp)
  case shuntClaimHeard sender group => exact held sender fun s => by split <;> simp
  case shuntDoneHeard sender group => exact held sender fun s => by split <;> simp
  case commandUnknownKind head kind => exact (taken head kind fun _ => rfl).guarded
  case program head q => exact taken head _ (programRequest_act head q)
  case clearprog head => exact taken head _ (clearprogRequest_act head)
  case run head => exact taken head _ (runRequest_act head)
  case hold head => exact .takeCommand head _ fun _ hs => consoleLatch_keepsDriveOff _ _ hs
  case unload head => exact .takeCommand head _ fun _ hs => consoleLatch_keepsDriveOff _ _ hs
  case resume head =>
    exact fun s hs => startCommands_driveOff ((resumeRequest_keepsDriveOff head).takeCommand head _ s hs)
  case ack head all source kind channel => exact taken head _ (ackRequest_act head all source kind channel)
  case accept head l => exact taken head _ (acceptRequest_act head l)
  case fetch head which wait => exact taken head _ (fetchRequest_act head which wait)
  case free head n => exact taken head _ (freeRequest_act head n)
  case cut head => exact taken head _ (cutRequest_act head)
  case timeset head tag => exact taken head _ fun _ => rfl
  case queryCrack head l => exact taken head _ fun s => by unfold queryCrackRequest; split <;> rfl
  case queryAlarms head start => exact taken head _ fun _ => rfl
  case queryStrain head half => exact taken head _ fun s => by unfold queryStrainRequest; split <;> rfl
  case queryPeer head n => exact taken head _ fun s => by unfold queryPeerRequest; split <;> rfl
  case queryOtherSubject head subject _ =>
    exact fun s hs => .ite hs (taken (f := answerRefused head queryCode .range) head _ (fun _ => rfl) s hs)
  case charge head => exact takeQueued_keepsDriveOff head .charge
  case vent head => exact takeQueued_keepsDriveOff head .vent
  case lock head => exact takeQueued_keepsDriveOff head .lock
  case unlock head => exact takeQueued_keepsDriveOff head .unlock
  case cleartrip head => exact takeQueued_keepsDriveOff head .cleartrip
  case zero head => exact takeQueued_keepsDriveOff head .zero
  case shunt head => exact takeQueued_keepsDriveOff head .shunt
  all_goals exact .skip

theorem receiveBytes_keepsDriveOff (heard : HeardTelegram) : KeepsDriveOff (receiveBytes heard) := by
  intro s hs
  unfold receiveBytes
  split
  · exact handOn_keepsDriveOff _ s hs
  · exact hs

/-- Every command but CHARGE_OWN_COMPLETION leaves a station without drive without drive; the rows of telegrams are
what `handOn` makes of them. -/
theorem exec_keepsDriveOff {c : Instr} {s t : State} (hc : c ≠ .chargeOwnCompletion) (h : exec c s = .next t)
    (hs : DriveOff s) : DriveOff t := by
  have heard := handOn_keepsDriveOff c s hs
  have started {f : State → State} (hf : KeepsDriveOff f) : DriveOff (startCommands (f s)) :=
    startCommands_driveOff (hf s hs)
  cases c
  case chargeOwnCompletion => exact absurd rfl hc
  all_goals cases h
  case powerUp => exact start_driveOff _ _ _
  case resetPinAssert => exact start_driveOff .pin _ s.pending
  case resetPinRelease levels => exact .ite (start_driveOff _ _ _) hs
  case readingEnd straps image loops => exact .ite (readingEnds_keepsDriveOff straps image loops s hs) hs
  case arbitrationOpportunity => exact opportunity_keepsDriveOff s hs
  case arbitrationLoss => exact .ite (withdrawOffer_keepsDriveOff s hs) hs
  case telegramAbandon => exact .ite (withdrawOffer_keepsDriveOff s hs) hs
  case receivedTelegramDiscard bytes => exact receiveBytes_keepsDriveOff bytes s hs
  case statusTimerExpiry => exact .ite (statusTimerExpires_keepsDriveOff.onExpiry _ s hs) hs
  case statusOwnCompletion => exact KeepsDriveOff.ownCompletion (f := statusCompletes) _ (fun _ => rfl) s hs
  case alarmOwnCompletion => exact KeepsDriveOff.ownCompletion (f := alarmCompletes) _ (fun _ => rfl) s hs
  case replyOwnCompletion => exact KeepsDriveOff.ownCompletion (f := replyCompletes) _ (fun _ => rfl) s hs
  case dataOwnCompletion => exact KeepsDriveOff.ownCompletion _ (fun s => by rw [partCompletes_act]) s hs
  case shuntClaimOwnCompletion =>
    exact .ite hs (KeepsDriveOff.ownCompletion _ (fun s => by rw [ownClaimCompletes_act]) s hs)
  case shuntDoneOwnCompletion =>
    exact .ite (KeepsDriveOff.ownCompletion _ (fun s => by rw [ownDoneCompletes_act]) s hs) hs
  case peerRecordExpiry n => exact recordExpiry_keepsDriveOff n s hs
  case windowTimerExpiry => exact (KeepsDriveOff.of_state (by simp)).timerEvent _ s hs
  case servoTick code => exact started ((servoTimerExpires_keepsDriveOff code).timerEvent _)
  case tripCountReached => exact started (tripCountReached_keepsDriveOff.guarded).whenRunning
  case reacquireTimerExpiry =>
    exact KeepsDriveOff.timerEvent (f := fun s => { s with servo.reacquire := none }) _ (.of_state fun _ => rfl) s hs
  case holdTimerExpiry => exact started (dwellExpiry_keepsDriveOff _ judgeSettle_keptOrTripped)
  case extensionTimerExpiry => exact started (dwellExpiry_keepsDriveOff _ extensionExpired_keptOrTripped)
  case mismatchTimerExpiry => exact mismatchExpires_keepsDriveOff.timerEvent _ s hs
  case pressOkChange level => exact pressOkEvent_keepsDriveOff level s hs
  case lockEngagedChange level => exact lockEngagedEvent_keepsDriveOff level s hs
  case estopActive => exact estopActiveEvent_keepsDriveOff s hs
  case estopInactive => exact estopInactiveEvent_keepsDriveOff s hs
  case chargeTimerExpiry => exact KeepsDriveOff.actuatorExpiry _ rfl s hs
  case lockTimerExpiry => exact KeepsDriveOff.actuatorExpiry _ rfl s hs
  case acquisitionTimerExpiry => exact KeepsDriveOff.actuatorExpiry _ rfl s hs
  case unlockDeadlineExpiry => exact KeepsDriveOff.actuatorExpiry _ rfl s hs
  case lockCheckTimerExpiry =>
    exact started (KeepsDriveOff.timerEvent _ fun _ hs => makeLockCheck_keepsDriveOff _ hs)
  case scan codes loadCode => exact started ((scanTimerExpires_keepsDriveOff codes loadCode).timerEvent _)
  case averagingRunComplete => exact started (completeRun_keepsDriveOff.guarded).whenRunning
  case exceedRunReachesM channel => exact started ((exceedReached_keepsDriveOff channel).guarded).whenRunning
  case settleWindowExpiry => exact (KeepsDriveOff.of_state (by simp)).timerEvent _ s hs
  case zeroComplete => exact started endZero_keepsDriveOff.whenRunning
  case shuntSpanEnd => exact (KeepsDriveOff.of_state (by simp)).guarded.whenRunning s hs
  case shuntJudgement => exact started (shuntEnds_keepsDriveOff.guarded).whenRunning
  case loopScan readings =>
    exact started (KeepsDriveOff.timerEvent _ fun _ hs => loopScanEvent_keepsDriveOff readings _ hs)
  case loopReadingTaken l => exact started (takeCandidate_keepsDriveOff l).whenRunning
  case aeHit i => exact started ((takePulse_keepsDriveOff i).guarded).whenRunning
  case deadTimeExpiry i => exact (KeepsDriveOff.of_state (by simp)).timerEvent _ s hs
  case captureEnd => exact (KeepsDriveOff.of_state (f := captureEnds) fun _ => rfl).guarded.whenRunning s hs
  case fetchRequestExpiry => exact fetchExpiry_keepsDriveOff.whenRunning s hs
  all_goals exact heard

end Sys2Proof.Machine

/-! The pump window (section 5.6): what the completion of an own CHARGE telegram does to the charge list, the slot and
the wait, and that no other command ends a wait with a pressurisation. -/
namespace Sys2Proof.Machine

open Sys2Proof

/-! ### The charge list (R88) -/

theorem consultList_eq (s : State) : consultList s = { s with act.chargeList := inWindow s } := rfl

theorem mem_inWindow {e : ChargeEntry} {s : State} :
    e ∈ inWindow s ↔ e ∈ s.act.chargeList ∧ s.age - e.age < 10 * s.cfg.wPump := by
  simp [inWindow]

theorem mem_withOwnCharge {e : ChargeEntry} {s : State} (h : e ∈ withOwnCharge s) :
    e ∈ s.act.chargeList ∨ e = { station := ownStation s, age := s.age } := by
  refine (List.mem_append.mp h).imp (fun hkept => ?_) List.mem_singleton.mp
  split at hkept
  · exact List.mem_of_mem_drop hkept
  · exact hkept

/-- The station with its charge list consulted and its own completion appended (R88, R90). -/
def ownCounted (s : State) : State :=
  { s with act.chargeList := withOwnCharge (consultList s) }

@[simp] theorem ownCounted_frame (s : State) :
    (ownCounted s).age = s.age ∧ (ownCounted s).cfg = s.cfg ∧ (ownCounted s).pins = s.pins ∧
      (ownCounted s).line = s.line ∧ (ownCounted s).recs = s.recs ∧ (ownCounted s).cmd = s.cmd ∧
      (ownCounted s).act.state = s.act.state ∧ (ownCounted s).act.ownPlaced = s.act.ownPlaced := by
  simp [ownCounted]

theorem ownCounted_chargeList_of_few {s : State} (h : (inWindow s).length < 4) :
    (ownCounted s).act.chargeList = inWindow s ++ [{ station := ownStation s, age := s.age }] := by
  have room : ¬ 8 ≤ (inWindow s).length := by omega
  simp [ownCounted, withOwnCharge, consultList_eq, room, ownStation]

/-- Entries in window are in it with the own completion of this moment, at which none is older than before. -/
theorem inWindow_ownCounted {s : State} (h : inWindow s ≠ []) :
    inWindow (ownCounted s) = (ownCounted s).act.chargeList := by
  obtain ⟨counted, hcounted⟩ := List.exists_mem_of_ne_nil _ h
  have window := (mem_inWindow.mp hcounted).2
  refine List.filter_eq_self.mpr fun e he => decide_eq_true ?_
  show s.age - e.age < 10 * s.cfg.wPump
  rcases mem_withOwnCharge he with hearlier | rfl
  · exact (mem_inWindow.mp hearlier).2
  · show s.age - s.age < 10 * s.cfg.wPump
    omega

theorem length_ownCounted_of_many {s : State} (h : 4 ≤ (inWindow s).length) :
    4 ≤ (ownCounted s).act.chargeList.length := by
  dsimp only [ownCounted, withOwnCharge, consultList_eq]
  split <;> simp <;> omega

/-! ### The decision of the pump window (R90) -/

theorem decideWindow_eq (s : State) :
    decideWindow s =
      if (inWindow s).length < 4 then
        match s.act.purpose with
        | some .charge => enterCharging (ownCounted s)
        | some .unlock => enterUnlockCharge (ownCounted s)
        | none => ownCounted s
      else ownCounted s := rfl

theorem decideWindow_of_charge {s : State} (hcount : (inWindow s).length < 4) (h : s.act.purpose = some .charge) :
    decideWindow s = enterCharging (ownCounted s) := by
  rw [decideWindow_eq, if_pos hcount, h]

theorem decideWindow_of_unlock {s : State} (hcount : (inWindow s).length < 4) (h : s.act.purpose = some .unlock) :
    decideWindow s = enterUnlockCharge (ownCounted s) := by
  rw [decideWindow_eq, if_pos hcount, h]

theorem decideWindow_of_many {s : State} (hcount : 4 ≤ (inWindow s).length) : decideWindow s = ownCounted s := by
  rw [decideWindow_eq, if_neg (by omega)]

/-! ### The emptied slot (R89) -/

theorem chargeSlotEmptied_of_not_waiting {s : State} (h : s.act.state ≠ .waitWindow) : chargeSlotEmptied s = s := by
  simp [chargeSlotEmptied, h]

/-- The station as an emptied slot leaves it that places nothing: the list consulted, no telegram held. -/
def waitConsulted (s : State) : State :=
  { s with act.ownHeld := false, act.chargeList := inWindow s }

theorem chargeSlotEmptied_of_many {s : State} (hstate : s.act.state = .waitWindow) (h : 4 ≤ (inWindow s).length) :
    chargeSlotEmptied s = waitConsulted s := by
  have full : ¬ (inWindow s).length < 4 := by omega
  rw [chargeSlotEmptied, if_pos hstate, judgeWait]
  exact if_neg fun hplace => full hplace.2.2

/-- A wait whose telegram has left the slot empty places a new one where fewer than 4 entries are in window. -/
theorem chargeSlotEmptied_of_waiting {s : State} {p : ChargePurpose} (hstate : s.act.state = .waitWindow)
    (hplaced : s.act.ownPlaced = none) (hslot : s.line.chargeSlot = none) (hpurpose : s.act.purpose = some p) :
    chargeSlotEmptied s =
      { waitConsulted s with
        line.chargeSlot := if (inWindow s).length < 4 then some p else none
        act.ownPlaced := if (inWindow s).length < 4 then some true else none } := by
  by_cases few : (inWindow s).length < 4
  · have untelegrammed : ownCharge (waitConsulted s) = false := by simp [ownCharge, waitConsulted, hplaced]
    have placed : chargeSlotEmptied s = placeCharge (waitConsulted s) := by
      rw [chargeSlotEmptied, if_pos hstate, judgeWait]
      exact if_pos ⟨hstate, untelegrammed, few⟩
    simp [placed, placeCharge, waitConsulted, hslot, hpurpose, few]
  · rw [chargeSlotEmptied_of_many hstate (by omega), if_neg few, if_neg few, ← hplaced, ← hslot]
    rfl

/-! ### CHARGE_OWN_COMPLETION -/

/-- The station with its own CHARGE telegram completed and out of the slot, as the actuator unit is told of it. -/
def chargeSent (s : State) : State :=
  { completed s with line.chargeSlot := none, act.ownPlaced := none }

/-- The same with its entry appended and no decision taken (R91). -/
def chargeRecorded (s : State) : State :=
  { chargeSent s with act.chargeList := withOwnCharge s }

@[simp] theorem chargeSent_frame (s : State) :
    (chargeSent s).age = s.age ∧ (chargeSent s).cfg = s.cfg ∧ (chargeSent s).loader = s.loader ∧
      (chargeSent s).pins = s.pins ∧ (chargeSent s).recs = s.recs ∧ (chargeSent s).cmd = s.cmd ∧
      (chargeSent s).line.replyQ = s.line.replyQ ∧ (chargeSent s).line.heldReplies = s.line.heldReplies ∧
      (chargeSent s).line.chargeSlot = none ∧ (chargeSent s).act.ownPlaced = none ∧
      (chargeSent s).act.state = s.act.state := by
  simp [chargeSent, completed]

@[simp] theorem chargeRecorded_frame (s : State) :
    (chargeRecorded s).cmd = s.cmd ∧ (chargeRecorded s).line.chargeSlot = none ∧
      (chargeRecorded s).act.ownPlaced = none ∧ (chargeRecorded s).act.state = s.act.state ∧
      (chargeRecorded s).act.purpose = s.act.purpose := by
  simp [chargeRecorded, chargeSent, completed]

theorem chargeSent_counted_chargeList {s : State} (h : (inWindow s).length < 4) :
    (ownCounted (chargeSent s)).act.chargeList = inWindow s ++ [{ station := ownStation s, age := s.age }] :=
  ownCounted_chargeList_of_few (s := chargeSent s) h

theorem ownCompletes_of_running {s : State} (h : s.loader.phase = .running) : ownCompletes s = completed s := by
  simp [ownCompletes, isRunning, h, causeOff, completed]

theorem ownChargeCompleted_eq (s : State) :
    ownChargeCompleted s =
      chargeSlotEmptied
        (if s.act.ownPlaced = some true ∧ s.act.state = .waitWindow then decideWindow { s with act.ownPlaced := none }
          else { s with act.ownPlaced := none, act.chargeList := withOwnCharge s }) := by
  unfold ownChargeCompleted
  simp only [decide_eq_true_eq]
  rfl

theorem exec_chargeOwnCompletion {s : State} (hphase : s.loader.phase = .running) (hoffer : OnOffer .charge s) :
    exec .chargeOwnCompletion s =
      .next (startCommands (chargeSlotEmptied
        (if s.act.ownPlaced = some true ∧ s.act.state = .waitWindow then decideWindow (chargeSent s)
          else chargeRecorded s))) := by
  obtain ⟨bytes, won, htx⟩ := hoffer
  have sends : lineSends s = true := by simp [lineSends, hphase]
  have offered : onOffer .charge s = true := by simp [onOffer, htx]
  have told : ownCompletion .charge chargeCompletes s = chargeCompletes (completed s) := by
    rw [ownCompletion, if_pos sends, onOwnCompletion, if_pos offered, ownCompletes_of_running hphase]
  have decided := told.trans (ownChargeCompleted_eq { completed s with line.chargeSlot := none })
  exact congrArg (fun t => Host.Outcome.next (startCommands t)) decided

theorem exec_chargeOwnCompletion_of_current {s : State} (hphase : s.loader.phase = .running)
    (hoffer : OnOffer .charge s) (hstate : s.act.state = .waitWindow) (hplaced : s.act.ownPlaced = some true) :
    exec .chargeOwnCompletion s = .next (startCommands (chargeSlotEmptied (decideWindow (chargeSent s)))) := by
  rw [exec_chargeOwnCompletion hphase hoffer, if_pos ⟨hplaced, hstate⟩]

theorem exec_chargeOwnCompletion_of_leftOver {s : State} (hphase : s.loader.phase = .running)
    (hoffer : OnOffer .charge s) (h : ¬ (s.act.ownPlaced = some true ∧ s.act.state = .waitWindow)) :
    exec .chargeOwnCompletion s =
      .next (startCommands (chargeSlotEmptied (chargeRecorded s))) := by
  rw [exec_chargeOwnCompletion hphase hoffer, if_neg h]

/-- A command in progress lets none be started (R165). -/
theorem startCommands_of_current {s : State} {q : QueuedCommand} (h : s.cmd.current = some q) :
    startCommands s = s := by
  unfold startCommands
  split
  · cases s.cmd.queue with
    | nil => rfl
    | cons first rest => simp [startWaiting, h]
  · rfl

/-- A decision that ends the wait is the end of the event, but for the commands that it starts. -/
theorem exec_chargeOwnCompletion_starts {s t : State} (hphase : s.loader.phase = .running) (hoffer : OnOffer .charge s)
    (hstate : s.act.state = .waitWindow) (hplaced : s.act.ownPlaced = some true) (ht : decideWindow (chargeSent s) = t)
    (hended : t.act.state ≠ .waitWindow) : exec .chargeOwnCompletion s = .next (startCommands t) := by
  rw [exec_chargeOwnCompletion_of_current hphase hoffer hstate hplaced, ht, chargeSlotEmptied_of_not_waiting hended]

/-! ### The entries into a pressurisation (Table 5-4, R77, R82, R165) -/

/-- A seal answers a waiting FETCH; without one it leaves the REPLY queue alone (R158). -/
theorem sealBlock_replies {cause : SealCause} {kind : Option AlarmKind} {s : State} (h : s.recs.fetchQ = []) :
    (sealBlock cause kind s).line.replyQ = s.line.replyQ ∧
      (sealBlock cause kind s).line.heldReplies = s.line.heldReplies := by
  unfold sealBlock
  split
  · exact ⟨rfl, rfl⟩
  · dsimp only
    rw [serveFetch_of_idle (.inr (.inr (by simpa using h)))]
    simp

theorem setSequencer_replies {q : Sequencer} {s : State} (h : s.recs.fetchQ = []) :
    (setSequencer q s).line.replyQ = s.line.replyQ ∧ (setSequencer q s).line.heldReplies = s.line.heldReplies := by
  unfold setSequencer
  split
  · exact ⟨rfl, rfl⟩
  · exact sealBlock_replies h

theorem enterState_replies {st : ActState} {iso dump lockCmd : Bool} {s : State} (h : s.recs.fetchQ = []) :
    (enterState st iso dump lockCmd s).line.replyQ = s.line.replyQ ∧
      (enterState st iso dump lockCmd s).line.heldReplies = s.line.heldReplies := by
  unfold enterState sequencerOnActuator
  split
  · split
    · simpa [enterUnloading] using setSequencer_replies (s := setActuator st iso dump lockCmd s) (by simpa using h)
    · exact ⟨rfl, rfl⟩
  · split
    · simpa [enterHeld] using setSequencer_replies (s := setActuator st iso dump lockCmd s) (by simpa using h)
    · exact ⟨rfl, rfl⟩

theorem enterCharging_of_unpressed {s : State} (h : s.pins.pressOk = false) :
    enterCharging s =
      { enterState .charging true false false { s with act.purpose := none } with
        act.chargeTimer := some (s.age + 10 * s.cfg.tChg) } := by
  simp [enterCharging, h, ms, Config.perMs]

/-- With PRESS_OK true CHARGING is left for LIVE at once; the sequencer is told of no state but LIVE (R50, R77). -/
theorem enterCharging_of_pressed {s : State} (hstate : s.act.state ≠ .live) (h : s.pins.pressOk = true) :
    enterCharging s = enterLive .charge (setActuator .charging true false false { s with act.purpose := none }) := by
  simp [enterCharging, h, enterState, sequencerOnActuator, hstate]

/-- The command in progress ends with COMMAND_DONE and a late REPLY to its console (R13, R165). -/
theorem endCommand_ends {result : ReplyResult} {reason : Reason} {s : State} {q : QueuedCommand}
    (h : s.cmd.current = some q) :
    (endCommand result reason s).cmd.current = none ∧ HasEvent 9 (endCommand result reason s) ∧
      LateReply q.console (queuedKindCode q.kind) result reason s (endCommand result reason s) := by
  rw [endCommand_of_some h]
  refine ⟨rfl, ?_, fun hroom => ?_, fun hfull => ?_⟩
  · simp [HasEvent, eventBit, eventIndex]
  · simp [placeLateReply_of_room hroom, placeReply]
  · simp [placeLateReply_of_full hfull]

theorem lateReply_of_replies_eq {console code : Nat} {result : ReplyResult} {reason : Reason} {s s' t : State}
    (h : s'.line.replyQ = s.line.replyQ ∧ s'.line.heldReplies = s.line.heldReplies)
    (hlate : LateReply console code result reason s' t) : LateReply console code result reason s t := by
  simpa [LateReply, h.1, h.2] using hlate

@[simp] theorem enterLive_wait (kind : QueuedKind) (s : State) :
    (enterLive kind s).act.chargeTimer = none ∧ (enterLive kind s).act.purpose = s.act.purpose ∧
      (enterLive kind s).act.ownPlaced = s.act.ownPlaced := by
  simp [enterLive]

/-- The station as an entry into LIVE sets its state and lines: the timers of the operation have stopped, and from
UNLOCK_CHARGE the reacquire timer runs (R68, R77, R82). -/
def liveReady (s : State) : State :=
  { s with
    act.chargeTimer := none
    act.deadline := none
    act.acquisition := none
    act.releasing := false
    servo.reacquire := if s.act.state = .unlockCharge then some (s.age + ms s.cfg.tAcq) else s.servo.reacquire }

@[simp] theorem liveReady_frame (s : State) :
    (liveReady s).line = s.line ∧ (liveReady s).recs = s.recs ∧ (liveReady s).cmd = s.cmd := by
  simp [liveReady]

theorem enterLive_eq (kind : QueuedKind) (s : State) :
    enterLive kind s = endCommandOf kind .done .none (enterState .live true false false (liveReady s)) := by
  simp [enterLive, liveReady]

/-- The entry into LIVE answers the command in progress DONE (R77, R82). -/
theorem enterLive_ends {kind : QueuedKind} {console : Nat} {s : State}
    (h : s.cmd.current = some { kind := kind, console := console }) :
    (enterLive kind s).cmd.current = none ∧ HasEvent 9 (enterLive kind s) ∧
      (s.recs.fetchQ = [] → LateReply console (queuedKindCode kind) .done .none s (enterLive kind s)) := by
  have current : (enterState .live true false false (liveReady s)).cmd.current =
      some { kind := kind, console := console } := by simpa using h
  obtain ⟨hcurrent, hevent, hlate⟩ := endCommand_ends (result := .done) (reason := .none) current
  rw [enterLive_eq, endCommandOf_of_kind current]
  refine ⟨hcurrent, hevent, fun hfetch => lateReply_of_replies_eq ?_ hlate⟩
  simpa using enterState_replies (s := liveReady s) (by simpa using hfetch)

/-! ### A station that goes on waiting (R89 to R91) -/

theorem chargeSlotEmptied_ownCounted {s : State} (hstate : s.act.state = .waitWindow) (h : 4 ≤ (inWindow s).length) :
    chargeSlotEmptied (ownCounted s) = { ownCounted s with act.ownHeld := false } := by
  have entries : inWindow s ≠ [] := by
    intro hnone
    simp [hnone] at h
  have counted : inWindow (ownCounted s) = (ownCounted s).act.chargeList := inWindow_ownCounted entries
  rw [chargeSlotEmptied_of_many (by simpa using hstate) (counted ▸ length_ownCounted_of_many h), waitConsulted, counted]

/-- Only the decision of the pump window, with a count below 4, takes CHARGE_OWN_COMPLETION out of the wait. -/
theorem chargeCompletion_keeps_wait {s : State} (hstate : s.act.state = .waitWindow)
    (h : ¬ (s.act.ownPlaced = some true ∧ (inWindow s).length < 4)) :
    (ownCompletion .charge chargeCompletes s).act.state = .waitWindow := by
  obtain ⟨hact, hage, hcfg⟩ := ownCompletes_frame s
  unfold ownCompletion onOwnCompletion chargeCompletes
  split_ifs
  · rw [ownChargeCompleted_eq]
    dsimp only
    split
    case isTrue hcurrent =>
      have full : 4 ≤ (inWindow s).length := by
        by_contra hfew
        exact h ⟨by simpa [hact] using hcurrent.1, by omega⟩
      rw [decideWindow_of_many (by simpa [inWindow, hact, hage, hcfg] using full)]
      simp [hact, hstate]
    case isFalse => simp [hact, hstate]
  · exact hstate
  · exact hstate

/-- Settles O10: a decision that ends the wait by the state it enters, a wait that goes on by the emptied slot, and the
other commands, none of which ends a wait with a pressurisation, by `exec_keepsDriveOff`. -/
theorem pumpWindowDecidesTheStart : Obligations.PumpWindowDecidesTheStart := by
  refine ⟨?charging, ?live, ?unlocking, ?full, ?ended, ?leftOver, ?only⟩
  case charging =>
    intro s q hphase hoffer hstate hplaced hcurrent hpurpose hcount hpress
    have decided := decideWindow_of_charge (s := chargeSent s) hcount hpurpose
    rw [enterCharging_of_unpressed (by simpa using hpress)] at decided
    refine ⟨_, (exec_chargeOwnCompletion_starts hphase hoffer hstate hplaced decided (by simp)).trans
      (congrArg _ (startCommands_of_current (q := q) (by simpa using hcurrent))), ?_⟩
    simp [valveLines, chargeSent_counted_chargeList hcount]
  case live =>
    intro s console hphase hoffer hstate hplaced hcurrent hpurpose hcount hpress
    have decided := decideWindow_of_charge (s := chargeSent s) hcount hpurpose
    rw [enterCharging_of_pressed (by simp [hstate]) (by simpa using hpress)] at decided
    refine ⟨_, exec_chargeOwnCompletion_starts hphase hoffer hstate hplaced decided (by simp), ?_⟩
    obtain ⟨hended, hevent, hlate⟩ := enterLive_ends (kind := .charge) (console := console)
      (s := setActuator .charging true false false { ownCounted (chargeSent s) with act.purpose := none })
      (by simpa using hcurrent)
    refine ⟨by simp, by simp [valveLines], by simp, by simp, by simp [chargeSent_counted_chargeList hcount], by simp,
      by simp, hended, hevent, fun hfetch => lateReply_of_replies_eq (by simp) (hlate (by simpa using hfetch))⟩
  case unlocking =>
    intro s q hphase hoffer hstate hplaced hcurrent hpurpose hcount
    have decided := decideWindow_of_unlock (s := chargeSent s) hcount hpurpose
    refine ⟨_, (exec_chargeOwnCompletion_starts hphase hoffer hstate hplaced decided (by simp)).trans
      (congrArg _ (startCommands_of_current (q := q) (by simpa using hcurrent))), ?_⟩
    simp [valveLines, enterUnlockCharge, chargeSent_counted_chargeList hcount, ms, Config.perMs]
  case full =>
    intro s q hphase hoffer hstate hplaced hcurrent hcount
    rw [exec_chargeOwnCompletion_of_current hphase hoffer hstate hplaced,
      decideWindow_of_many (s := chargeSent s) hcount, chargeSlotEmptied_ownCounted (s := chargeSent s) hstate hcount,
      startCommands_of_current (q := q) (by simpa using hcurrent)]
    rfl
  case ended =>
    intro s hphase hoffer hstate
    rw [exec_chargeOwnCompletion_of_leftOver hphase hoffer fun h => hstate h.2,
      chargeSlotEmptied_of_not_waiting (by simpa using hstate)]
    rfl
  case leftOver =>
    intro s q p hphase hoffer hstate hplaced hcurrent hpurpose
    rw [exec_chargeOwnCompletion_of_leftOver hphase hoffer fun h => hplaced h.1,
      startCommands_of_current (q := q) (by simpa using hcurrent),
      chargeSlotEmptied_of_waiting (by simpa using hstate) (by simp) (by simp) (by simpa using hpurpose)]
    rfl
  case only =>
    intro c s t hexec hstate hpressed
    have driven : ¬ DriveOff t := by
      rcases hpressed with h | h | h <;> simp [DriveOff, h, passesDrive]
    by_contra hnone
    refine driven ?_
    by_cases hc : c = .chargeOwnCompletion
    · subst hc
      cases hexec
      refine startCommands_driveOff (driveOff_of_waitWindow (chargeCompletion_keeps_wait hstate fun h => ?_))
      exact hnone ⟨rfl, h⟩
    · exact exec_keepsDriveOff hc hexec (driveOff_of_waitWindow hstate)

end Sys2Proof.Machine

/-! RESUME (sections 3.8 and 8.5): how it is judged, what an accepted one leaves of the alarm unit, and how a HELD
sequencer returns to RUN, up to the NO_SETTLE that an extension with no time left raises. -/
namespace Sys2Proof.Machine

open Sys2Proof

/-! ### The judgement and the alarm unit (R143, R144) -/

theorem exec_resume {head : CommandHead} {s : State} (h : Taken head 0 s) :
    exec (.resume head) s = .next (startCommands (resumeRequest head s)) :=
  congrArg (fun t => Host.Outcome.next (startCommands t)) (takeCommand_of_taken h rfl)

/-- `judgeResume` asks the five conditions of R143 as the statement words them. -/
theorem judgeResume_eq (s : State) : judgeResume s = (resumeReason s).getD .none := by
  simp only [judgeResume, resumeReason, causePresent, peerCause, peerFlag, flagCausePresent, shuntRuns,
    Bool.not_eq_true', List.isEmpty_eq_false_iff, decide_eq_true_eq]
  split_ifs <;> rfl

theorem resumeReason_ne_some_none (s : State) : resumeReason s ≠ some .none := by
  unfold resumeReason
  split_ifs <;> simp

theorem shunt_of_accepted {s : State} (h : resumeReason s = none) : s.scan.shunt = .none := by
  unfold resumeReason at h
  split_ifs at h with _ _ _ _ hshunt
  exact not_not.mp hshunt

/-- The station with an accepted RESUME answered DONE and its records and latch lowered, before the sequencer is told
(R144). -/
def resumed (head : CommandHead) (s : State) : State :=
  lowerLatch (replied head 0x44 .done .none [] s)

theorem resumed_eq (head : CommandHead) (s : State) :
    resumed head s = { replied head 0x44 .done .none [] s with
      alarm.records := s.alarm.records.filter (KeptRecord s)
      alarm.overfull := if (s.alarm.records.filter (KeptRecord s)).length = s.alarm.records.length then
        s.alarm.overfull else false
      alarm.latch := .none } := rfl

theorem resumeRequest_of_refused {head : CommandHead} {s : State} {reason : Reason}
    (h : resumeReason s = some reason) : resumeRequest head s = replied head 0x44 .refused reason [] s := by
  have judged : judgeResume s = reason := by rw [judgeResume_eq, h, Option.getD_some]
  have refused : reason ≠ .none := fun hnone => resumeReason_ne_some_none s (hnone ▸ h)
  rw [resumeRequest, judged, if_neg refused]
  rfl

theorem resumeRequest_of_accepted {head : CommandHead} {s : State} (h : resumeReason s = none) :
    resumeRequest head s = sequencerOnResume (resumed head s) := by
  have judged : judgeResume s = .none := by rw [judgeResume_eq, h, Option.getD_none]
  rw [resumeRequest, if_pos judged]
  rfl

/-- An event that leaves the command unit alone starts no command (R165). -/
theorem startCommands_of_flow {s t : State} (hflow : CommandsFlow s) (hcmd : t.cmd = s.cmd) : startCommands t = t := by
  cases hcurrent : t.cmd.current with
  | some q => exact startCommands_of_current hcurrent
  | none =>
    have empty : t.cmd.queue = [] := hcmd ▸ hflow.1 (hcmd ▸ hcurrent)
    simp [startCommands, startWaiting, empty]

theorem exec_resume_of_accepted {head : CommandHead} {s : State} (taken : Taken head 0 s)
    (accepted : resumeReason s = none) :
    exec (.resume head) s = .next (startCommands (sequencerOnResume (resumed head s))) := by
  rw [exec_resume taken, resumeRequest_of_accepted accepted]

/-- An accepted RESUME whose return leaves the command unit alone is that return. -/
theorem exec_resume_of_quiet {head : CommandHead} {s t : State} (taken : Taken head 0 s) (flow : CommandsFlow s)
    (accepted : resumeReason s = none) (ht : sequencerOnResume (resumed head s) = t) (hcmd : t.cmd = s.cmd) :
    exec (.resume head) s = .next t := by
  rw [exec_resume_of_accepted taken accepted, ht, startCommands_of_flow flow hcmd]

/-! ### The return of a HELD sequencer (R51) -/

theorem sequencerOnResume_of_not_held {s : State} (h : ¬ (s.seq.state = .held ∧ s.act.state = .live)) :
    sequencerOnResume s = s :=
  if_neg h

/-- The station with an accepted RESUME that has put its sequencer back into RUN, in the phase that it remembered. -/
def returned (head : CommandHead) (s : State) : State :=
  { resumed head s with seq.state := .run }

/-- The return changes neither step nor reported phase, so that no block is sealed (R35, R152). -/
theorem setSequencer_of_held {s : State} (h : s.seq.state = .held) :
    setSequencer { s.seq with state := .run } s = { s with seq.state := .run } := by
  simp [setSequencer, reportedPhase, h]

theorem sequencerOnResume_of_ramp {head : CommandHead} {s : State} (hstate : s.seq.state = .held)
    (hlive : s.act.state = .live) (hphase : s.seq.phase = some .ramp) :
    sequencerOnResume (resumed head s) = returned head s := by
  have held : (resumed head s).seq.state = .held := hstate
  have phase : (resumed head s).seq.phase = some .ramp := hphase
  rw [sequencerOnResume, if_pos ⟨held, hlive⟩, phase, setSequencer_of_held held]
  rfl

theorem sequencerOnResume_of_dwell {head : CommandHead} {s : State} (hstate : s.seq.state = .held)
    (hlive : s.act.state = .live) (hphase : s.seq.phase = some .dwell) :
    sequencerOnResume (resumed head s) = resumeDwell (returned head s) := by
  have held : (resumed head s).seq.state = .held := hstate
  have phase : (resumed head s).seq.phase = some .dwell := hphase
  rw [sequencerOnResume, if_pos ⟨held, hlive⟩, phase, setSequencer_of_held held]
  rfl

theorem sequencerOnResume_of_done {head : CommandHead} {s : State} (hstate : s.seq.state = .held)
    (hlive : s.act.state = .live) (hphase : s.seq.phase = some .done) :
    sequencerOnResume (resumed head s) = askGate (returned head s) := by
  have held : (resumed head s).seq.state = .held := hstate
  have phase : (resumed head s).seq.phase = some .done := hphase
  rw [sequencerOnResume, if_pos ⟨held, hlive⟩, phase, setSequencer_of_held held]
  rfl

theorem resumeDwell_of_hold {s : State} {left : Nat} (hused : s.seq.extensionUsed = false)
    (hhold : s.seq.hold = .paused left) : resumeDwell s = startHold left (dwellEntered s) := by
  simp [resumeDwell, hused, hhold, timeLeft]

theorem resumeDwell_of_extension {s : State} {left : Nat} (hused : s.seq.extensionUsed = true)
    (hextension : s.seq.extension = .paused left) : resumeDwell s = startExtension left (dwellEntered s) := by
  simp [resumeDwell, hused, hextension]

theorem resumeDwell_of_spent {s : State} (hused : s.seq.extensionUsed = true)
    (hextension : s.seq.extension = .stopped) : resumeDwell s = becomeDone s := by
  simp [resumeDwell, hused, hextension]

/-- The scanner as R102 leaves it at a DWELL entry. -/
theorem dwellEntered_afresh (s : State) : DwellEnteredAfresh s (dwellEntered s) := by
  have reference (c : Nat) : (channelAt c (dwellEntered s)).ref =
      if c < s.scan.channels.length ∧ settleJudged c (channelAt c s) s = true then some (channelAt c s).latest
      else none := by
    simp only [channelAt, dwellEntered, startSettleWindow, takeReferences, mapFrom_getD, Nat.zero_add]
    by_cases hc : c < s.scan.channels.length
    · simp [hc]
    · simp [hc, Channel.reset]
  have judged (c : Nat) :
      c < s.scan.channels.length ∧ settleJudged c (channelAt c s) s = true ↔ SettleChecked c s := by
    simp only [settleJudged, SettleChecked, Bool.and_eq_true, decide_eq_true_eq, and_iff_right_iff_imp]
    rintro ⟨hok, -⟩
    by_contra hpast
    simp [channelAt, hpast, Channel.reset] at hok
  have steps : ms (1000 * s.cfg.settleWindow) = 10000 * s.cfg.settleWindow := by
    rw [ms, Config.perMs]; omega
  refine ⟨by simp, ?_, fun c hc => ?_, fun c hc => ?_, by simp, by simp⟩
  · simp [dwellEntered, startSettleWindow, steps]
  · rw [reference, if_pos ((judged c).mpr hc)]
  · rw [reference, if_neg (mt (judged c).mp hc)]

/-! ### DONE and the two questions (R26, R27, R41 to R44) -/

theorem gateAnswer_eq_true_iff {step : Nat} {s : State} : gateAnswer step s = true ↔ GateOpen step s := by
  simp only [gateAnswer, List.all_eq_true, decide_eq_true_eq, mem_presentPeers, GateOpen, presentMember_iff]
  constructor
  · rintro h n ⟨hmember, hother, hpresent⟩
    exact h _ ⟨n, hmember, hother, hpresent, rfl⟩
  · rintro h _ ⟨n, hmember, hother, hpresent, rfl⟩
    exact h n ⟨hmember, hother, hpresent⟩

theorem askGate_of_choice {c : Nat} {s : State} (hstate : s.seq.state = .run) (hphase : s.seq.phase = some .done)
    (hchoice : s.seq.choice = some c) :
    askGate s = if gateAnswer s.seq.step s && digestAnswer s then enterSegment c (watchMismatch s)
      else watchMismatch s := by
  simp [askGate, hstate, hphase, hchoice]

theorem watchMismatch_of_agreed {s : State} (h : digestAnswer s = true) :
    watchMismatch s = { s with seq.mismatch := none } := by
  simp [watchMismatch, h]

/-- A running mismatch timer runs on; a stopped one is started with two status periods (R43). -/
theorem watchMismatch_of_differing {s : State} (h : digestAnswer s = false) :
    (watchMismatch s).seq =
      { s.seq with mismatch := some (s.seq.mismatch.getD (s.age + 100 * s.line.statusPeriod)) } := by
  have period : ms (10 * s.line.statusPeriod) = 100 * s.line.statusPeriod := by
    rw [ms, Config.perMs]; omega
  cases hrunning : s.seq.mismatch with
  | none => simp [watchMismatch, h, hrunning, period]
  | some due =>
    have kept : watchMismatch s = s := by simp [watchMismatch, h, hrunning]
    rw [kept, Option.getD_some, ← hrunning]

theorem enterSegment_of_last_step {i : Nat} {g : Segment} {s : State} (hg : segmentAt i s.seq = some g)
    (hstep : Config.stepLimit ≤ s.seq.step) : enterSegment i s = enterEnded s := by
  simp [enterSegment, hg, hstep]

theorem enterEnded_seq (s : State) :
    (enterEnded s).seq = { s.seq with state := .ended, phase := none, mismatch := none, choice := none } := by
  simp [enterEnded]

theorem askGate_asks {c : Nat} {g : Segment} {s : State} (hstate : s.seq.state = .run)
    (hphase : s.seq.phase = some .done) (hchoice : s.seq.choice = some c) (hg : s.seq.table.getD c none = some g) :
    AsksInDone c g s (askGate s) := by
  have gate : GateOpen s.seq.step (askGate s) ↔ gateAnswer s.seq.step s = true := by
    simp [gateAnswer_eq_true_iff, GateOpen, PresentMember, peerAt, isMember, ownStation]
  have digests : (∀ n, PresentMember n (askGate s) → (peerAt n (askGate s)).digest = s.seq.digest) ↔
      digestAnswer s = true := by
    simp [digestAnswer_eq_true_iff, DigestsAgree, PresentMember, peerAt, isMember, ownStation]
  have entry : segmentAt c s.seq = some g := hg
  rw [AsksInDone, gate, digests, askGate_of_choice hstate hphase hchoice]
  refine ⟨fun hopen hagreed => ?_, fun hclosed hagreed => ?_, fun hdiffer => ?_⟩
  · rw [hopen, hagreed, watchMismatch_of_agreed hagreed]
    refine ⟨fun hstep => ?_, fun hlast => ?_⟩
    · exact (enterSegment_seq (s := { s with seq.mismatch := none }) entry hstep).trans (by rw [← hstate]; rfl)
    · exact (congrArg State.seq (enterSegment_of_last_step (s := { s with seq.mismatch := none }) entry hlast)).trans
        (enterEnded_seq _)
  · simp [hclosed, watchMismatch_of_agreed hagreed]
  · have differing : digestAnswer s = false := by simpa using hdiffer
    rw [differing, Bool.and_false, if_neg Bool.false_ne_true, watchMismatch_of_differing differing]
    cases s.seq.mismatch <;> rfl

/-- What is asked in DONE depends on the sequencer, the age and the status period of the state before, and no more. -/
theorem AsksInDone.of_base {c : Nat} {g : Segment} {s s' t : State} (h : AsksInDone c g s t) (hseq : s.seq = s'.seq)
    (hage : s.age = s'.age) (hperiod : s.line.statusPeriod = s'.line.statusPeriod) : AsksInDone c g s' t := by
  unfold AsksInDone at h
  rwa [hseq, hage, hperiod] at h

theorem DoneReached.of_base {q : Sequencer} {s s' t : State} (h : DoneReached q s t) (hage : s.age = s'.age)
    (hperiod : s.line.statusPeriod = s'.line.statusPeriod) : DoneReached q s' t := by
  obtain ⟨hsettled, htimer, hended, hasks⟩ := h
  exact ⟨hsettled, htimer, hended, fun g hg => (hasks g hg).of_base rfl hage hperiod⟩

theorem nextChoice_eq (q : Sequencer) : nextChoice q = choiceOf q := by
  unfold nextChoice choiceOf segmentAt
  cases q.table.getD q.segment none with
  | none => rfl
  | some g =>
    obtain ⟨target, rate, hold, settle, extension, loopTo, loopCount⟩ := g
    cases loopTo <;> rfl

/-- The station as it leaves DWELL for DONE, the pass counter of the segment not yet stored (R41). -/
def leftForDone (s : State) : State :=
  dwellLeft (setSequencer { s.seq with phase := some .done, hold := .stopped, extension := .stopped } s)

theorem leftForDone_choice (s : State) : nextChoice (leftForDone s).seq = choiceOf s.seq := by
  rw [nextChoice_eq, show (leftForDone s).seq = _ from by simp [leftForDone]; rfl]
  rfl

/-- The station in the phase DONE with its pass counter stored, before the choice is looked up (R41). -/
def atDone (s : State) : State :=
  { leftForDone s with
    seq.counters := setAt (leftForDone s).seq.segment (nextChoice (leftForDone s).seq).1 (leftForDone s).seq.counters }

theorem atDone_seq (s : State) : (atDone s).seq = doneOf s.seq := by
  simp only [atDone, leftForDone_choice]
  simp [leftForDone, doneOf]

theorem becomeDone_eq (s : State) :
    becomeDone s =
      if (segmentAt (choiceOf s.seq).2 (atDone s).seq).isNone then enterEnded (atDone s)
      else askGate { atDone s with seq.choice := some (choiceOf s.seq).2 } := by
  rw [← leftForDone_choice]
  rfl

theorem becomeDone_reaches {s : State} (hstate : s.seq.state = .run) : DoneReached s.seq s (becomeDone s) := by
  have entry : segmentAt (choiceOf s.seq).2 (atDone s).seq = s.seq.table.getD (choiceOf s.seq).2 none := by
    rw [atDone_seq]
    rfl
  refine ⟨by simp, by simp, fun hempty => ?_, fun g hg => ?_⟩
  · rw [becomeDone_eq, entry, hempty, if_pos Option.isNone_none, enterEnded_seq, atDone_seq]
  · rw [becomeDone_eq, entry, hg, if_neg (by simp)]
    refine (askGate_asks (s := { atDone s with seq.choice := some (choiceOf s.seq).2 }) ?_ ?_ rfl
      (entry.trans hg)).of_base ?_ ?_ ?_
    · simp [atDone_seq, doneOf, hstate]
    · simp [atDone_seq, doneOf]
    · simp [atDone_seq]
    · simp [atDone, leftForDone]
    · simp [atDone, leftForDone]

/-! ### Raises and the responses to them only add events and replies (R11, R13) -/

theorem LineGrows.of_same_line {s s' t : State} (h : LineGrows s' t) (hline : s'.line = s.line) : LineGrows s t :=
  (LineGrows.of_line_eq hline).trans h

theorem LineGrows.of_ite {p : Prop} [Decidable p] {s t : State} (h : LineGrows s t) :
    LineGrows s (if p then t else s) := by
  split
  · exact h
  · exact .refl s

theorem endCommand_lineGrows (result : ReplyResult) (reason : Reason) (s : State) :
    LineGrows s (endCommand result reason s) := by
  unfold endCommand
  split
  · exact .refl s
  · exact (placeLateReply_lineGrows _ s).trans ((setEvent_lineGrows .commandDone _).trans (.of_line_eq rfl))

theorem endActuatorCommand_lineGrows (result : ReplyResult) (reason : Reason) (s : State) :
    LineGrows s (endActuatorCommand result reason s) := by
  unfold endActuatorCommand
  split
  · exact .refl s
  · exact (endCommand_lineGrows result reason s).of_ite

theorem endCommandOf_lineGrows (kind : QueuedKind) (result : ReplyResult) (reason : Reason) (s : State) :
    LineGrows s (endCommandOf kind result reason s) := by
  unfold endCommandOf
  split
  · exact .refl s
  · exact (endCommand_lineGrows result reason s).of_ite

theorem leaveDwellIf_lineGrows (was : Bool) (s : State) : LineGrows s (leaveDwellIf was s) :=
  .of_line_eq (by simp)

theorem enterHeld_lineGrows (s : State) : LineGrows s (enterHeld s) :=
  (setSequencer_lineGrows _ s).trans (leaveDwellIf_lineGrows _ _)

theorem enterUnloading_lineGrows (s : State) : LineGrows s (enterUnloading s) :=
  (setSequencer_lineGrows _ s).trans (leaveDwellIf_lineGrows _ _)

theorem tripIdle_lineGrows (s : State) : LineGrows s (tripIdle s) :=
  (setSequencer_lineGrows _ s).trans ((leaveDwellIf_lineGrows _ _).trans (.of_line_eq rfl))

theorem enterTripped_lineGrows (reason : Reason) (s : State) : LineGrows s (enterTripped reason s) := by
  have told (u : State) : LineGrows u (tripIdle (setEvent .trip u)) :=
    (setEvent_lineGrows .trip u).trans (tripIdle_lineGrows _)
  exact ((endActuatorCommand_lineGrows .refused reason _).trans (told _)).of_same_line rfl

theorem actuatorOnLatch_lineGrows (new : Latch) (s : State) : LineGrows s (actuatorOnLatch new s) :=
  (enterTripped_lineGrows .action s).of_ite

theorem sequencerOnLatch_lineGrows (new : Latch) (s : State) : LineGrows s (sequencerOnLatch new s) := by
  unfold sequencerOnLatch
  dsimp only
  split
  case h_1 =>
    split
    · exact enterUnloading_lineGrows s
    · exact (enterHeld_lineGrows s).of_ite
  case h_4 => exact .refl s
  all_goals exact (enterUnloading_lineGrows s).of_ite

theorem scannerOnLatch_lineGrows (new : Latch) (s : State) : LineGrows s (scannerOnLatch new s) := by
  have left : LineGrows s (leaveShunt s) := (setEvent_lineGrows .shuntDone _).of_same_line rfl
  have released (u : State) : LineGrows u (releaseShunt u) := ⟨by simp [HasEvent], by simp⟩
  exact (left.trans ((endCommandOf_lineGrows .shunt .refused .action _).trans (released _))).of_ite

theorem handLatch_lineGrows (new : Latch) (s : State) : LineGrows s (handLatch new s) :=
  (actuatorOnLatch_lineGrows new s).trans
    ((sequencerOnLatch_lineGrows new _).trans (scannerOnLatch_lineGrows new _))

theorem placeAlarm_lineGrows (a : AlarmTelegram) (s : State) : LineGrows s (placeAlarm a s) :=
  ⟨by simp [HasEvent], by simp⟩

theorem cutAndCapture_lineGrows (kind : AlarmKind) (s : State) : LineGrows s (cutAndCapture kind s) := by
  have cut := sealBlock_lineGrows .alarm (some kind) s
  unfold cutAndCapture
  dsimp only
  split
  · exact cut.trans (.of_line_eq rfl)
  · exact cut

/-- ALARM_RAISED is among the events after a raise (R134). -/
theorem raiseRecorded_grows (r : Raise) (s : State) :
    LineGrows s (raiseRecorded r s) ∧ HasEvent 5 (raiseRecorded r s) := by
  have bit : (eventBit .alarmRaised).getLsbD 5 = true := by decide
  have raised (u : State) : HasEvent 5 (setEvent .alarmRaised u) := by
    rw [HasEvent, setEvent_events, BitVec.getLsbD_or, bit, Bool.or_true]
  have told (u : State) : LineGrows u (if sendsTelegram r s then placeAlarm (alarmTelegramOf r s) u else u) :=
    (placeAlarm_lineGrows _ u).of_ite
  have cut (u : State) : LineGrows u (if latchAtLeast r.action .hold then cutAndCapture r.kind u else u) :=
    (cutAndCapture_lineGrows r.kind u).of_ite
  have recorded := (told (setEvent .alarmRaised
    { s with alarm := { storeRaise r s.alarm with latch := latchMax s.alarm.latch r.action } })).trans (cut _)
  exact ⟨((setEvent_lineGrows .alarmRaised _).trans recorded).of_same_line rfl, recorded.events _ (raised _)⟩

theorem raiseAlarm_lineGrows (r : Raise) (s : State) : LineGrows s (raiseAlarm r s) := by
  obtain ⟨recorded, -⟩ := raiseRecorded_grows r s
  rw [raiseAlarm_eq]
  split
  · exact recorded
  · exact recorded.trans (handLatch_lineGrows _ _)

theorem enterEnded_lineGrows (s : State) : LineGrows s (enterEnded s) :=
  setSequencer_lineGrows _ s

theorem becomeDone_lineGrows (s : State) : LineGrows s (becomeDone s) := by
  have left : LineGrows s (atDone s) := (setSequencer_lineGrows _ s).trans (.of_line_eq rfl)
  rw [becomeDone_eq]
  split
  · exact left.trans (enterEnded_lineGrows _)
  · exact left.trans ((askGate_lineGrows _).of_same_line rfl)

theorem extensionExpired_lineGrows (s : State) : LineGrows s (extensionExpired s) := by
  have raised : LineGrows s (raiseOwn .noSettle 0 s.cfg.noSettleAction { s with seq.extension := .stopped }) :=
    (raiseAlarm_lineGrows _ _).of_same_line rfl
  unfold extensionExpired
  dsimp only
  split
  · exact raised.trans (becomeDone_lineGrows _)
  · exact raised

theorem startExtension_lineGrows (left : Nat) (s : State) : LineGrows s (startExtension left s) := by
  unfold startExtension
  split
  · exact extensionExpired_lineGrows s
  · exact .of_line_eq rfl

theorem startHold_lineGrows (left : Nat) (s : State) : LineGrows s (startHold left s) := by
  unfold startHold judgeSettle
  dsimp only
  split_ifs
  · exact (startExtension_lineGrows _ _).of_same_line rfl
  · exact (becomeDone_lineGrows _).of_same_line rfl
  · exact .of_line_eq rfl

theorem resumeDwell_lineGrows (s : State) : LineGrows s (resumeDwell s) := by
  have entered : LineGrows s (dwellEntered s) := .of_line_eq (by simp)
  unfold resumeDwell
  split
  · split
    · exact entered.trans (startExtension_lineGrows _ _)
    · exact becomeDone_lineGrows s
  · exact entered.trans (startHold_lineGrows _ _)

theorem sequencerOnResume_lineGrows (s : State) : LineGrows s (sequencerOnResume s) := by
  unfold sequencerOnResume
  split
  · dsimp only
    split
    · exact (setSequencer_lineGrows _ s).trans (resumeDwell_lineGrows _)
    · exact (setSequencer_lineGrows _ s).trans (askGate_lineGrows _)
    · exact setSequencer_lineGrows _ s
  · exact .refl s

/-! ### The raise of NO_SETTLE at an extension's end (R40, R46, R47, R49) -/

theorem pauseTimer_eq_stoppedWithRest (now : Nat) (timer : HoldTimer) :
    pauseTimer now timer = stoppedWithRest now timer := by
  cases timer <;> rfl

theorem leaveDwellIf_true (s : State) :
    (leaveDwellIf true s).scan.settled = false ∧ (leaveDwellIf true s).scan.settleTimer = none :=
  ⟨rfl, rfl⟩

theorem enterHeld_of_dwell {s : State} (h : inDwell s = true) :
    (enterHeld s).seq = heldOf s ∧ (enterHeld s).scan.settled = false ∧ (enterHeld s).scan.settleTimer = none := by
  refine ⟨?_, ?_⟩
  · simp [enterHeld, heldOf, pauseTimer_eq_stoppedWithRest]
  · rw [enterHeld, h]
    exact leaveDwellIf_true _

theorem enterUnloading_of_dwell {s : State} (h : inDwell s = true) :
    (enterUnloading s).seq =
        { s.seq with
          state := .unloading, phase := none, hold := .stopped, extension := .stopped, mismatch := none
          choice := none } ∧
      (enterUnloading s).scan.settled = false ∧ (enterUnloading s).scan.settleTimer = none := by
  refine ⟨by simp [enterUnloading], ?_⟩
  rw [enterUnloading, h]
  exact leaveDwellIf_true _

theorem tripIdle_of_dwell {s : State} (h : inDwell s = true) :
    (tripIdle s).seq =
        { s.seq with
          state := .idle, phase := none, step := 0, segment := 0, work := none, counters := List.replicate 32 0
          hold := .stopped, extension := .stopped, extensionUsed := false, mismatch := none, choice := none } ∧
      (tripIdle s).scan.settled = false ∧ (tripIdle s).scan.settleTimer = none := by
  refine ⟨by simp [tripIdle], ?_⟩
  rw [tripIdle, h]
  exact leaveDwellIf_true _

/-- A trip in DWELL takes the sequencer to IDLE as `tripIdle` does, and puts TRIP into the events (R49, R86). -/
theorem enterTripped_of_dwell {reason : Reason} {s : State} (h : inDwell s = true) :
    (enterTripped reason s).seq =
        { s.seq with
          state := .idle, phase := none, step := 0, segment := 0, work := none, counters := List.replicate 32 0
          hold := .stopped, extension := .stopped, extensionUsed := false, mismatch := none, choice := none } ∧
      (enterTripped reason s).scan.settled = false ∧ (enterTripped reason s).scan.settleTimer = none ∧
      HasEvent 10 (enterTripped reason s) := by
  have bit : (eventBit .trip).getLsbD 10 = true := by decide
  have told (u : State) : HasEvent 10 (setEvent .trip u) := by
    rw [HasEvent, setEvent_events, BitVec.getLsbD_or, bit, Bool.or_true]
  obtain ⟨u, hu, hseq⟩ : ∃ u, enterTripped reason s = tripIdle (setEvent .trip u) ∧ u.seq = s.seq :=
    ⟨_, rfl, by simp⟩
  have dwell : inDwell (setEvent .trip u) = true := by simpa [inDwell, hseq] using h
  obtain ⟨idle, hsettled, htimer⟩ := tripIdle_of_dwell dwell
  rw [hu]
  exact ⟨by rw [idle]; simp [hseq], hsettled, htimer, (tripIdle_lineGrows _).events _ (told u)⟩

/-- A raise that finds room stands in the list, unacknowledged (R133). -/
theorem storeRaise_lists {r : Raise} {u : AlarmUnit} (h : u.records.length < 24) :
    ∃ a ∈ (storeRaise r u).records, keyOf a = (r.source, r.kind, r.channel) ∧ a.acked = false := by
  cases hheld : u.records.any (sameKey r) with
  | true =>
    obtain ⟨a, ha, hkey⟩ := List.any_eq_true.mp hheld
    have key : a.source = r.source ∧ a.kind = r.kind ∧ a.channel = r.channel := by simpa [sameKey] using hkey
    rw [storeRaise_of_held hheld]
    refine ⟨mergeRecord r a, List.mem_map.mpr ⟨a, ha, if_pos hkey⟩, ?_, rfl⟩
    simp [keyOf, mergeRecord, key]
  | false =>
    rw [storeRaise_of_new hheld h]
    exact ⟨firstRecord r, by simp, rfl, rfl⟩

@[simp] theorem raiseRecorded_kept (r : Raise) (s : State) :
    (raiseRecorded r s).age = s.age ∧ (raiseRecorded r s).cfg = s.cfg ∧ (raiseRecorded r s).loader = s.loader ∧
      (raiseRecorded r s).peers = s.peers ∧ (raiseRecorded r s).servo = s.servo ∧
      (raiseRecorded r s).scan = s.scan ∧ (raiseRecorded r s).cmd = s.cmd ∧
      (raiseRecorded r s).line.statusPeriod = s.line.statusPeriod ∧
      (raiseRecorded r s).alarm = { storeRaise r s.alarm with latch := latchMax s.alarm.latch r.action } := by
  unfold raiseRecorded
  dsimp only
  split <;> split <;> simp

theorem handLatch_unload_of_live {s : State} (hstate : s.seq.state = .run) (hlive : s.act.state = .live) :
    handLatch .unload s = enterUnloading s := by
  rw [handLatch, actuatorOnLatch_of_below (by decide), scannerOnLatch_of_below (by decide)]
  simp [sequencerOnLatch, hstate, hlive, latchAtLeast]

/-- The trip has put the sequencer into IDLE, which a latch does not move, and no shunt runs (R49, R84, R115). -/
theorem handLatch_dump_of_live {s : State} (hlive : s.act.state = .live) (hquiet : s.scan.shunt = .none) :
    handLatch .dump s = enterTripped .action s := by
  rw [handLatch, actuatorOnLatch_dump (by simp [hlive]) (by simp [hlive]),
    sequencerOnLatch_of_rest (.inl (by simp)), scannerOnLatch_of_quiet (by simpa using hquiet)]

/-- The station with a NO_SETTLE raised and its extension spent, before the latch is handed on. -/
def noSettleRecorded (s : State) : State :=
  raiseRecorded (ownRaise .noSettle 0 s.cfg.noSettleAction { s with seq.extension := .stopped })
    { s with seq.extension := .stopped }

theorem noSettleRecorded_lists {s : State} (h : RoomFor 1 s) :
    ∃ a ∈ (noSettleRecorded s).alarm.records, keyOf a = (ownStation s, .noSettle, 0) ∧ a.acked = false := by
  have room : s.alarm.records.length < 24 := h
  simpa [noSettleRecorded, ownStation] using storeRaise_lists
    (r := ownRaise .noSettle 0 s.cfg.noSettleAction { s with seq.extension := .stopped }) (u := s.alarm) room

theorem latchMax_none_left (a : Latch) : latchMax .none a = a := by
  cases a <;> rfl

/-- Under a latch of NONE any other action raises the latch and is handed on (R134, R135). -/
theorem raiseAlarm_of_unlatched {r : Raise} {s : State} (hlatch : s.alarm.latch = .none)
    (haction : r.action ≠ .none) : raiseAlarm r s = handLatch r.action (raiseRecorded r s) := by
  have risen : latchMax s.alarm.latch r.action = r.action := by
    rw [hlatch, latchMax_none_left]
  rw [raiseAlarm_eq, risen, hlatch, if_neg haction]

@[simp] theorem noSettleRecorded_frame (s : State) :
    (noSettleRecorded s).seq = { s.seq with extension := .stopped } ∧ (noSettleRecorded s).act = s.act ∧
      (noSettleRecorded s).scan = s.scan ∧ (noSettleRecorded s).age = s.age ∧
      (noSettleRecorded s).line.statusPeriod = s.line.statusPeriod := by
  simp [noSettleRecorded]

theorem extensionExpired_eq {s : State} (hlatch : s.alarm.latch = .none) (haction : s.cfg.noSettleAction ≠ .none) :
    extensionExpired s =
      if s.cfg.noSettleAction = .note then becomeDone (handLatch s.cfg.noSettleAction (noSettleRecorded s))
      else handLatch s.cfg.noSettleAction (noSettleRecorded s) := by
  have raised : raiseOwn .noSettle 0 s.cfg.noSettleAction { s with seq.extension := .stopped } =
      handLatch s.cfg.noSettleAction (noSettleRecorded s) :=
    raiseAlarm_of_unlatched (r := ownRaise .noSettle 0 s.cfg.noSettleAction { s with seq.extension := .stopped })
      hlatch haction
  rw [extensionExpired, raised]

/-- Behind the record, the hand-on of the latch and a DONE leave the alarm unit and take no event back. -/
theorem extensionExpired_after_record {s : State} (hlatch : s.alarm.latch = .none)
    (haction : s.cfg.noSettleAction ≠ .none) :
    LineGrows (noSettleRecorded s) (extensionExpired s) ∧
      (extensionExpired s).alarm = (noSettleRecorded s).alarm := by
  have handed := handLatch_lineGrows s.cfg.noSettleAction (noSettleRecorded s)
  rw [extensionExpired_eq hlatch haction]
  split
  · exact ⟨handed.trans (becomeDone_lineGrows _), by simp⟩
  · exact ⟨handed, by simp⟩

/-- The expiry of an extension in DWELL, SETTLED still clear, under a latch of NONE (R40): one case for each action. -/
theorem extensionExpired_raises {s : State} (hstate : s.seq.state = .run) (hphase : s.seq.phase = some .dwell)
    (hlive : s.act.state = .live) (hquiet : s.scan.shunt = .none) (hlatch : s.alarm.latch = .none)
    (haction : s.cfg.noSettleAction ≠ .none) :
    NoSettleRaised { s.seq with extension := .stopped } s (extensionExpired s) := by
  have dwell : inDwell (noSettleRecorded s) = true := by simp [inDwell, hstate, hphase]
  have running : (noSettleRecorded s).seq.state = .run := by simpa using hstate
  have live : (noSettleRecorded s).act.state = .live := by simpa using hlive
  obtain ⟨-, raised⟩ : _ ∧ HasEvent 5 (noSettleRecorded s) := raiseRecorded_grows _ _
  obtain ⟨grows, halarm⟩ := extensionExpired_after_record hlatch haction
  refine ⟨grows.events _ raised, fun room => by rw [Listed, halarm]; exact noSettleRecorded_lists room, ?_⟩
  rw [extensionExpired_eq hlatch haction]
  cases h : s.cfg.noSettleAction with
  | none => exact absurd h haction
  | note =>
    have done := (becomeDone_reaches running).of_base (s' := s) (by simp) (by simp)
    rw [if_pos rfl, handLatch_note]
    refine ⟨by simp, by simp, fun _ => ⟨?_, by simp⟩, nofun, nofun, nofun⟩
    simpa using done
  | hold =>
    obtain ⟨hseq, hsettled, htimer⟩ := enterHeld_of_dwell dwell
    rw [if_neg nofun, handLatch_hold, if_pos running]
    refine ⟨hsettled, htimer, nofun, fun _ => ⟨by simp, ?_⟩, nofun, nofun⟩
    simp [hseq, heldOf, stoppedWithRest]
  | unload =>
    obtain ⟨hseq, hsettled, htimer⟩ := enterUnloading_of_dwell dwell
    rw [if_neg nofun, handLatch_unload_of_live running live]
    refine ⟨hsettled, htimer, nofun, nofun, fun _ => ⟨by simp, ?_⟩, nofun⟩
    simp [hseq]
  | dump =>
    obtain ⟨hseq, hsettled, htimer, htrip⟩ := enterTripped_of_dwell (reason := .action) dwell
    rw [if_neg nofun, handLatch_dump_of_live live (by simpa using hquiet)]
    refine ⟨hsettled, htimer, nofun, nofun, nofun, fun _ => ?_⟩
    simp [hseq, valveLines, htrip]

theorem NoSettleRaised.of_base {q : Sequencer} {s s' t : State} (h : NoSettleRaised q s t) (hage : s.age = s'.age)
    (hcfg : s.cfg = s'.cfg) (hloader : s.loader = s'.loader) (hact : s.act = s'.act)
    (hperiod : s.line.statusPeriod = s'.line.statusPeriod)
    (hrecords : s.alarm.records.length ≤ s'.alarm.records.length) : NoSettleRaised q s' t := by
  obtain ⟨hevent, hlisted, hsettled, htimer, hnote, hhold, hunload, hdump⟩ := h
  rw [hcfg] at hnote hhold hunload hdump
  rw [hact] at hnote hhold hunload
  rw [hage] at hhold
  have listed (room : RoomFor 1 s') : Listed .noSettle 0 s' t := by
    rw [Listed, ownStation, ← hloader]
    exact hlisted (Nat.le_trans (Nat.add_le_add_right hrecords 1) room)
  exact ⟨hevent, listed, hsettled, htimer,
    fun hn => (hnote hn).imp_left fun done => done.of_base hage hperiod, hhold, hunload, hdump⟩

/-! ### The return to DWELL and the expiries that it takes at once (R39, R46, R51) -/

@[simp] theorem returned_frame (head : CommandHead) (s : State) :
    (returned head s).seq = { s.seq with state := .run } ∧ (returned head s).age = s.age ∧
      (returned head s).cfg = s.cfg ∧ (returned head s).loader = s.loader ∧ (returned head s).act = s.act ∧
      (returned head s).servo = s.servo ∧ (returned head s).cmd = s.cmd ∧ (returned head s).scan = s.scan ∧
      (returned head s).alarm.latch = .none ∧ (returned head s).line.statusPeriod = s.line.statusPeriod ∧
      (returned head s).alarm.records = s.alarm.records.filter (KeptRecord s) := by
  simp [returned, resumed_eq, replied]

/-- The station with an accepted RESUME, its sequencer `q` in RUN and the scanner told of the DWELL entry. -/
def backInDwell (head : CommandHead) (q : Sequencer) (s : State) : State :=
  { dwellEntered (returned head s) with seq := q }

@[simp] theorem backInDwell_frame (head : CommandHead) (q : Sequencer) (s : State) :
    (backInDwell head q s).seq = q ∧ (backInDwell head q s).age = s.age ∧ (backInDwell head q s).cfg = s.cfg ∧
      (backInDwell head q s).loader = s.loader ∧ (backInDwell head q s).act = s.act ∧
      (backInDwell head q s).servo = s.servo ∧ (backInDwell head q s).cmd = s.cmd ∧
      (backInDwell head q s).scan.shunt = s.scan.shunt ∧ (backInDwell head q s).scan.settled = false ∧
      (backInDwell head q s).alarm.latch = .none ∧
      (backInDwell head q s).line.statusPeriod = s.line.statusPeriod ∧
      (backInDwell head q s).alarm.records = s.alarm.records.filter (KeptRecord s) := by
  simp [backInDwell]

theorem backInDwell_afresh (head : CommandHead) (q : Sequencer) (s : State) :
    DwellEnteredAfresh s (backInDwell head q s) :=
  dwellEntered_afresh (returned head s)

theorem sequencerOnResume_of_hold {head : CommandHead} {s : State} {left : Nat} (hstate : s.seq.state = .held)
    (hlive : s.act.state = .live) (hphase : s.seq.phase = some .dwell) (hused : s.seq.extensionUsed = false)
    (hhold : s.seq.hold = .paused left) :
    sequencerOnResume (resumed head s) = startHold left (backInDwell head { s.seq with state := .run } s) := by
  rw [sequencerOnResume_of_dwell hstate hlive hphase, resumeDwell_of_hold (s := returned head s) hused hhold]
  rfl

theorem sequencerOnResume_of_extension {head : CommandHead} {s : State} {left : Nat} (hstate : s.seq.state = .held)
    (hlive : s.act.state = .live) (hphase : s.seq.phase = some .dwell) (hused : s.seq.extensionUsed = true)
    (hextension : s.seq.extension = .paused left) :
    sequencerOnResume (resumed head s) = startExtension left (backInDwell head { s.seq with state := .run } s) := by
  rw [sequencerOnResume_of_dwell hstate hlive hphase, resumeDwell_of_extension (s := returned head s) hused hextension]
  rfl

theorem startHold_of_backInDwell {head : CommandHead} {q : Sequencer} {s : State} {left : Nat} (h : 0 < left) :
    startHold left (backInDwell head q s) = backInDwell head { q with hold := .running (s.age + left) } s :=
  if_neg h.ne'

theorem startExtension_of_backInDwell {head : CommandHead} {q : Sequencer} {s : State} {left : Nat} (h : 0 < left) :
    startExtension left (backInDwell head q s) = backInDwell head { q with extension := .running (s.age + left) } s :=
  if_neg h.ne'

theorem startHold_of_zero (s : State) : startHold 0 s = judgeSettle s :=
  if_pos rfl

theorem startExtension_of_zero (s : State) : startExtension 0 s = extensionExpired s :=
  if_pos rfl

theorem judgeSettle_of_not_required {head : CommandHead} {q : Sequencer} {s : State} {w : WorkingCopy}
    (hwork : q.work = some w) (hw : w.settle = false) :
    judgeSettle (backInDwell head q s) = becomeDone (backInDwell head { q with hold := .stopped } s) := by
  simp [judgeSettle, settleRequired, hwork, hw, backInDwell]

/-- The DWELL entry has cleared SETTLED, so that a segment that asks for it goes on to its extension (R39, R102). -/
theorem judgeSettle_of_required {head : CommandHead} {q : Sequencer} {s : State} {w : WorkingCopy}
    (hwork : q.work = some w) (hw : w.settle = true) :
    judgeSettle (backInDwell head q s) =
      startExtension (1000 * w.extension) (backInDwell head { q with hold := .stopped, extensionUsed := true } s) := by
  have steps : ms (100 * w.extension) = 1000 * w.extension := by
    rw [ms, Config.perMs]; omega
  simp [judgeSettle, settleRequired, extensionTime, hwork, hw, steps, backInDwell]

/-- A return that only puts the station back into DWELL, a timer of the dwell running. -/
theorem exec_resume_of_backInDwell {head : CommandHead} {q : Sequencer} {s : State} (taken : Taken head 0 s)
    (flow : CommandsFlow s) (accepted : resumeReason s = none)
    (hback : sequencerOnResume (resumed head s) = backInDwell head q s) :
    ∃ t, exec (.resume head) s = .next t ∧ t.alarm.latch = .none ∧ t.seq = q ∧ DwellEnteredAfresh s t :=
  ⟨_, exec_resume_of_quiet taken flow accepted hback (by simp), by simp, by simp, backInDwell_afresh head q s⟩

/-- A return that goes on to DONE, from the state `u` that it has reached. -/
theorem exec_resume_of_becomeDone {head : CommandHead} {q : Sequencer} {s u : State} (taken : Taken head 0 s)
    (flow : CommandsFlow s) (accepted : resumeReason s = none)
    (hdone : sequencerOnResume (resumed head s) = becomeDone u) (hq : u.seq = q) (hstate : q.state = .run)
    (hbase : u.age = s.age ∧ u.line.statusPeriod = s.line.statusPeriod)
    (hkept : u.cmd = s.cmd ∧ u.alarm.latch = .none ∧ u.servo = s.servo ∧ u.act = s.act) :
    ∃ t, exec (.resume head) s = .next t ∧ t.alarm.latch = .none ∧ DoneReached q s t ∧ t.servo = s.servo ∧
      t.act = s.act := by
  subst hq
  obtain ⟨hage, hperiod⟩ := hbase
  obtain ⟨hcmd, hlatch, hservo, hact⟩ := hkept
  exact ⟨_, exec_resume_of_quiet taken flow accepted hdone (by simpa using hcmd), by simpa using hlatch,
    (becomeDone_reaches hstate).of_base hage hperiod, by simpa using hservo, by simpa using hact⟩

/-- A return whose extension expires at once: NO_SETTLE is raised under the latch of NONE that the RESUME has left. -/
theorem exec_resume_of_extensionExpired {head : CommandHead} {q : Sequencer} {s : State} (taken : Taken head 0 s)
    (accepted : resumeReason s = none)
    (hover : sequencerOnResume (resumed head s) = extensionExpired (backInDwell head q s))
    (hlive : s.act.state = .live) (haction : s.cfg.noSettleAction ≠ .none) (hstate : q.state = .run)
    (hphase : q.phase = some .dwell) :
    ∃ t, exec (.resume head) s = .next (startCommands t) ∧ t.alarm.latch = s.cfg.noSettleAction ∧
      NoSettleRaised { q with extension := .stopped } s t := by
  have raised := extensionExpired_raises (s := backInDwell head q s) (by simpa using hstate) (by simpa using hphase)
    (by simpa using hlive) (by simpa using shunt_of_accepted accepted) (by simp) (by simpa using haction)
  have fewer : (backInDwell head q s).alarm.records.length ≤ s.alarm.records.length := by
    simpa using List.length_filter_le _ _
  refine ⟨_, hover ▸ exec_resume_of_accepted taken accepted, by simp [latchMax_none_left], ?_⟩
  simpa using raised.of_base (s' := s) (by simp) (by simp) (by simp) (by simp) (by simp) fewer

/-- Settles O45: the answer by `resumeRequest_of_refused` and `resumeRequest_of_accepted`, the return to RUN by the
phase, the timer and its time left, DONE by `becomeDone_reaches` and NO_SETTLE by `extensionExpired_raises`. -/
theorem resumeLowersTheLatch : Obligations.ResumeLowersTheLatch := by
  refine ⟨?answered, ?refused, ?elsewhere, ?ramp, ⟨?hold, ?extension, ?spent, ?extensionOver⟩, ?holdOver, ?done⟩
  case answered =>
    intro head s taken flow accepted
    exact ⟨_, exec_resume_of_accepted taken accepted, (sequencerOnResume_lineGrows _).replies_append rfl⟩
  case refused =>
    intro head s reason taken flow refused
    have unmoved : startCommands (replied head 0x44 .refused reason [] s) = replied head 0x44 .refused reason [] s :=
      startCommands_of_flow flow rfl
    rw [exec_resume taken, resumeRequest_of_refused refused, unmoved]
  case elsewhere =>
    intro head s taken flow accepted hother
    exact exec_resume_of_quiet taken flow accepted (sequencerOnResume_of_not_held (s := resumed head s) hother) rfl
  case ramp =>
    intro head s taken flow accepted hstate hlive hphase
    exact exec_resume_of_quiet taken flow accepted (sequencerOnResume_of_ramp hstate hlive hphase) rfl
  case hold =>
    intro head s left taken flow accepted hstate hlive hphase hused hhold hleft
    refine exec_resume_of_backInDwell taken flow accepted ?_
    rw [sequencerOnResume_of_hold hstate hlive hphase hused hhold, startHold_of_backInDwell hleft]
  case extension =>
    intro head s left taken flow accepted hstate hlive hphase hused hextension hleft
    refine exec_resume_of_backInDwell taken flow accepted ?_
    rw [sequencerOnResume_of_extension hstate hlive hphase hused hextension, startExtension_of_backInDwell hleft]
  case spent =>
    intro head s taken flow accepted hstate hlive hphase hused hextension
    have done := (sequencerOnResume_of_dwell (head := head) hstate hlive hphase).trans
      (resumeDwell_of_spent (s := returned head s) hused hextension)
    exact exec_resume_of_becomeDone taken flow accepted done (by simp) rfl (by simp) (by simp)
  case extensionOver =>
    intro head s taken flow accepted hstate hlive hphase hused hextension haction
    have expired : sequencerOnResume (resumed head s) =
        extensionExpired (backInDwell head { s.seq with state := .run } s) := by
      rw [sequencerOnResume_of_extension hstate hlive hphase hused hextension, startExtension_of_zero]
    exact exec_resume_of_extensionExpired taken accepted expired hlive haction rfl hphase
  case holdOver =>
    intro head s w taken flow accepted hstate hlive hphase hused hhold hwork
    have back : sequencerOnResume (resumed head s) = judgeSettle (backInDwell head { s.seq with state := .run } s) := by
      rw [sequencerOnResume_of_hold hstate hlive hphase hused hhold, startHold_of_zero]
    have extended (hsettle : w.settle = true) :=
      back.trans (judgeSettle_of_required (q := { s.seq with state := .run }) hwork hsettle)
    refine ⟨fun hsettle => ?_, fun hsettle hextension => ?_, fun hsettle hextension haction => ?_⟩
    · have done := back.trans (judgeSettle_of_not_required (q := { s.seq with state := .run }) hwork hsettle)
      exact exec_resume_of_becomeDone (q := { s.seq with state := .run, hold := .stopped }) taken flow accepted done
        (by simp) rfl (by simp) (by simp)
    · refine exec_resume_of_backInDwell taken flow accepted ?_
      rw [extended hsettle, startExtension_of_backInDwell (by omega)]
    · have expired := extended hsettle
      rw [hextension, startExtension_of_zero] at expired
      exact exec_resume_of_extensionExpired taken accepted expired hlive haction rfl hphase
  case done =>
    intro head s c g taken flow accepted hstate hlive hphase hchoice hg
    have back := sequencerOnResume_of_done (head := head) hstate hlive hphase
    have asked : AsksInDone c g (returned head s) (askGate (returned head s)) :=
      askGate_asks (by simp) (by simpa using hphase) (by simpa using hchoice) (by simpa using hg)
    exact ⟨_, exec_resume_of_quiet taken flow accepted back (by simp), by simp,
      asked.of_base (by simp) (by simp) (by simp), by simp, by simp⟩

end Sys2Proof.Machine

/-! FETCH and FREE (section 9.6, R157 and R160): each row of their tables as an equation of the request function, under
the conditions in which the rows before it do not apply. -/
namespace Sys2Proof.Machine

open Sys2Proof

/-! ### Sending a block (R159) -/

/-- A block just chosen stands with its pages as before; so the parts placed at once are read from those. -/
theorem pages_modifyAt_state (st : BlockState) (n m : Nat) (table : List BlockEntry) :
    ((modifyAt (fun e => { e with state := st }) n table).getD m BlockEntry.freeEntry).pages =
      (table.getD m BlockEntry.freeEntry).pages := by
  rw [modifyAt_getD]
  split <;> rfl

theorem filter_bne_eq (n : Nat) (queue : List Nat) :
    queue.filter (fun m => m != n) = queue.filter (fun m => decide (m ≠ n)) :=
  List.filter_congr fun m _ => by by_cases h : m = n <;> simp [h]

theorem startSending_eq_sendStarted (b console : Nat) (s : State) :
    startSending b console s = sendStarted b console s := by
  simp only [startSending, placeParts, sendStarted, dataPart, blockAt, pages_modifyAt_state, filter_bne_eq,
    Config.dataQueueSize, Nat.sub_zero, Nat.zero_add]

/-! ### FETCH (R157) -/

theorem exec_fetch {head : CommandHead} {which wait : Nat} {s : State} (h : Taken head 3 s) :
    exec (.fetch head which wait) s = .next (fetchRequest head which wait s) :=
  congrArg _ (takeCommand_of_taken h rfl)

theorem fetchRequest_of_out_of_range {head : CommandHead} {which wait : Nat} {s : State}
    (h : (63 < which ∧ which ≠ 255) ∨ 60000 < wait) :
    fetchRequest head which wait s = replied head 0x48 .refused .range [] s :=
  if_pos h

theorem fetchRequest_of_block {head : CommandHead} {which wait : Nat} {s : State} (hwhich : which ≤ 63)
    (hwait : wait ≤ 60000) : fetchRequest head which wait s = fetchBlock head which s := by
  rw [fetchRequest, if_neg (by omega), if_neg (by omega)]

theorem fetchRequest_of_oldest {head : CommandHead} {wait : Nat} {s : State} (hwait : wait ≤ 60000) :
    fetchRequest head 255 wait s = fetchOldest head wait s := by
  rw [fetchRequest, if_neg (by omega), if_pos rfl]

theorem fetchBlock_of_free {head : CommandHead} {n : Nat} {s : State} (h : (blockAt n s).state = .free) :
    fetchBlock head n s = replied head 0x48 .refused .notFound [] s := by
  rw [fetchBlock, h]
  rfl

theorem fetchBlock_of_filling {head : CommandHead} {n : Nat} {s : State} (h : (blockAt n s).state = .filling) :
    fetchBlock head n s = replied head 0x48 .refused .state [] s := by
  rw [fetchBlock, h]
  rfl

/-- A block that is past its filling is sent unless another sending is in progress (R157, orders 4 and 5). -/
theorem fetchBlock_of_filled {head : CommandHead} {n : Nat} {s : State} (hfree : (blockAt n s).state ≠ .free)
    (hfilling : (blockAt n s).state ≠ .filling) :
    fetchBlock head n s =
      if s.recs.sending.isSome then replied head 0x48 .refused .busy [] s
      else sendStarted n head.sender (replied head 0x48 .done .none [] s) := by
  rw [fetchBlock, ← startSending_eq_sendStarted]
  split
  next h => exact absurd h hfree
  next h => exact absurd h hfilling
  next => rfl

theorem fetchOldest_of_sealed {head : CommandHead} {wait b : Nat} {rest : List Nat} {s : State}
    (hsending : s.recs.sending = none) (hqueue : s.recs.sealedQ = b :: rest) :
    fetchOldest head wait s = sendStarted b head.sender (replied head 0x48 .done .none [] s) := by
  rw [fetchOldest, hsending, hqueue, ← startSending_eq_sendStarted]
  rfl

/-- With no block to send at once, room in the fetch queue is asked for before the waiting time (R157, orders 7
to 10). -/
theorem fetchOldest_of_none_ready {head : CommandHead} {wait : Nat} {s : State}
    (h : s.recs.sending ≠ none ∨ s.recs.sealedQ = []) :
    fetchOldest head wait s =
      if 4 ≤ s.recs.fetchQ.length then replied head 0x48 .refused .busy [] s
      else if s.recs.sending.isSome ∨ 0 < wait then joinFetchQueue head.sender wait s
      else replied head 0x48 .empty .none [] s := by
  unfold fetchOldest
  split
  next hsending hqueue => simp [hsending, hqueue] at h
  next => rfl

/-- Settles O38: by number the row is chosen by the block's state (`fetchBlock_of_filled` where it has its record),
for OLDEST by whether a block can be sent at once (`fetchOldest_of_sealed`, `fetchOldest_of_none_ready`). -/
theorem fetchFollowsItsTable : Obligations.FetchFollowsItsTable := by
  intro head which wait s taken
  rw [exec_fetch taken]
  refine ⟨fun bad => by rw [fetchRequest_of_out_of_range bad], ?byNumber, ?oldest⟩
  case byNumber =>
    intro hwhich hwait
    rw [fetchRequest_of_block hwhich hwait]
    refine ⟨fun hfree => by rw [fetchBlock_of_free hfree], fun hfilling => by rw [fetchBlock_of_filling hfilling],
      fun hfree hfilling hsending => ?busy, fun hstate hsending => ?sent⟩
    case busy => rw [fetchBlock_of_filled hfree hfilling, if_pos (Option.isSome_iff_ne_none.mpr hsending)]
    case sent =>
      obtain ⟨hfree, hfilling⟩ : (blockAt which s).state ≠ .free ∧ (blockAt which s).state ≠ .filling := by
        rcases hstate with h | h <;> simp [h]
      rw [fetchBlock_of_filled hfree hfilling, if_neg (by simp [hsending])]
  case oldest =>
    rintro rfl hwait
    rw [fetchRequest_of_oldest hwait]
    refine ⟨fun b rest hsending hqueue => by rw [fetchOldest_of_sealed hsending hqueue],
      fun hnone hfull => ?busy, fun hwaits hroom => ?joins, fun hsending hqueue hwait0 hroom => ?empty⟩
    case busy => rw [fetchOldest_of_none_ready hnone, if_pos hfull]
    case joins =>
      rw [fetchOldest_of_none_ready (hwaits.imp_right And.left), if_neg (by omega),
        if_pos (hwaits.imp Option.isSome_iff_ne_none.mpr And.right)]
      rfl
    case empty =>
      rw [fetchOldest_of_none_ready (.inr hqueue), if_neg (by omega), if_neg (by simp [hsending, hwait0])]

/-! ### FREE (R160) -/

theorem exec_free {head : CommandHead} {n : Nat} {s : State} (h : Taken head 1 s) :
    exec (.free head n) s = .next (freeRequest head n s) :=
  congrArg _ (takeCommand_of_taken h rfl)

theorem freeRequest_of_out_of_range {head : CommandHead} {n : Nat} {s : State} (h : 63 < n) :
    freeRequest head n s = replied head 0x49 .refused .range [] s :=
  if_pos h

theorem freeRequest_of_free {head : CommandHead} {n : Nat} {s : State} (hn : n ≤ 63)
    (h : (blockAt n s).state = .free) : freeRequest head n s = replied head 0x49 .refused .notFound [] s := by
  rw [freeRequest, if_neg (by omega), h]
  rfl

theorem freeRequest_of_busy {head : CommandHead} {n : Nat} {s : State} (hn : n ≤ 63)
    (h : (blockAt n s).state = .filling ∨ (blockAt n s).state = .sending) :
    freeRequest head n s = replied head 0x49 .refused .state [] s := by
  rw [freeRequest, if_neg (by omega)]
  rcases h with h | h <;> rw [h] <;> rfl

theorem freeRequest_of_kept {head : CommandHead} {n : Nat} {s : State} (hn : n ≤ 63)
    (h : (blockAt n s).state = .sealed ∨ (blockAt n s).state = .sent) :
    freeRequest head n s = freePagesOf n (replied head 0x49 .done .none [] s) := by
  rw [freeRequest, if_neg (by omega)]
  rcases h with h | h <;> rw [h] <;> rfl

/-- The pressure is judged on the free-page count after the pages have returned (R153). -/
theorem freePagesOf_eq (n : Nat) (s : State) :
    freePagesOf n s = { s with
      recs.sealedQ := s.recs.sealedQ.filter (fun m => decide (m ≠ n))
      recs.freePages := s.recs.freePages + s.cfg.blockPages
      recs.table := setAt n { state := .free, pages := [], samples := 0, firstAge := 0, lastOffset := 0 } s.recs.table
      recs.pressure :=
        if s.recs.freePages + s.cfg.blockPages < 64 then true
        else if 96 ≤ s.recs.freePages + s.cfg.blockPages then false else s.recs.pressure } := by
  rw [← filter_bne_eq]
  rfl

/-- Settles O39: the row is chosen by the block's state, and `freePagesOf_eq` says what the last one does. -/
theorem freeGivesTheBlockBack : Obligations.FreeGivesTheBlockBack := by
  intro head n s taken
  rw [exec_free taken]
  refine ⟨fun bad => by rw [freeRequest_of_out_of_range bad], fun hn hfree => by rw [freeRequest_of_free hn hfree],
    fun hn hbusy => by rw [freeRequest_of_busy hn hbusy], fun hn hkept => ?freed⟩
  rw [freeRequest_of_kept hn hkept, freePagesOf_eq]
  rfl

end Sys2Proof.Machine

/-! The command queue (section 10.2, R164 and R165): a queued command is appended or refused BUSY, and the end of an
event starts the waiting commands one by one, each behind the judgement of the one before. -/
namespace Sys2Proof.Machine

open Sys2Proof

/-! ### Taking a queued command (R163, R164) -/

theorem commandLength_queuedKindCode (kind : QueuedKind) : commandLength (queuedKindCode kind) = some 0 := by
  cases kind <;> rfl

theorem exec_of_queuedOf {c : Instr} {head : CommandHead} {kind : QueuedKind} (s : State)
    (h : queuedOf c = some (head, kind)) : exec c s = .next (takeQueued head kind s) := by
  unfold queuedOf at h
  split at h
  case h_8 => cases h
  all_goals
    cases h
    rfl

/-- A queued command of good form comes to the queue, whatever its kind: its owner judges it when it starts. -/
theorem exec_queued {c : Instr} {head : CommandHead} {kind : QueuedKind} {s : State}
    (hc : queuedOf c = some (head, kind)) (taken : Taken head 0 s) : exec c s = .next (enqueue head kind s) := by
  rw [exec_of_queuedOf s hc, takeQueued, takeCommand_of_taken taken (commandLength_queuedKindCode kind)]

theorem enqueue_of_room {head : CommandHead} {kind : QueuedKind} {s : State} (h : s.cmd.queue.length < 8) :
    enqueue head kind s = startCommands
      { s with cmd.queue := s.cmd.queue ++ [{ kind := kind, console := head.sender }] } :=
  if_pos h

theorem enqueue_of_full {head : CommandHead} {kind : QueuedKind} {s : State} (h : 8 ≤ s.cmd.queue.length) :
    enqueue head kind s = replied head (queuedKindCode kind) .refused .busy [] s :=
  if_neg (Nat.not_lt.mpr h)

/-! ### Starting the waiting commands (R165) -/

theorem startCommands_of_running {s : State} (h : s.loader.phase = .running) :
    startCommands s = startWaiting s.cmd.queue.length s :=
  if_pos (decide_eq_true h)

theorem startCommands_of_not_running {s : State} (h : s.loader.phase ≠ .running) : startCommands s = s :=
  if_neg (by simpa [isRunning] using h)

theorem startWaiting_of_waiting {n : Nat} {s : State} {q : QueuedCommand} {rest : List QueuedCommand}
    (hcurrent : s.cmd.current = none) (hqueue : s.cmd.queue = q :: rest) :
    startWaiting (n + 1) s =
      startWaiting n (judgeQueued q.kind { s with cmd.queue := rest, cmd.current := some q }) := by
  rw [startWaiting, hcurrent, hqueue]

theorem startCommands_of_empty {s : State} (h : s.cmd.queue = []) : startCommands s = s := by
  by_cases hphase : s.loader.phase = .running
  · rw [startCommands_of_running hphase, h]
    rfl
  · exact startCommands_of_not_running hphase

/-- The bound of `startWaiting` stays exact behind a started command: a judgement neither appends to the queue nor takes
from it, and leaves the station running. -/
theorem startCommands_of_waiting {s : State} {q : QueuedCommand} {rest : List QueuedCommand}
    (hphase : s.loader.phase = .running) (hcurrent : s.cmd.current = none) (hqueue : s.cmd.queue = q :: rest) :
    startCommands s =
      startCommands (judgeQueued q.kind { s with cmd.queue := rest, cmd.current := some q }) := by
  have queueKept : (judgeQueued q.kind { s with cmd.queue := rest, cmd.current := some q }).cmd.queue = rest := by simp
  have stillRuns :
      (judgeQueued q.kind { s with cmd.queue := rest, cmd.current := some q }).loader.phase = .running := by
    simpa using hphase
  rw [startCommands_of_running hphase, startCommands_of_running stillRuns, queueKept, hqueue, List.length_cons,
    startWaiting_of_waiting hcurrent hqueue]

/-- Settles O47: taking is `enqueue` on either side of its bound; starting is `startCommands_of_waiting`, and without a
command to start, or a station to start it, nothing. -/
theorem queuedCommandsStartInOrder : Obligations.QueuedCommandsStartInOrder := by
  refine ⟨?room, ?full, ?nothingToStart, fun s q rest => startCommands_of_waiting⟩
  case room =>
    intro c head kind s hc taken hroom
    rw [exec_queued hc taken, enqueue_of_room hroom]
  case full =>
    intro c head kind s hc taken hfull
    rw [exec_queued hc taken, enqueue_of_full hfull]
  case nothingToStart =>
    rintro s (hcurrent | hqueue | hphase)
    · obtain ⟨q, hq⟩ := Option.ne_none_iff_exists'.mp hcurrent
      exact startCommands_of_current hq
    · exact startCommands_of_empty hqueue
    · exact startCommands_of_not_running hphase

end Sys2Proof.Machine

/-! The step and the start (R170): each invariant of Safety.lean holds of the station that a start leaves, whatever the
cause of the start and the input levels, and so of the station after reset; and a held station takes no event. -/
namespace Sys2Proof.Machine

open Sys2Proof

/-! ### The step -/

/-- Settles O1: both sides are the same arm of `step`. -/
theorem stepRunsFrontCommand : Obligations.StepRunsFrontCommand :=
  fun _ _ _ => rfl

/-! ### A start and the invariants -/

section
variable (cause : StartCause) (levels : StartLevels) (pending : List Instr)

theorem start_levelBounded : LevelBounded (State.start cause levels pending) := by
  simp [LevelBounded, Servo.reset, Sequencer.reset]

theorem start_driveBounded : DriveBounded (State.start cause levels pending) := by
  simp [DriveBounded, Servo.reset, Pins.reset, Config.integralMax, Config.driveMax]

/-- The lines of a start are those of the start state that LOCK_ENGAGED and ESTOP decide (R94). -/
theorem start_tableLines :
    tableLines (State.start cause levels pending) = some (valveLines (State.start cause levels pending)) := by
  obtain ⟨pressOk, lockEngaged, estop⟩ := levels
  cases lockEngaged <;> cases estop <;> rfl

theorem start_linesFollow : LinesFollow (State.start cause levels pending) :=
  start_tableLines cause levels pending

theorem start_estopHeld : EstopHeld (State.start cause levels pending) := by
  intro _ hestop
  simp only [start_pins, Pins.reset] at hestop
  cases hlock : levels.lockEngaged <;> simp [Actuator.reset, hlock, hestop]

theorem start_runNeedsLive : RunNeedsLive (State.start cause levels pending) := by
  simp [RunNeedsLive, Sequencer.reset]

theorem start_latchHolds : LatchHolds (State.start cause levels pending) := by
  simp [LatchHolds, Sequencer.reset]

theorem start_dwellTimers : DwellTimers (State.start cause levels pending) := by
  simp [DwellTimers, Sequencer.reset, timerRuns]

theorem start_settleInDwell : SettleInDwell (State.start cause levels pending) := by
  simp [SettleInDwell, Scanner.reset]

theorem start_alarmListOk : AlarmListOk (State.start cause levels pending) := by
  simp [AlarmListOk, AlarmUnit.reset]

theorem start_queuesBounded : QueuesBounded (State.start cause levels pending) := by
  simp [QueuesBounded, LineUnit.reset, Actuator.reset, RecordMemory.reset, CommandUnit.reset, CrackMonitor.reset]

theorem start_commandsFlow : CommandsFlow (State.start cause levels pending) := by
  simp [CommandsFlow, CommandUnit.reset]

theorem start_takeMatches : TakeMatches (State.start cause levels pending) := by
  simp [TakeMatches, statusTaken, onOffer, LineUnit.reset]

theorem start_shuntGuarded : ShuntGuarded (State.start cause levels pending) := by
  simp [ShuntGuarded, Scanner.reset, shuntStateActive, Pins.reset, slotMatches, slotLeftOver, LineUnit.reset,
    CommandUnit.reset]

theorem start_poolCanonical : PoolCanonical (State.start cause levels pending) :=
  rfl

theorem start_table_free : ∀ e ∈ (State.start cause levels pending).recs.table, e = BlockEntry.freeEntry := by
  intro e he
  exact List.eq_of_mem_replicate (n := 64) he

theorem start_blockAt (n : Nat) : blockAt n (State.start cause levels pending) = BlockEntry.freeEntry := by
  rw [blockAt, start_recs, RecordMemory.reset, List.getD_eq_getElem?_getD, List.getElem?_replicate]
  split <;> rfl

theorem start_fillings :
    (State.start cause levels pending).recs.table.countP (fun e => decide (e.state = .filling)) ≤ 1 := by
  rw [List.countP_eq_zero.mpr]
  · exact Nat.zero_le 1
  · intro e he
    simp [start_table_free cause levels pending e he, BlockEntry.freeEntry]

theorem start_pagesAddUp : PagesAddUp (State.start cause levels pending) := by
  have free := start_table_free cause levels pending
  have held : heldPages (State.start cause levels pending) = [] := by
    rw [heldPages, List.flatMap_eq_nil_iff]
    intro e he
    rw [free e he, BlockEntry.freeEntry]
  refine ⟨List.length_replicate, fun e he => ?_, ?_, ?_, ?_, start_fillings cause levels pending, fun _ e he => ?_⟩
  · simp [free e he, BlockEntry.freeEntry]
  · simp [held]
  · simp [held]
  · simp [held, RecordMemory.reset, Config.poolPages]
  · rw [free e he, BlockEntry.freeEntry]

theorem start_blocksMatch : BlocksMatch (State.start cause levels pending) := by
  refine ⟨List.nodup_nil, fun n _ => ?_, ?_, fun n _ => ?_, ?_, List.length_replicate,
    start_fillings cause levels pending⟩
  · simp [start_blockAt, RecordMemory.reset, BlockEntry.freeEntry]
  · simp [RecordMemory.reset]
  · simp [start_blockAt, RecordMemory.reset, BlockEntry.freeEntry]
  · simp [RecordMemory.reset]

theorem start_crackKept : CrackKept (State.start cause levels pending) := by
  refine ⟨fun l _ hl => ?_, fun _ => ⟨?_, ?_⟩⟩
  · rw [start_crack, CrackMonitor.reset, List.getD_eq_getElem?_getD, List.getElem?_replicate] at hl
    split at hl <;> cases hl
  · simp [CrackMonitor.reset]
  · simp [CrackMonitor.reset]

end

/-- Settles O3: the station after reset is the one a start after power-up leaves. -/
theorem resetSatisfiesTheInvariants : Obligations.ResetSatisfiesTheInvariants :=
  ⟨start_levelBounded _ _ _, start_driveBounded _ _ _, start_linesFollow _ _ _, start_estopHeld _ _ _,
    start_runNeedsLive _ _ _, start_latchHolds _ _ _, start_dwellTimers _ _ _, start_settleInDwell _ _ _,
    start_alarmListOk _ _ _, start_queuesBounded _ _ _, start_commandsFlow _ _ _, start_takeMatches _ _ _,
    start_shuntGuarded _ _ _, start_poolCanonical _ _ _, start_pagesAddUp _ _ _, start_blocksMatch _ _ _,
    start_crackKept _ _ _⟩

/-! ### A held station (R170) -/

theorem takeCommand_of_held {head : CommandHead} {code : Nat} {owner : State → State} {s : State}
    (h : s.loader.phase = .held) : takeCommand head code owner s = s := by
  simp [takeCommand, h]

theorem isRunning_of_held {s : State} (h : s.loader.phase = .held) : isRunning s = false := by
  simp [isRunning, h]

theorem lineSends_of_held {s : State} (h : s.loader.phase = .held) : lineSends s = false := by
  simp [lineSends, h]

theorem takesEvents_of_held {s : State} (h : s.loader.phase = .held) : takesEvents s = false := by
  simp [takesEvents, h]

theorem startCommands_of_held {s : State} (h : s.loader.phase = .held) : startCommands s = s :=
  startCommands_of_not_running (by simp [h])

theorem timerEvent_of_held {due : Option Nat} {f : State → State} {s : State} (h : s.loader.phase = .held) :
    timerEvent due f s = s := by
  simp [timerEvent, whenRunning, isRunning_of_held h]

theorem whenRunning_of_held {f : State → State} {s : State} (h : s.loader.phase = .held) : whenRunning f s = s := by
  simp [whenRunning, isRunning_of_held h]

theorem ownCompletion_of_held {c : TxClass} {f : State → State} {s : State} (h : s.loader.phase = .held) :
    ownCompletion c f s = s := by
  simp [ownCompletion, lineSends_of_held h]

theorem fromPeer_of_held {sender : Nat} {f : State → State} {s : State} (h : s.loader.phase = .held) :
    fromPeer sender f s = s := by
  simp [fromPeer, isRunning_of_held h]

theorem handOn_of_held (c : Instr) {s : State} (h : s.loader.phase = .held) : handOn c s = s := by
  have hstart := startCommands_of_held h
  cases c <;>
    simp only [handOn, statusReceivedEvent, alarmHeardEvent, chargeHeardEvent, shuntClaimHeardEvent,
      shuntDoneHeardEvent, unknownKindEvent, programEvent, clearprogEvent, runEvent, holdEvent, unloadEvent, resumeEvent,
      ackEvent, acceptEvent, fetchEvent, freeEvent, cutEvent, timesetEvent, queryCrackEvent, queryAlarmsEvent,
      queryStrainEvent, queryPeerEvent, queryOtherEvent, takeQueued, takeCommand_of_held h, fromPeer_of_held h, hstart,
      ite_self]

theorem receiveBytes_of_held (heard : HeardTelegram) {s : State} (h : s.loader.phase = .held) :
    receiveBytes heard s = s := by
  unfold receiveBytes
  split
  · exact handOn_of_held _ h
  · rfl

/-- Settles O5: every arm but the three of a start asks the phase first, by `isRunning`, `lineSends`, `takesEvents`,
`takeCommand` or, for READING_END, by name. -/
theorem heldStationTakesNoEvent : Obligations.HeldStationTakesNoEvent := by
  intro c s h hpower hrelease hassert
  have hstart := startCommands_of_held h
  have hsends := lineSends_of_held h
  have htakes := takesEvents_of_held h
  have hrun := isRunning_of_held h
  have hcommand := handOn_of_held c h
  cases c
  case powerUp levels => exact absurd rfl (hpower levels)
  case resetPinRelease levels => exact absurd rfl (hrelease levels)
  case resetPinAssert => exact absurd rfl hassert
  case receivedTelegramDiscard heard => exact congrArg Host.Outcome.next (receiveBytes_of_held heard h)
  case readingEnd | arbitrationOpportunity | arbitrationLoss | telegramAbandon | statusTimerExpiry |
      statusOwnCompletion | alarmOwnCompletion | replyOwnCompletion | dataOwnCompletion | chargeOwnCompletion |
      shuntClaimOwnCompletion | shuntDoneOwnCompletion =>
    simp [exec, execReadingEnd, execArbitrationOpportunity, opportunity, execArbitrationLoss, execTelegramAbandon,
      execStatusTimerExpiry, execStatusOwnCompletion, execAlarmOwnCompletion, execReplyOwnCompletion,
      execDataOwnCompletion, execChargeOwnCompletion, execShuntClaimOwnCompletion, execShuntDoneOwnCompletion, h, hsends,
      ownCompletion_of_held h, hstart]
  case pressOkChange | lockEngagedChange | estopActive | estopInactive =>
    simp [exec, execPressOkChange, pressOkEvent, execLockEngagedChange, lockEngagedEvent, execEstopActive,
      estopActiveEvent, execEstopInactive, estopInactiveEvent, htakes]
  case peerRecordExpiry | windowTimerExpiry | servoTick | tripCountReached | reacquireTimerExpiry | holdTimerExpiry |
      extensionTimerExpiry | mismatchTimerExpiry | chargeTimerExpiry | lockTimerExpiry | acquisitionTimerExpiry |
      unlockDeadlineExpiry | lockCheckTimerExpiry | scan | averagingRunComplete | exceedRunReachesM |
      settleWindowExpiry | zeroComplete | shuntSpanEnd | shuntJudgement | loopScan | loopReadingTaken | aeHit |
      deadTimeExpiry | captureEnd | fetchRequestExpiry =>
    simp [exec, execPeerRecordExpiry, recordExpiry, execWindowTimerExpiry, execServoTick, execTripCountReached,
      execReacquireTimerExpiry, execHoldTimerExpiry, execExtensionTimerExpiry, execMismatchTimerExpiry, dwellExpiry,
      execChargeTimerExpiry, execLockTimerExpiry, execAcquisitionTimerExpiry, execUnlockDeadlineExpiry,
      execLockCheckTimerExpiry, actuatorExpiry, execScan, execAveragingRunComplete, execExceedRunReachesM,
      execSettleWindowExpiry, execZeroComplete, execShuntSpanEnd, execShuntJudgement, execLoopScan,
      execLoopReadingTaken, execAeHit, execDeadTimeExpiry, execCaptureEnd, execFetchRequestExpiry,
      timerEvent_of_held h, whenRunning_of_held h, hstart]
  all_goals exact congrArg Host.Outcome.next hcommand

end Sys2Proof.Machine

/-! The age clock with no command waiting (R168), and the reset values that the three start commands leave. -/
namespace Sys2Proof.Machine
open Sys2Proof

/-! ### The age clock (R168) -/

/-- The time tag of a step of 0.1 ms: each tenth ends a millisecond (R168). -/
theorem tag_of_tenth (tag : BitVec 32) (age : Nat) :
    tag + BitVec.ofNat 32 ((age + 1) / 10 - age / 10) = if (age + 1) % 10 = 0 then tag + 1 else tag := by
  split
  · rw [show (age + 1) / 10 - age / 10 = 1 by omega]; rfl
  · rw [show (age + 1) / 10 - age / 10 = 0 by omega]; simp

/-- Settles O2: `tick` is one step of `advanceTo` and then the expiries that fall due. -/
theorem emptyQueueStepsTheAgeClock : Obligations.EmptyQueueStepsTheAgeClock := by
  intro s hpending
  have hstep : step s = .next (tick s) := by simp [step, hpending]
  refine ⟨fun h => ?_, fun h => ⟨tick s, hstep, ?_⟩⟩
  · rw [hstep, tick, takesEvents_of_held h]; rfl
  · have htick : tick s = { advanceTo (s.age + 1) s with pending := dueExpiries (advanceTo (s.age + 1) s) } := by
      have hrest : (advanceTo (s.age + 1) s).pending = [] := by
        rw [advanceTo, if_pos (Nat.lt_succ_self _)]; exact hpending
      simp [tick, takesEvents, h, hrest]
    have hadvance : advanceTo (s.age + 1) s =
        { s with age := s.age + 1, cmd.timeTag := if (s.age + 1) % 10 = 0 then s.cmd.timeTag + 1 else s.cmd.timeTag } := by
      rw [advanceTo, if_pos (Nat.lt_succ_self _), ← tag_of_tenth]; rfl
    rw [htick, hadvance]
    refine ⟨rfl, rfl, rfl, ?_⟩
    rw [← hpending]

/-! ### The start commands (R170) -/

section
variable (cause : StartCause) (levels : StartLevels) (pending : List Instr)

theorem start_actuatorCleared : ActuatorCleared (State.start cause levels pending) :=
  ⟨rfl, rfl, rfl, rfl, rfl, rfl, rfl, rfl, rfl, rfl, rfl⟩

theorem start_actuatorStart : ActuatorStart levels (State.start cause levels pending) := by
  refine ⟨rfl, ?_, rfl, start_actuatorCleared _ _ _⟩
  cases h : levels.lockEngaged <;> simp [valveLines, Pins.reset, h]

theorem start_lineStart : LineStart (State.start cause levels pending) :=
  ⟨rfl, rfl, rfl, rfl, rfl, rfl, rfl, rfl, rfl, rfl, rfl, rfl, rfl, rfl, rfl⟩

theorem start_peersStart : PeersStart (State.start cause levels pending) := by
  refine ⟨rfl, fun p hp => ?_, rfl, rfl⟩
  rw [List.eq_of_mem_replicate hp]
  simp [PeerRecord.reset]

theorem start_driveStart : DriveStart (State.start cause levels pending) := by
  refine ⟨rfl, rfl, rfl, rfl, rfl, crc16_empty_table.symm, ?_⟩
  repeat' constructor

theorem start_measureStart : MeasureStart (State.start cause levels pending) := by
  simp only [MeasureStart, start_scan, start_pins, start_crack]
  refine ⟨rfl, rfl, rfl, rfl, rfl, rfl, rfl, rfl, rfl, rfl, rfl, rfl, fun c hc => ?_, rfl, rfl, rfl, rfl⟩
  rw [List.eq_of_mem_replicate hc]
  simp [Channel.reset]

theorem start_unitsStart : UnitsStart (State.start cause levels pending) := by
  simp only [UnitsStart, start_alarm, start_recs, start_cmd]
  refine ⟨rfl, rfl, rfl, rfl, rfl, fun e he => ?_, rfl, rfl, rfl, rfl, rfl, rfl, rfl, rfl, rfl, rfl, rfl, rfl, rfl, rfl⟩
  rw [List.eq_of_mem_replicate he]; rfl

theorem start_freshStart : FreshStart cause levels (State.start cause levels pending) :=
  ⟨rfl, rfl, rfl, start_actuatorStart _ _ _, start_lineStart _ _ _, start_peersStart _ _ _, start_driveStart _ _ _,
    start_measureStart _ _ _, start_unitsStart _ _ _⟩

end

/-- Settles O4: all three commands run `State.start`; an asserted pin then holds the outputs. -/
theorem startLeavesEveryBlockAtReset : Obligations.StartLeavesEveryBlockAtReset := by
  refine ⟨fun levels s => ⟨_, rfl, start_freshStart _ _ _, rfl⟩, fun levels s h => ?_, fun s => ⟨_, rfl, ?_⟩⟩
  · exact ⟨State.start .pin levels s.pending, by simp [exec, execResetPinRelease, h], start_freshStart _ _ _, rfl⟩
  · let levels : StartLevels := { pressOk := s.pins.pressOk, lockEngaged := s.pins.lockEngaged, estop := s.pins.estop }
    exact ⟨rfl, rfl, rfl, rfl, rfl, rfl, rfl, start_actuatorCleared .pin levels s.pending,
      start_lineStart .pin levels s.pending, start_peersStart .pin levels s.pending,
      start_driveStart .pin levels s.pending, start_measureStart .pin levels s.pending,
      start_unitsStart .pin levels s.pending⟩

end Sys2Proof.Machine

/-! What an operation keeps of the invariants of Safety.lean. `Kept x s t` says of two states, the second reached from the
first by some operation, that it satisfies each invariant that the first does, but those that the exemptions `x` name;
beside the invariants it holds what their chaining needs, and that the pieces of state of other owners are as they
were. The relation is reflexive and transitive, so that an
operation keeps what each of its parts keeps; an invariant that an operation breaks on its way is exempted there and
restored at its end. -/
namespace Sys2Proof.Machine

open Sys2Proof

-- One proof after the other: the threads of the check, which compiles the whole text at once, share one memory limit.
set_option Elab.async false

/-- What an operation is not asked to keep: that the latch does not fall, that no queued command is ended or started,
that no block is freed; the invariants that an operation may break before it restores them; and the pieces of state
that it owns. -/
structure Exempt where
  lowers : Prop := False
  ends : Prop := False
  frees : Prop := False
  lines : Prop := False
  estop : Prop := False
  run : Prop := False
  latched : Prop := False
  settle : Prop := False
  take : Prop := False
  shunt : Prop := False
  reads : Prop := False
  table : Prop := False
  tick : Prop := False
  integral : Prop := False
  loadZero : Prop := False
  peers : Prop := False
  entries : Prop := False
  loops : Prop := False
  inputs : Prop := False
  averages : Prop := False
  pressOk : Prop := False
  lockEngaged : Prop := False
  estopPin : Prop := False
  timeTag : Prop := False

/-- The lines are those of Table 5-4: `LinesFollow` of a station whose pin is not held. -/
def LinesOfTable (s : State) : Prop :=
  tableLines s = some (valveLines s)

/-- The two invariants of the record memory, which are kept together. -/
def MemoryWhole (s : State) : Prop :=
  PagesAddUp s ∧ BlocksMatch s

/-- A block that holds its record in `s` holds it in `t`, on the same pages with the same bytes. -/
def RecordsStay (s t : State) : Prop :=
  ∀ n, HoldsRecord n s → HoldsRecord n t ∧ (blockAt n t).pages = (blockAt n s).pages ∧
    ∀ a, a / 256 ∈ (blockAt n s).pages → poolRead t.recs.pool a = poolRead s.recs.pool a

/-- A crack table entry filled in `s` is that of `t` too. -/
def EntriesStay (s t : State) : Prop :=
  ∀ l < 8, ∀ e, s.crack.entries.getD l none = some e → t.crack.entries.getD l none = some e

/-- Before the station runs no command is in progress and none waits (R169). -/
def IdleCommands (s : State) : Prop :=
  s.loader.phase ≠ .running → s.cmd.current = none ∧ s.cmd.queue = []

/-- The level, its accumulator, the force values, the drive and the flags of the bands, which a tick forms (R56). -/
def SameTick (s t : State) : Prop :=
  t.servo.lam = s.servo.lam ∧ t.servo.acc = s.servo.acc ∧ t.servo.fSet = s.servo.fSet ∧
    t.servo.fMeas = s.servo.fMeas ∧ t.servo.error = s.servo.error ∧ t.servo.drive = s.servo.drive ∧
    t.servo.lagging = s.servo.lagging ∧ t.servo.overLimit = s.servo.overLimit

theorem SameTick.trans {s t u : State} (h : SameTick s t) (k : SameTick t u) : SameTick s u := by
  obtain ⟨h1, h2, h3, h4, h5, h6, h7, h8⟩ := h
  obtain ⟨k1, k2, k3, k4, k5, k6, k7, k8⟩ := k
  exact ⟨k1.trans h1, k2.trans h2, k3.trans h3, k4.trans h4, k5.trans h5, k6.trans h6, k7.trans h7, k8.trans h8⟩

/-- The latest averages of the channels (R98). -/
def latestAverages (s : State) : List Int :=
  s.scan.channels.map (fun ch => ch.latest)

theorem latestAverages_of_modifyAt {s t : State} {f : Channel → Channel} {c : Nat}
    (hc : t.scan.channels = modifyAt f c s.scan.channels) (hf : ∀ ch, (f ch).latest = ch.latest) :
    latestAverages t = latestAverages s := by
  rw [latestAverages, hc, latestAverages]
  clear hc
  generalize s.scan.channels = l
  induction l generalizing c with
  | nil => cases c <;> rfl
  | cons ch r ih =>
    cases c with
    | zero => simp [modifyAt, hf]
    | succ c => simpa [modifyAt] using ih

theorem latestAverages_of_mapFrom {s t : State} {f : Nat → Channel → Channel}
    (hc : t.scan.channels = mapFrom f 0 s.scan.channels) (hf : ∀ i ch, (f i ch).latest = ch.latest) :
    latestAverages t = latestAverages s := by
  rw [latestAverages, hc, latestAverages]
  clear hc
  generalize 0 = k
  generalize s.scan.channels = l
  induction l generalizing k with
  | nil => rfl
  | cons ch r ih => simp [mapFrom, hf, ih]

/-- The commands that wait and the settings of the line unit, which no command but a start and READING_END changes. -/
def SameLine (s t : State) : Prop :=
  t.pending = s.pending ∧ t.line.bitRate = s.line.bitRate ∧ t.line.statusPeriod = s.line.statusPeriod ∧
    t.line.loadGroup = s.line.loadGroup

theorem SameLine.trans {s t u : State} (h : SameLine s t) (k : SameLine t u) : SameLine s u := by
  obtain ⟨h1, h2, h3, h4⟩ := h
  obtain ⟨k1, k2, k3, k4⟩ := k
  exact ⟨k1.trans h1, k2.trans h2, k3.trans h3, k4.trans h4⟩

/-- `t` keeps what `s` has, but what the exemptions name. -/
structure Kept (x : Exempt) (s t : State) : Prop where
  loader : t.loader = s.loader := by rfl
  cfg : t.cfg = s.cfg := by rfl
  level : LevelBounded s → LevelBounded t := by exact fun h => h
  drive : DriveBounded s → DriveBounded t := by exact fun h => h
  lines : ¬ x.lines → LinesOfTable s → LinesOfTable t := by exact fun _ h => h
  estop : ¬ x.estop → EstopHeld s → EstopHeld t := by exact fun _ h => h
  run : ¬ x.run → RunNeedsLive s → RunNeedsLive t := by exact fun _ h => h
  latched : ¬ x.latched → LatchHolds s → LatchHolds t := by exact fun _ h => h
  dwell : DwellTimers s → DwellTimers t := by exact fun h => h
  settle : ¬ x.settle → SettleInDwell s → SettleInDwell t := by exact fun _ h => h
  alarms : AlarmListOk s → AlarmListOk t := by exact fun h => h
  queues : QueuesBounded s → QueuesBounded t := by exact fun h => h
  command : ¬ x.ends → t.cmd.current = s.cmd.current ∧ t.cmd.queue = s.cmd.queue := by exact fun _ => ⟨rfl, rfl⟩
  idle : IdleCommands s → IdleCommands t := by exact fun h => h
  take : ¬ x.take → TakeMatches s → TakeMatches t := by exact fun _ h => h
  shunt : ¬ x.shunt → ShuntGuarded s → ShuntGuarded t := by exact fun _ h => h
  pool : PoolCanonical s → PoolCanonical t := by exact fun h => h
  memory : MemoryWhole s → MemoryWhole t := by exact fun h => h
  records : ¬ x.frees → MemoryWhole s → RecordsStay s t := by exact fun _ _ _ h => ⟨h, rfl, fun _ _ => rfl⟩
  crack : ¬ x.reads → CrackKept s → CrackKept t := by exact fun _ h => h
  entries : EntriesStay s t := by exact fun _ _ _ h => h
  latch : ¬ x.lowers → latchCode s.alarm.latch ≤ latchCode t.alarm.latch := by exact fun _ => Nat.le_refl _
  line : SameLine s t := by exact ⟨rfl, rfl, rfl, rfl⟩
  table : ¬ x.table → t.seq.table = s.seq.table ∧ t.seq.digest = s.seq.digest := by exact fun _ => ⟨rfl, rfl⟩
  tick : ¬ x.tick → SameTick s t := by exact fun _ => ⟨rfl, rfl, rfl, rfl, rfl, rfl, rfl, rfl⟩
  integral : ¬ x.integral → t.servo.integral = s.servo.integral := by exact fun _ => rfl
  loadZero : ¬ x.loadZero → t.servo.loadZero = s.servo.loadZero := by exact fun _ => rfl
  peers : ¬ x.peers → t.peers.records = s.peers.records ∧ t.peers.memberAbsent = s.peers.memberAbsent := by
    exact fun _ => ⟨rfl, rfl⟩
  filled : ¬ x.entries → t.crack.entries = s.crack.entries := by exact fun _ => rfl
  loops : ¬ x.loops → t.crack.loops = s.crack.loops := by exact fun _ => rfl
  inputs : ¬ x.inputs → t.crack.inputs = s.crack.inputs := by exact fun _ => rfl
  averages : ¬ x.averages → latestAverages t = latestAverages s := by exact fun _ => rfl
  pressOk : ¬ x.pressOk → t.pins.pressOk = s.pins.pressOk := by exact fun _ => rfl
  lockEngaged : ¬ x.lockEngaged → t.pins.lockEngaged = s.pins.lockEngaged := by exact fun _ => rfl
  estopPin : ¬ x.estopPin → t.pins.estop = s.pins.estop := by exact fun _ => rfl
  age : s.age ≤ t.age := by exact Nat.le_refl _
  timeTag : ¬ x.timeTag → t.age = s.age → t.cmd.timeTag = s.cmd.timeTag := by exact fun _ _ => rfl

namespace Kept

variable {x : Exempt} {s t u : State}

theorem refl : Kept x s s := {}

theorem trans (h : Kept x s t) (k : Kept x t u) : Kept x s u where
  loader := k.loader.trans h.loader
  cfg := k.cfg.trans h.cfg
  level := k.level ∘ h.level
  drive := k.drive ∘ h.drive
  lines hx := k.lines hx ∘ h.lines hx
  estop hx := k.estop hx ∘ h.estop hx
  run hx := k.run hx ∘ h.run hx
  latched hx := k.latched hx ∘ h.latched hx
  dwell := k.dwell ∘ h.dwell
  settle hx := k.settle hx ∘ h.settle hx
  alarms := k.alarms ∘ h.alarms
  queues := k.queues ∘ h.queues
  command hx := ⟨(k.command hx).1.trans (h.command hx).1, (k.command hx).2.trans (h.command hx).2⟩
  idle := k.idle ∘ h.idle
  take hx := k.take hx ∘ h.take hx
  shunt hx := k.shunt hx ∘ h.shunt hx
  pool := k.pool ∘ h.pool
  memory := k.memory ∘ h.memory
  records hx hm n hn :=
    have ⟨hs, hp, hb⟩ := h.records hx hm n hn
    have ⟨ks, kp, kb⟩ := k.records hx (h.memory hm) n hs
    ⟨ks, kp.trans hp, fun a ha => (kb a (hp ▸ ha)).trans (hb a ha)⟩
  crack hx := k.crack hx ∘ h.crack hx
  entries l hl e he := k.entries l hl e (h.entries l hl e he)
  latch hx := (h.latch hx).trans (k.latch hx)
  line := h.line.trans k.line
  table hx := ⟨(k.table hx).1.trans (h.table hx).1, (k.table hx).2.trans (h.table hx).2⟩
  tick hx := (h.tick hx).trans (k.tick hx)
  integral hx := (k.integral hx).trans (h.integral hx)
  loadZero hx := (k.loadZero hx).trans (h.loadZero hx)
  peers hx := ⟨(k.peers hx).1.trans (h.peers hx).1, (k.peers hx).2.trans (h.peers hx).2⟩
  filled hx := (k.filled hx).trans (h.filled hx)
  loops hx := (k.loops hx).trans (h.loops hx)
  inputs hx := (k.inputs hx).trans (h.inputs hx)
  averages hx := (k.averages hx).trans (h.averages hx)
  pressOk hx := (k.pressOk hx).trans (h.pressOk hx)
  lockEngaged hx := (k.lockEngaged hx).trans (h.lockEngaged hx)
  estopPin hx := (k.estopPin hx).trans (h.estopPin hx)
  age := h.age.trans k.age
  timeTag hx hage :=
    have hst : t.age = s.age := Nat.le_antisymm (hage ▸ k.age) h.age
    (k.timeTag hx (hage.trans hst.symm)).trans (h.timeTag hx hst)

theorem ite {c : Prop} [Decidable c] (h : c → Kept x s t) (k : ¬ c → Kept x s u) : Kept x s (if c then t else u) := by
  split
  · exact h ‹_›
  · exact k ‹_›

/-! ### An invariant broken on the way and restored at the end -/

theorem restoreLines (h : Kept { x with lines := True } s t) (k : LinesOfTable s → LinesOfTable t) : Kept x s t :=
  { h with lines := fun _ => k }

theorem restoreEstop (h : Kept { x with estop := True } s t) (k : EstopHeld s → EstopHeld t) : Kept x s t :=
  { h with estop := fun _ => k }

theorem restoreRun (h : Kept { x with run := True } s t) (k : RunNeedsLive s → RunNeedsLive t) : Kept x s t :=
  { h with run := fun _ => k }

theorem restoreLatched (h : Kept { x with latched := True } s t) (k : LatchHolds s → LatchHolds t) : Kept x s t :=
  { h with latched := fun _ => k }

theorem restoreSettle (h : Kept { x with settle := True } s t) (k : SettleInDwell s → SettleInDwell t) : Kept x s t :=
  { h with settle := fun _ => k }

theorem restoreTake (h : Kept { x with take := True } s t) (k : TakeMatches s → TakeMatches t) : Kept x s t :=
  { h with take := fun _ => k }

theorem restoreShunt (h : Kept { x with shunt := True } s t) (k : ShuntGuarded s → ShuntGuarded t) : Kept x s t :=
  { h with shunt := fun _ => k }

theorem restoreCrack (h : Kept { x with reads := True } s t) (k : CrackKept s → CrackKept t) : Kept x s t :=
  { h with crack := fun _ => k }

/-- What is kept with nothing that ends a command is kept where that is allowed. -/
theorem allowEnds (h : Kept { x with ends := False } s t) : Kept x s t :=
  { h with command := fun _ => h.command (fun hf => hf) }

end Kept

end Sys2Proof.Machine

/-! The record memory under the operations on its pages, blocks and queues (chapter 9): which keep the pages and blocks in
agreement, and that none writes on a page of a block that holds its record. -/
namespace Sys2Proof.Machine

open Sys2Proof

-- One proof after the other: the threads of the check, which compiles the whole text at once, share one memory limit.
set_option Elab.async false

/-! ### The pool: a write elsewhere is not read (R147) -/

theorem poolRead_poolWrite_ne {m : List Host.Cell} {a x : Nat} (v : Byte) (h : x ≠ a) :
    poolRead (poolWrite m a v) x = poolRead m x := by
  induction m with
  | nil => simp only [poolWrite]; split <;> simp [poolRead, h]
  | cons c r ih =>
    obtain ⟨k, b⟩ := c
    simp only [poolWrite]
    split
    · split <;> simp [poolRead, h]
    · split
      · rename_i hak
        split <;> simp [poolRead, ← hak, h]
      · simp [poolRead, ih]

/-- A block address lies on one of the block's pages. -/
theorem blockAddress_page {pages : List Nat} {b a : Nat} (h : blockAddress pages b = some a) : a / 256 ∈ pages := by
  unfold blockAddress at h
  obtain ⟨p, hp, rfl⟩ := Option.map_eq_some_iff.mp h
  rw [show (256 * p + b % 256) / 256 = p by omega]
  exact List.mem_of_getElem? hp

/-- A block write is read on the block's pages only. -/
theorem poolRead_blockWrite {pages : List Nat} {x : Nat} (offset : Nat) (bytes : List Byte) (m : List Host.Cell)
    (h : x / 256 ∉ pages) : poolRead (blockWrite pages offset bytes m) x = poolRead m x := by
  induction bytes generalizing offset m with
  | nil => rfl
  | cons v r ih =>
    rw [blockWrite, ih]
    split
    · rename_i a ha
      split
      · exact poolRead_poolWrite_ne v fun hx => h (hx ▸ blockAddress_page ha)
      · rfl
    · rfl

/-- Clearing pages is read on those pages only. -/
theorem poolRead_clearPages {x : Nat} (pages : List Nat) (m : List Host.Cell) (h : x / 256 ∉ pages) :
    poolRead (pages.foldl poolClearPage m) x = poolRead m x := by
  induction pages generalizing m with
  | nil => rfl
  | cons p r ih =>
    rw [List.mem_cons, not_or] at h
    rw [List.foldl_cons, ih _ h.2, poolRead_poolClearPage, if_neg h.1]

/-- A block reads the same from two pools that agree on its pages. -/
theorem blockRead_congr {pages : List Nat} {m m' : List Host.Cell} (offset n : Nat)
    (h : ∀ a, a / 256 ∈ pages → poolRead m' a = poolRead m a) :
    blockRead pages offset n m' = blockRead pages offset n m := by
  induction n generalizing offset with
  | zero => rfl
  | succ n ih =>
    rw [blockRead, blockRead, ih]
    congr 1
    split
    · exact h _ (blockAddress_page ‹_›)
    · rfl

/-! ### The block table -/

/-- The entry is FILLING. -/
def entryFilling (e : BlockEntry) : Bool :=
  decide (e.state = .filling)

theorem flatMap_pages_modifyAt {f : BlockEntry → BlockEntry} (n : Nat) (table : List BlockEntry)
    (hf : ∀ e, (f e).pages = e.pages) :
    (modifyAt f n table).flatMap (fun e => e.pages) = table.flatMap (fun e => e.pages) := by
  induction table generalizing n with
  | nil => simp [modifyAt]
  | cons e r ih => cases n <;> simp [modifyAt, hf, ih]

theorem countP_modifyAt_le {α : Type} {p : α → Bool} {f : α → α} (n : Nat) (l : List α)
    (hf : ∀ e, p (f e) = true → p e = true) : (modifyAt f n l).countP p ≤ l.countP p := by
  induction l generalizing n with
  | nil => simp [modifyAt]
  | cons e r ih =>
    cases n with
    | zero =>
      simp only [modifyAt, List.countP_cons]
      by_cases hp : p (f e) = true
      · simp [hp, hf e hp]
      · simp [hp]
    | succ n => simpa [modifyAt, List.countP_cons] using ih n

theorem countP_modifyAt_le_succ {α : Type} {p : α → Bool} {f : α → α} (n : Nat) (l : List α) :
    (modifyAt f n l).countP p ≤ l.countP p + 1 := by
  induction l generalizing n with
  | nil => simp [modifyAt]
  | cons e r ih =>
    cases n with
    | zero => simp only [modifyAt, List.countP_cons]; split <;> split <;> omega
    | succ n =>
      have hr := ih n
      simp only [modifyAt, List.countP_cons]
      omega

/-- The block table entries after one of them is changed. -/
theorem blockAt_of_modifyAt {s t : State} {f : BlockEntry → BlockEntry} {n : Nat}
    (h : t.recs.table = modifyAt f n s.recs.table) (m : Nat) :
    blockAt m t = if n = m ∧ m < s.recs.table.length then f (blockAt m s) else blockAt m s := by
  rw [blockAt, h, modifyAt_getD]; rfl

/-- An entry past the table reads FREE, so one that does not stands in it. -/
theorem lt_of_blockAt_ne_free {n : Nat} {s : State} (h : (blockAt n s).state ≠ .free) : n < s.recs.table.length := by
  refine Nat.lt_of_not_le fun hle => h ?_
  rw [blockAt, List.getD_eq_getElem?_getD, List.getElem?_eq_none hle]
  rfl

theorem blockAt_mem {n : Nat} {s : State} (h : n < s.recs.table.length) : blockAt n s ∈ s.recs.table := by
  rw [blockAt, List.getD_eq_getElem?_getD, List.getElem?_eq_getElem h]
  exact List.getElem_mem h

theorem holdsRecord_ne_free {n : Nat} {s : State} (h : HoldsRecord n s) : (blockAt n s).state ≠ .free := by
  rcases h with h | h | h <;> simp [h]

theorem holdsRecord_ne_filling {n : Nat} {s : State} (h : HoldsRecord n s) : (blockAt n s).state ≠ .filling := by
  rcases h with h | h | h <;> simp [h]

theorem fillingBlock_state {n : Nat} {s : State} (h : fillingBlock s = some n) : (blockAt n s).state = .filling := by
  obtain ⟨hn, hp, -⟩ := List.findIdx?_eq_some_iff_getElem.mp h
  rw [blockAt, List.getD_eq_getElem?_getD, List.getElem?_eq_getElem hn]
  simpa using hp

theorem freeBlock_state {n : Nat} {s : State} (h : freeBlock s = some n) :
    n < s.recs.table.length ∧ (blockAt n s).state = .free := by
  obtain ⟨hn, hp, -⟩ := List.findIdx?_eq_some_iff_getElem.mp h
  refine ⟨hn, ?_⟩
  rw [blockAt, List.getD_eq_getElem?_getD, List.getElem?_eq_getElem hn]
  simpa using hp

/-- No page stands in two blocks (R147). -/
theorem pages_disjoint {m n p : Nat} {s : State} (h : (heldPages s).Nodup) (hmn : m ≠ n)
    (hm : m < s.recs.table.length) (hp : p ∈ (blockAt m s).pages) : p ∉ (blockAt n s).pages := by
  intro hq
  by_cases hn : n < s.recs.table.length
  · have hdisj := List.pairwise_iff_getElem.mp (List.nodup_flatMap.mp h).2
    simp only [blockAt, List.getD_eq_getElem?_getD, List.getElem?_eq_getElem hm, List.getElem?_eq_getElem hn,
      Option.getD_some] at hp hq
    rcases Nat.lt_or_gt_of_ne hmn with hlt | hlt
    · exact hdisj m n hm hn hlt hp hq
    · exact hdisj n m hn hm hlt hq hp
  · simp [blockAt, List.getD_eq_getElem?_getD, List.getElem?_eq_none (Nat.le_of_not_lt hn), BlockEntry.freeEntry] at hq

/-! ### A block takes another state -/

section
variable {s t : State} {f : BlockEntry → BlockEntry} {n : Nat}

/-- A block takes another state on its pages, and the sealed queue and the sending follow it. -/
theorem memoryWhole_of_restate (h : MemoryWhole s) (htable : t.recs.table = modifyAt f n s.recs.table)
    (hpages : ∀ e, (f e).pages = e.pages) (hfilling : ∀ e, (f e).state = .filling → e.state = .filling)
    (hold : (blockAt n s).state ≠ .free) (hnew : (f (blockAt n s)).state ≠ .free)
    (hrest : t.recs.freePages = s.recs.freePages ∧ t.cfg = s.cfg ∧ t.loader = s.loader)
    (hnodup : t.recs.sealedQ.Nodup)
    (hsealed : ∀ m, m ∈ t.recs.sealedQ ↔ if n = m then (f (blockAt n s)).state = .sealed else m ∈ s.recs.sealedQ)
    (hsending : ∀ m, t.recs.sending.map (fun d => d.block) = some m ↔
      if n = m then (f (blockAt n s)).state = .sending else s.recs.sending.map (fun d => d.block) = some m) :
    MemoryWhole t := by
  obtain ⟨⟨hlen, hsize, hheld, hbound, hsum, hcount, hphase⟩, -, hseal, hlt, hsend, hslt, -, -⟩ := h
  obtain ⟨hfree, hcfg, hloader⟩ := hrest
  have hn := lt_of_blockAt_ne_free hold
  have hrun : s.loader.phase = .running := Classical.not_not.mp fun hp => hold (hphase hp _ (blockAt_mem hn))
  have hpagesOf : heldPages t = heldPages s := by rw [heldPages, htable, flatMap_pages_modifyAt n _ hpages]; rfl
  have hat : ∀ m, m < 64 → blockAt m t = if n = m then f (blockAt n s) else blockAt m s := by
    intro m hm
    rw [blockAt_of_modifyAt htable, hlen]
    by_cases hnm : n = m <;> simp [hnm, hm]
  have hlength : t.recs.table.length = 64 := by rw [htable, modifyAt_length, hlen]
  have hfillings : t.recs.table.countP (fun e => decide (e.state = .filling)) ≤ 1 := by
    rw [htable]
    refine Nat.le_trans (countP_modifyAt_le n _ fun e he => ?_) hcount
    simpa using hfilling e (by simpa using he)
  refine ⟨⟨hlength, fun e he => ?_, hpagesOf ▸ hheld, hpagesOf ▸ hbound, by rw [hpagesOf, hfree, hsum], hfillings,
    fun hp => absurd (hloader ▸ hrun) hp⟩, hnodup, fun m hm => ?_, fun m hm => ?_, fun m hm => ?_, fun d hd => ?_, hlength,
    hfillings⟩
  · obtain ⟨m, hm, rfl⟩ := List.mem_iff_getElem.mp he
    have hm64 : m < 64 := hlength ▸ hm
    have heq : t.recs.table[m] = blockAt m t := by
      rw [blockAt, List.getD_eq_getElem?_getD, List.getElem?_eq_getElem hm]; rfl
    rw [heq, hat m hm64, hcfg]
    by_cases hnm : n = m
    · rw [if_pos hnm, if_neg hnew, hpages, hsize _ (blockAt_mem hn), if_neg hold]
    · rw [if_neg hnm]; exact hsize _ (blockAt_mem (hlen ▸ hm64))
  · rw [hsealed, hat m hm]
    by_cases hnm : n = m
    · simp [hnm]
    · simp [hnm, hseal m hm]
  · rw [hsealed] at hm
    by_cases hnm : n = m
    · exact hnm ▸ hlen ▸ hn
    · rw [if_neg hnm] at hm; exact hlt m hm
  · rw [hsending, hat m hm]
    by_cases hnm : n = m
    · simp [hnm]
    · simpa [hnm] using hsend m hm
  · have hd' := (hsending d.block).mp (by rw [Option.mem_def.mp hd]; rfl)
    by_cases hnm : n = d.block
    · exact hnm ▸ hlen ▸ hn
    · rw [if_neg hnm, Option.map_eq_some_iff] at hd'
      obtain ⟨c, hc, hcd⟩ := hd'
      exact hcd ▸ hslt c hc

/-- Blocks keep their records where one block goes from one of their states to another. -/
theorem recordsStay_of_restate (htable : t.recs.table = modifyAt f n s.recs.table)
    (hpages : ∀ e, (f e).pages = e.pages)
    (hstate : HoldsRecord n s → (f (blockAt n s)).state = .sealed ∨ (f (blockAt n s)).state = .sending ∨
      (f (blockAt n s)).state = .sent)
    (hpool : ∀ m, HoldsRecord m s → ∀ a, a / 256 ∈ (blockAt m s).pages →
      poolRead t.recs.pool a = poolRead s.recs.pool a) : RecordsStay s t := by
  intro m hm
  have hat := blockAt_of_modifyAt htable m
  refine ⟨?_, ?_, hpool m hm⟩
  · unfold HoldsRecord
    rw [hat]
    by_cases hnm : n = m ∧ m < s.recs.table.length
    · rw [if_pos hnm]; obtain ⟨rfl, -⟩ := hnm; exact hstate hm
    · rw [if_neg hnm]; exact hm
  · rw [hat]; split
    · exact hpages _
    · rfl

/-- What is written on the pages of a FILLING block is not read on those of a block that holds its record. -/
theorem holdsRecord_pages_of_filling {m a : Nat} (h : MemoryWhole s) (hn : (blockAt n s).state = .filling)
    (hm : HoldsRecord m s) (ha : a / 256 ∈ (blockAt m s).pages) : a / 256 ∉ (blockAt n s).pages := by
  obtain ⟨⟨-, -, hnodup, -⟩, -⟩ := h
  exact pages_disjoint hnodup (fun hmn => holdsRecord_ne_filling hm (by rw [hmn]; exact hn))
    (lt_of_blockAt_ne_free (holdsRecord_ne_free hm)) ha

end

end Sys2Proof.Machine

/-! What the shared operations on telegrams, queued commands and the record memory keep. -/
namespace Sys2Proof.Machine

open Sys2Proof

-- One proof after the other: the threads of the check, which compiles the whole text at once, share one memory limit.
set_option Elab.async false

section
variable {x : Exempt} {s : State}

/-! ### Telegrams, replies and events -/

theorem setEvent_kept (e : Event) : Kept x s (setEvent e s) := {}

theorem placeReply_kept {r : Reply} (h : s.line.replyQ.length < 4) : Kept x s (placeReply r s) where
  queues := fun ⟨ha, _, hd, hc, hf, hq, hi⟩ =>
    ⟨ha, by simpa [placeReply, Config.replyQueueSize] using h, hd, hc, hf, hq, hi⟩

theorem placeLateReply_kept (r : Reply) : Kept x s (placeLateReply r s) := by
  unfold placeLateReply
  split
  · exact placeReply_kept ‹_›
  · exact {}

theorem placeAlarm_kept (t : AlarmTelegram) : Kept x s (placeAlarm t s) := by
  unfold placeAlarm
  split
  · rename_i h
    exact {
      queues := fun ⟨_, hr, hd, hc, hf, hq, hi⟩ =>
        ⟨by simp only [Config.alarmQueueSize, List.length_append, List.length_singleton] at h ⊢; omega,
          hr, hd, hc, hf, hq, hi⟩ }
  · exact .refl

/-! ### Ends of queued commands (R165) -/

/-- The end of the command in progress, which is not that of a shunt that runs. -/
theorem endCommand_kept {result : ReplyResult} {reason : Reason} (hx : x.ends)
    (h : ¬ x.shunt → s.scan.shunt = .none ∨ s.cmd.current.map (fun q => q.kind) ≠ some .shunt) :
    Kept x s (endCommand result reason s) := by
  cases hc : s.cmd.current with
  | none => rw [endCommand_of_none hc]; exact .refl
  | some q =>
    rw [endCommand_of_some hc]
    refine ((placeLateReply_kept _).trans (setEvent_kept _)).trans {
      command := fun hn => absurd hx hn
      idle := fun hi hp => ⟨rfl, (hi hp).2⟩
      shunt := fun hn ⟨hactive, hcurrent, hrest⟩ => ⟨hactive, fun hs => ?_, hrest⟩ }
    have hs' : s.scan.shunt ≠ .none := by simpa using hs
    have hkind := hcurrent hs
    simp only [setEvent_frame, placeLateReply_frame] at hkind
    exact absurd hkind ((h hn).resolve_left hs')

theorem endActuatorCommand_kept {result : ReplyResult} {reason : Reason} (hx : x.ends) :
    Kept x s (endActuatorCommand result reason s) := by
  unfold endActuatorCommand
  split
  · exact .refl
  · rename_i q hq
    split
    · rename_i hown
      refine endCommand_kept hx fun _ => .inr ?_
      rw [hq]
      intro he
      have hkind : q.kind = .shunt := Option.some.inj he
      exact absurd hown (by rw [hkind]; decide)
    · exact .refl

theorem endCommandOf_kept {kind : QueuedKind} {result : ReplyResult} {reason : Reason} (hx : x.ends)
    (h : ¬ x.shunt → s.scan.shunt = .none ∨ kind ≠ .shunt) : Kept x s (endCommandOf kind result reason s) := by
  unfold endCommandOf
  split
  · exact .refl
  · rename_i q hq
    split
    · rename_i hk
      refine endCommand_kept hx fun hn => (h hn).imp_right fun hkind => ?_
      rw [hq, Option.map_some, hk]
      exact fun he => hkind (Option.some.inj he)
    · exact .refl

/-! ### Sending blocks (R158, R159) -/

theorem placeParts_kept : Kept x s (placeParts s) := by
  unfold placeParts
  split
  · exact .refl
  · rename_i d hd
    exact {
      queues := fun ⟨ha, hr, hdq, hc, hf, hq, hi⟩ =>
        ⟨ha, hr, by simp only [List.length_append, List.length_map, List.length_range] at hdq ⊢; omega, hc, hf, hq, hi⟩
      memory := fun ⟨hpages, hnodup, hseal, hlt, hsend, hslt, hrest⟩ =>
        ⟨hpages, hnodup, hseal, hlt, fun n hn => (by rw [hd]; rfl : _ ↔ _).trans (hsend n hn),
          fun c hc => by cases hc; exact hslt d hd, hrest⟩ }

/-- The choice of a block to send, before its first parts are placed. -/
theorem chooseBlock_kept {block console : Nat} (hidle : s.recs.sending = none) (hblock : MemoryWhole s → HoldsRecord block s) :
    Kept x s { s with
      recs.sealedQ := s.recs.sealedQ.filter (fun n => n != block)
      recs.table := modifyAt (fun e => { e with state := .sending }) block s.recs.table
      recs.sending := some { block := block, console := console, next := 0 } } where
  memory h := by
    have hnodup := h.2.1
    refine memoryWhole_of_restate (n := block) h rfl (fun _ => rfl) (fun _ he => by cases he)
      (holdsRecord_ne_free (hblock h)) (by simp) ⟨rfl, rfl, rfl⟩ (hnodup.filter _) (fun m => ?_) (fun m => ?_)
    · by_cases hm : block = m
      · simp [hm]
      · simp [hm, Ne.symm hm]
    · by_cases hm : block = m <;> simp [hm, hidle]
  records _ h :=
    recordsStay_of_restate (n := block) rfl (fun _ => rfl) (fun _ => .inr (.inl rfl)) (fun _ _ _ _ => rfl)

theorem startSending_kept {block console : Nat} (hidle : s.recs.sending = none) (hblock : MemoryWhole s → HoldsRecord block s) :
    Kept x s (startSending block console s) :=
  (chooseBlock_kept hidle hblock).trans placeParts_kept

theorem serveFetch_kept : Kept x s (serveFetch s) := by
  unfold serveFetch
  split
  · rename_i b queue r rest hidle hsealed hfetch
    have hdrop : Kept x s { s with recs.fetchQ := rest } := {
      queues := fun ⟨ha, hr, hd, hc, hf, hrest⟩ =>
        ⟨ha, hr, hd, hc, by rw [hfetch, List.length_cons] at hf; exact Nat.le_of_succ_le hf, hrest⟩ }
    refine (hdrop.trans (placeLateReply_kept _)).trans (startSending_kept (by simpa using hidle) fun h => .inl ?_)
    obtain ⟨-, -, hseal, hlt, -⟩ := h
    have hmem : b ∈ s.recs.sealedQ := by simp [hsealed]
    simp only [placeLateReply_frame] at hseal hlt
    exact (hseal b (hlt b hmem)).mp hmem
  · exact .refl

/-! ### Seals, captures and pressure (R151 to R156) -/

/-- The state of a FILLING block at its seal, before BLOCK_SEALED is set and a request is served. -/
theorem sealing_kept {n : Nat} {pool : List Host.Cell} (hn : (blockAt n s).state = .filling)
    (hwf : PoolCanonical s → Memory.wf pool = true)
    (hread : ∀ a, a / 256 ∉ (blockAt n s).pages → poolRead pool a = poolRead s.recs.pool a) :
    Kept x s { s with
      recs.pool := pool
      recs.table := modifyAt (fun e => { e with state := .sealed }) n s.recs.table
      recs.sealedQ := s.recs.sealedQ ++ [n] } where
  pool := hwf
  memory h := by
    have hwhole := h
    obtain ⟨⟨hlen, -⟩, hnodup, hseal, hlt, hsend, -⟩ := h
    have hn64 : n < 64 := hlen ▸ lt_of_blockAt_ne_free (by simp [hn])
    have hnew : n ∉ s.recs.sealedQ := fun hmem => by simpa [hn] using (hseal n hn64).mp hmem
    refine memoryWhole_of_restate (n := n) hwhole rfl (fun _ => rfl) (fun _ he => by cases he) (by simp [hn]) (by simp)
      ⟨rfl, rfl, rfl⟩ (List.nodup_append.mpr ⟨hnodup, by simp, by simpa using fun a ha (h : a = n) => hnew (h ▸ ha)⟩)
      (fun m => ?_) (fun m => ?_)
    · by_cases hm : n = m
      · simp [hm]
      · simp [hm, Ne.symm hm]
    · by_cases hm : n = m
      · subst hm
        have hidle := (hsend n hn64).not.mpr (by simp [hn])
        simpa using hidle
      · simp [hm]
  records _ h :=
    recordsStay_of_restate (n := n) rfl (fun _ => rfl) (fun hr => absurd hn (holdsRecord_ne_filling hr))
      fun _ hm a ha => hread a (holdsRecord_pages_of_filling h hn hm ha)

theorem sealBlock_kept (cause : SealCause) (kind : Option AlarmKind) : Kept x s (sealBlock cause kind s) := by
  unfold sealBlock
  split
  · exact .refl
  · rename_i n hn
    refine ((sealing_kept (fillingBlock_state hn) (fun h => ?_) fun a ha => ?_).trans (setEvent_kept _)).trans
      serveFetch_kept
    · exact blockWrite_wf _ _ _ (blockWrite_wf _ _ _ (blockWrite_wf _ _ _ (blockWrite_wf _ _ _ h)))
    · simp only [poolRead_blockWrite _ _ _ ha]

theorem judgePressure_kept : Kept x s (judgePressure s) := {}

theorem cutAndCapture_kept (kind : AlarmKind) : Kept x s (cutAndCapture kind s) := by
  unfold cutAndCapture
  refine (sealBlock_kept .alarm (some kind)).trans ?_
  dsimp only
  split
  · exact {}
  · exact .refl

end

end Sys2Proof.Machine

/-! What the responses to a latch keep: the sequencer's, the actuator unit's trip, the end of a shunt, and the raise of an
alarm with everything that follows from it. -/
namespace Sys2Proof.Machine

open Sys2Proof

-- One proof after the other: the threads of the check, which compiles the whole text at once, share one memory limit.
set_option Elab.async false

section
variable {x : Exempt} {s : State}

/-! ### Changes of the sequencer's state (chapter 3) -/

theorem setSequencer_kept {q : Sequencer} (h : Kept x s { s with seq := q }) : Kept x s (setSequencer q s) := by
  unfold setSequencer
  split
  · exact h
  · exact h.trans (sealBlock_kept .phase none)

theorem settleInDwell_dwellLeft : SettleInDwell (dwellLeft s) :=
  fun h => by simp at h

theorem dwellLeft_kept : Kept x s (dwellLeft s) where
  averages := fun _ => latestAverages_of_mapFrom rfl fun _ _ => rfl
  settle := fun _ _ => settleInDwell_dwellLeft

/-- A change of the sequencer's state with the notice that DWELL has been left, if it was on (R104). -/
theorem leaveDwellIf_setSequencer_kept {q : Sequencer} (h : Kept { x with settle := True } s { s with seq := q }) :
    Kept x s (leaveDwellIf (inDwell s) (setSequencer q s)) := by
  unfold leaveDwellIf
  split
  · exact ((setSequencer_kept h).trans dwellLeft_kept).restoreSettle fun _ => settleInDwell_dwellLeft
  · rename_i hdwell
    refine (setSequencer_kept h).restoreSettle fun hs hr => ?_
    simp only [setSequencer_frame] at hr
    exact absurd (hs hr) hdwell

theorem timerRuns_pauseTimer (now : Nat) (t : HoldTimer) : timerRuns (pauseTimer now t) = false := by
  cases t <;> rfl

theorem enterHeld_kept : Kept x s (enterHeld s) :=
  leaveDwellIf_setSequencer_kept {
    run := fun _ _ h => by simp at h
    latched := fun _ _ _ h => by cases h
    dwell := fun _ => ⟨fun h => by simp [timerRuns_pauseTimer] at h, fun h => by simp at h⟩
    settle := fun hx => absurd trivial hx }

/-- UNLOADING is entered in LIVE only (R47, R50). -/
theorem enterUnloading_kept (hlive : s.act.state = .live) : Kept x s (enterUnloading s) :=
  leaveDwellIf_setSequencer_kept {
    run := fun _ _ _ => hlive
    latched := fun _ _ _ h => by cases h
    dwell := fun _ => ⟨fun h => by simp [timerRuns] at h, fun h => by simp at h⟩
    settle := fun hx => absurd trivial hx }

theorem tripIdle_kept : Kept x s (tripIdle s) := by
  have hidle : Kept x s (leaveDwellIf (inDwell s) (setSequencer
      { s.seq with
        state := .idle
        phase := none
        step := 0
        segment := 0
        work := none
        counters := List.replicate 32 0
        hold := .stopped
        extension := .stopped
        extensionUsed := false
        mismatch := none
        choice := none } s)) :=
    leaveDwellIf_setSequencer_kept {
      level := fun ⟨hlam, _, htable⟩ => ⟨hlam, fun w hw => by simp at hw, htable⟩
      run := fun _ _ h => by simp at h
      latched := fun _ _ _ h => by cases h
      dwell := fun _ => ⟨fun h => by simp [timerRuns] at h, fun h => by simp at h⟩
      settle := fun hx => absurd trivial hx }
  exact hidle.trans {}

theorem sequencerOnLatch_kept (new : Latch) : Kept x s (sequencerOnLatch new s) := by
  unfold sequencerOnLatch
  split <;> dsimp only
  · split
    · rename_i h
      exact enterUnloading_kept (of_decide_eq_true (Bool.and_eq_true _ _ ▸ h).2)
    · split
      · exact enterHeld_kept
      · exact .refl
  · split
    · rename_i h
      exact enterUnloading_kept (of_decide_eq_true (Bool.and_eq_true _ _ ▸ h).2)
    · exact .refl
  · split
    · rename_i h
      exact enterUnloading_kept (of_decide_eq_true (Bool.and_eq_true _ _ ▸ h).2)
    · exact .refl
  · exact .refl

theorem sequencerOnActuator_kept (wasLive : Bool) : Kept x s (sequencerOnActuator wasLive s) := by
  unfold sequencerOnActuator
  split
  · split
    · exact enterUnloading_kept ‹_›
    · exact .refl
  · split
    · exact enterHeld_kept
    · exact .refl

/-! ### Actuator states and the trip (chapter 5) -/

/-- The entry into an actuator state: under an active ESTOP it is TRIPPED or LOCKED, and its lines are those of the table. -/
theorem setActuator_kept {st : ActState} {iso dump lockCmd : Bool}
    (hestop : ¬ x.estop → EstopHeld s → s.loader.phase ≠ .held → s.pins.estop = true → st = .tripped ∨ st = .locked)
    (hlines : ¬ x.lines → LinesOfTable s → LinesOfTable (setActuator st iso dump lockCmd s)) :
    Kept { x with run := True } s (setActuator st iso dump lockCmd s) where
  drive := fun ⟨hintegral, hdrive, hpin, _⟩ => by
    refine ⟨hintegral, hdrive, ?_, fun h => ?_⟩
    · rw [setActuator_drive_output]
      split
      · exact hpin
      · decide
    · rw [setActuator_drive_output, if_neg (by simpa using h)]
  lines := hlines
  estop := hestop
  run hx := absurd trivial hx

theorem tripIdle_state (s : State) : (tripIdle s).seq.state = .idle := by simp

theorem enterTripped_kept {reason : Reason} (hx : x.ends) : Kept x s (enterTripped reason s) := by
  have hset : Kept { x with run := True } s (setActuator .tripped false true false s) :=
    setActuator_kept (fun _ _ _ _ => .inl rfl) fun _ _ => rfl
  have htrip : Kept { x with run := True } s (enterTripped reason s) :=
    ((hset.trans {}).trans ((endActuatorCommand_kept (x := { x with run := True }) hx).trans
      (setEvent_kept .trip))).trans tripIdle_kept
  refine htrip.restoreRun fun _ h => ?_
  simp at h

theorem actuatorOnLatch_kept {new : Latch} (hx : new = .dump → x.ends) : Kept x s (actuatorOnLatch new s) := by
  unfold actuatorOnLatch
  split
  · rename_i h
    exact enterTripped_kept (hx h.1)
  · exact .refl

end

end Sys2Proof.Machine

/-! What the end of a shunt by a latch and the raise of an alarm keep (R115, R131 to R140). -/
namespace Sys2Proof.Machine

open Sys2Proof

-- One proof after the other: the threads of the check, which compiles the whole text at once, share one memory limit.
set_option Elab.async false

section
variable {x : Exempt} {s : State}

/-! ### The end of a shunt by a latch (R115) -/

theorem onOffer_reofferDone (c : TxClass) :
    onOffer c { s with line.tx := s.line.tx.map (reofferDone s) } = onOffer c s := by
  unfold onOffer
  cases s.line.tx <;> simp

theorem inTransmission_reofferDone (c : TxClass) :
    inTransmission c { s with line.tx := s.line.tx.map (reofferDone s) } = inTransmission c s := by
  unfold inTransmission
  cases s.line.tx <;> simp

theorem placeShuntDone_kept : Kept { x with shunt := True } s (placeShuntDone s) := by
  cases hslot : s.line.shuntSlot with
  | none => rw [placeShuntDone_of_empty hslot]; exact { shunt := fun hx => absurd trivial hx }
  | some t =>
    cases hdone : t.isDone with
    | true => rw [placeShuntDone_of_done hslot hdone]; exact .refl
    | false =>
      cases hsent : inTransmission .shunt s with
      | true => rw [placeShuntDone_of_sent_claim hslot hdone hsent]; exact { shunt := fun hx => absurd trivial hx }
      | false =>
        rw [placeShuntDone_of_unsent_claim hslot hdone hsent]
        exact {
          take := fun _ ⟨htaken, hsilent⟩ =>
            ⟨htaken.trans (onOffer_reofferDone .status).symm, fun h => by
              have htx := hsilent h
              simp [htx]⟩
          shunt := fun hx => absurd trivial hx }

theorem leaveShunt_kept : Kept { x with shunt := True } s (leaveShunt s) where
  averages _ := latestAverages_of_mapFrom rfl fun _ _ => rfl
  shunt hx := absurd trivial hx

theorem releaseShunt_kept : Kept { x with shunt := True } s (releaseShunt s) := by
  have hdrop : Kept { x with shunt := True } s { s with scan.claimHeld := false } :=
    { shunt := fun hx => absurd trivial hx }
  unfold releaseShunt
  split
  · exact .refl
  · split
    · dsimp only
      split
      · split
        · exact hdrop
        · exact hdrop.trans placeShuntDone_kept
      · exact hdrop.trans placeShuntDone_kept
    · exact placeShuntDone_kept

/-- The slot and the claim as a shunt that no longer runs leaves them (R7, R115). -/
def SlotReleased (s : State) : Prop :=
  slotLeftOver s = true ∧ s.scan.claimHeld = false ∧ (s.line.shuntDoneBehind = true → inTransmission .shunt s = true) ∧
    (s.cfg.excitation = 0 → s.line.shuntSlot = none)

/-- With a claim or nothing in the slot a SHUNT_DONE placed takes the slot or waits behind the claim (R7). -/
theorem placeShuntDone_released (hheld : s.scan.claimHeld = false) (hexc : s.cfg.excitation ≠ 0)
    (hbehind : s.line.shuntDoneBehind = true → inTransmission .shunt s = true)
    (hslot : s.line.shuntSlot = none → s.line.shuntDoneBehind = false)
    (hdone : ∀ t, s.line.shuntSlot = some t → t.isDone = true → s.line.shuntDoneBehind = false)
    (hclaim : ∀ t, s.line.shuntSlot = some t → inTransmission .shunt s = false → s.line.shuntDoneBehind = false) :
    SlotReleased (placeShuntDone s) := by
  cases hs : s.line.shuntSlot with
  | none =>
    rw [placeShuntDone_of_empty hs]
    exact ⟨by simp [slotLeftOver, ownDone, hslot hs], hheld, hbehind, fun h => absurd h hexc⟩
  | some t =>
    cases hd : t.isDone with
    | true =>
      rw [placeShuntDone_of_done hs hd]
      exact ⟨by simp [slotLeftOver, hs, hd, hdone t hs hd], hheld, hbehind, fun h => absurd h hexc⟩
    | false =>
      cases hsent : inTransmission .shunt s with
      | true =>
        rw [placeShuntDone_of_sent_claim hs hd hsent]
        exact ⟨by simp [slotLeftOver, hs, hd], hheld, fun _ => hsent, fun h => absurd h hexc⟩
      | false =>
        rw [placeShuntDone_of_unsent_claim hs hd hsent]
        have hclear := hclaim t hs hsent
        exact ⟨by simp [slotLeftOver, ownDone, hclear], hheld, fun h => by simp [hclear] at h, fun h => absurd h hexc⟩

theorem slotLeftOver_of_none (h : s.line.shuntSlot = none) : slotLeftOver s = !s.line.shuntDoneBehind := by
  simp [slotLeftOver, h]

/-- What a shunt that runs has put in the slot or holds back is disposed of when it ends (R115). -/
theorem releaseShunt_released {u : State} (h : ShuntGuarded s) (hruns : s.scan.shunt ≠ .none)
    (hline : u.line.shuntSlot = s.line.shuntSlot ∧ u.line.shuntDoneBehind = s.line.shuntDoneBehind ∧
      u.line.tx = s.line.tx) (hheld : u.scan.claimHeld = s.scan.claimHeld) (hcfg : u.cfg = s.cfg) :
    SlotReleased (releaseShunt u) := by
  obtain ⟨-, -, -, -, hslot, hbehind, hgroup, -⟩ := h
  obtain ⟨hs, hb, htx⟩ := hline
  have hsent : inTransmission .shunt u = inTransmission .shunt s := by rw [inTransmission, htx]; rfl
  have hub : u.line.shuntDoneBehind = true → inTransmission .shunt u = true := by rw [hb, hsent]; exact hbehind
  unfold releaseShunt
  split
  · rename_i hexc
    obtain ⟨hempty, hclaiming, hwaiting⟩ := hgroup (hcfg ▸ hexc)
    have hclear : slotClear s = true := by
      revert hslot
      unfold slotMatches
      split <;> simp_all
    simp only [slotClear, Bool.and_eq_true, Option.isNone_iff_eq_none, Bool.not_eq_true'] at hclear
    obtain ⟨⟨-, hnot⟩, hfree⟩ := hclear
    exact ⟨by rw [slotLeftOver_of_none (hs.trans hempty), hb, hnot]; rfl, hheld.trans hfree, hub,
      fun _ => hs.trans hempty⟩
  · rename_i hexc
    split
    · rename_i hclaim
      have hleft : slotLeftOver s = true ∧ s.line.shuntSlot.isSome = true := by
        have : s.scan.claimHeld = true := hheld ▸ hclaim
        revert hslot
        unfold slotMatches
        split <;> simp_all [slotClear]
      obtain ⟨t, ht⟩ := Option.isSome_iff_exists.mp hleft.2
      have hkind : t.isDone = !s.line.shuntDoneBehind := by
        have := hleft.1
        simp only [slotLeftOver, ht] at this
        revert this
        cases t.isDone <;> cases s.line.shuntDoneBehind <;> simp
      have hut : u.line.shuntSlot = some t := hs.trans ht
      simp only [hut]
      split
      · rename_i hdone
        have hnot : s.line.shuntDoneBehind = false := by simpa [hdone] using hkind.symm
        exact ⟨by simp [slotLeftOver, hut, hdone, hb, hnot], rfl, hub, fun h => absurd h hexc⟩
      · rename_i hdone
        have hbeh : s.line.shuntDoneBehind = true := by simpa [hdone] using hkind.symm
        have hwon : inTransmission .shunt u = true := hub (hb.trans hbeh)
        refine placeShuntDone_released rfl hexc hub (fun h => by simp [hut] at h) (fun t' ht' hd => ?_) fun _ _ hw => ?_
        · rw [hut] at ht'; cases ht'; exact absurd hd hdone
        · exact absurd hwon (by rw [show inTransmission .shunt u = false from hw]; simp)
    · rename_i hclaim
      have hfree : s.scan.claimHeld = false := by rw [← hheld]; simpa using hclaim
      have hstate : s.line.shuntDoneBehind = false := by
        revert hslot
        unfold slotMatches
        split <;> simp_all [slotClear]
      exact placeShuntDone_released (hheld.trans hfree) hexc hub (fun _ => hb.trans hstate) (fun _ _ _ => hb.trans hstate)
        fun _ _ _ => hb.trans hstate

/-- A station whose shunt does not run and whose slot is released is guarded. -/
theorem shuntGuarded_of_released (hslot : SlotReleased s) (hshunt : s.scan.shunt = .none)
    (hactive : s.scan.shuntActive = false) (hpins : s.pins.shunts = 0)
    (hrun : s.loader.phase ≠ .running → s.scan.holder = none ∧ s.line.shuntSlot = none ∧ s.cmd.queue = []) :
    ShuntGuarded s := by
  obtain ⟨hleft, hheld, hbehind, hgroup⟩ := hslot
  exact ⟨by simp [hactive, hshunt, shuntStateActive], fun h => absurd hshunt h, fun h => absurd hpins h,
    fun h => by simp [hshunt, shuntStateActive] at h, by simp [slotMatches, hshunt, hleft, hheld], hbehind,
    fun h => ⟨hgroup h, by simp [hshunt], by simp [hshunt]⟩, fun h => ⟨hshunt, hrun h⟩⟩

theorem abortShunt_kept (hx : x.ends) (hruns : s.scan.shunt ≠ .none) : Kept x s (abortShunt s) := by
  have hchain : Kept { x with shunt := True } s (abortShunt s) :=
    (leaveShunt_kept.trans (endCommandOf_kept (x := { x with shunt := True }) hx fun h => absurd trivial h)).trans
      releaseShunt_kept
  refine hchain.restoreShunt fun h => ?_
  have hrunning : s.loader.phase = .running := by
    obtain ⟨-, -, -, -, -, -, -, hidle⟩ := h
    exact Classical.not_not.mp fun hp => hruns (hidle hp).1
  refine shuntGuarded_of_released (releaseShunt_released h hruns ⟨?_, ?_, ?_⟩ ?_ ?_) ?_ ?_ ?_ fun hp => ?_
  all_goals simp_all

theorem scannerOnLatch_kept {new : Latch} (hx : new = .dump → x.ends) : Kept x s (scannerOnLatch new s) := by
  unfold scannerOnLatch
  split
  · rename_i h
    exact abortShunt_kept (hx h.1) (by simpa [shuntRuns] using h.2)
  · exact .refl

/-! ### The latch handed on (R135) -/

theorem handLatch_kept {new : Latch} (hx : new = .dump → x.ends) : Kept x s (handLatch new s) :=
  ((actuatorOnLatch_kept hx).trans (sequencerOnLatch_kept new)).trans (scannerOnLatch_kept hx)

/-- A sequencer that is told of a latch of HOLD or above does not stay in RUN (R46, R47). -/
theorem sequencerOnLatch_not_run {new : Latch} (h : latchAtLeast new .hold = true) :
    (sequencerOnLatch new s).seq.state ≠ .run := by
  unfold sequencerOnLatch
  split <;> dsimp only
  · split <;> simp
  · rename_i hstate
    split <;> simp [hstate]
  · rename_i hstate
    split <;> simp [hstate]
  · rename_i hrun _ _
    exact hrun

theorem handLatch_latched {new : Latch} (h : s.alarm.latch = new) : LatchHolds (handLatch new s) := by
  intro hhold
  simp only [handLatch_frame, h] at hhold
  rw [handLatch]
  have hseq : ∀ u, (scannerOnLatch new u).seq = u.seq := fun u => by simp
  rw [hseq]
  exact sequencerOnLatch_not_run hhold

/-! ### A raise (R133 to R136) -/

theorem keyOf_mergeRecord (r : Raise) (a : AlarmRecord) : keyOf (mergeRecord r a) = keyOf a := rfl

theorem not_mem_keys_of_new {r : Raise} {u : AlarmUnit} (h : u.records.any (sameKey r) = false) :
    keyOf (firstRecord r) ∉ u.records.map keyOf := by
  intro hmem
  obtain ⟨a, ha, hkey⟩ := List.mem_map.mp hmem
  have hsame : sameKey r a = true := by
    simp only [keyOf, firstRecord, Prod.mk.injEq] at hkey
    simp [sameKey, hkey]
  simpa [hsame] using List.any_eq_false.mp h a ha

/-- A raise lists no key twice (R132, R133). -/
theorem storeRaise_nodup {r : Raise} {u : AlarmUnit} (h : (u.records.map keyOf).Nodup) :
    ((storeRaise r u).records.map keyOf).Nodup := by
  have append : ∀ l : List AlarmRecord, l.Sublist u.records → u.records.any (sameKey r) = false →
      ((l ++ [firstRecord r]).map keyOf).Nodup := by
    intro l hl hnew
    rw [List.map_append, List.nodup_append]
    refine ⟨h.sublist (hl.map keyOf), by simp, fun k hk k' hk' heq => ?_⟩
    rw [List.map_singleton, List.mem_singleton] at hk'
    exact not_mem_keys_of_new hnew ((hl.map keyOf).subset (hk' ▸ heq ▸ hk))
  unfold storeRaise
  split
  · rw [List.map_map]
    refine (congrArg List.Nodup (List.map_congr_left fun a _ => ?_)).mpr h
    simp only [Function.comp_apply]
    split <;> rfl
  · rename_i hnew
    have hnew : u.records.any (sameKey r) = false := by simpa using hnew
    split
    · exact append _ (List.Sublist.refl _) hnew
    · split
      · exact append _ List.eraseP_sublist hnew
      · exact h

theorem storeRaise_causes (r : Raise) (u : AlarmUnit) : (storeRaise r u).causes = u.causes := by
  unfold storeRaise
  split
  · rfl
  · split
    · rfl
    · split <;> rfl

theorem raiseRecorded_keeps (r : Raise) : Kept { x with latched := True } s (raiseRecorded r s) := by
  have hstore : Kept { x with latched := True } s
      { s with alarm := { storeRaise r s.alarm with latch := latchMax s.alarm.latch r.action } } := {
    latched := fun hx => absurd trivial hx
    alarms := fun ⟨hlen, hnodup, hcauses⟩ =>
      ⟨storeRaise_length hlen, storeRaise_nodup hnodup, by rw [storeRaise_causes]; exact hcauses⟩
    latch := fun _ => by rw [latchCode_latchMax]; exact Nat.le_max_left _ _ }
  unfold raiseRecorded
  dsimp only
  refine (hstore.trans (setEvent_kept .alarmRaised)).trans ?_
  split <;> split
  · exact (placeAlarm_kept _).trans (cutAndCapture_kept _)
  · exact cutAndCapture_kept _
  · exact placeAlarm_kept _
  · exact .refl

/-- A raise ends no command unless it is one of DUMP, which trips. -/
theorem raiseAlarm_kept {r : Raise} (hx : r.action = .dump → x.ends) : Kept x s (raiseAlarm r s) := by
  rw [raiseAlarm_eq]
  split
  · rename_i heq
    refine (raiseRecorded_keeps r).restoreLatched fun h => ?_
    simpa [LatchHolds, heq] using h
  · rename_i hrise
    have hnew : latchMax s.alarm.latch r.action = r.action := by
      revert hrise
      unfold latchMax
      split <;> simp
    rw [hnew]
    have hrecorded : (raiseRecorded r s).alarm.latch = r.action := by simp [hnew]
    exact ((raiseRecorded_keeps r).trans (handLatch_kept (x := { x with latched := True }) hx)).restoreLatched
      fun _ => handLatch_latched hrecorded

theorem raiseOwn_kept {kind : AlarmKind} {channel : Nat} {action : Latch} (hx : action = .dump → x.ends) :
    Kept x s (raiseOwn kind channel action s) :=
  raiseAlarm_kept hx

theorem causeOn_kept (c : Cause) : Kept x s (causeOn c s) := by
  have halarms : AlarmListOk s → AlarmListOk (causeOn c s) := fun ⟨hlen, hnodup, hcauses⟩ => by
    have hrecords : (causeOn c s).alarm.records = s.alarm.records := by unfold causeOn; split <;> rfl
    exact ⟨hrecords ▸ hlen, hrecords ▸ hnodup, nodup_causeOn hcauses⟩
  unfold causeOn at halarms ⊢
  split
  · exact .refl
  · rename_i hc
    rw [if_neg hc] at halarms
    exact { alarms := halarms }

theorem causeOff_kept (c : Cause) : Kept x s (causeOff c s) where
  alarms := fun ⟨hlen, hnodup, hcauses⟩ => ⟨hlen, hnodup, nodup_causeOff hcauses⟩

/-- A console's HOLD or UNLOAD raises the latch without a record (R142). -/
theorem consoleLatch_kept {action : Latch} (hx : action ≠ .dump) : Kept x s (consoleLatch action s) := by
  unfold consoleLatch
  dsimp only
  split
  · exact .refl
  · rename_i hrise
    have hnew : latchMax s.alarm.latch action = action := by
      revert hrise
      unfold latchMax
      split <;> simp
    rw [hnew]
    have hset : Kept { x with latched := True } s { s with alarm.latch := action } := {
      latched := fun hn => absurd trivial hn
      latch := fun _ => by
        rw [← hnew, latchCode_latchMax]
        exact Nat.le_max_left _ _ }
    exact (hset.trans (handLatch_kept (x := { x with latched := True }) fun h => absurd h hx)).restoreLatched
      fun _ => handLatch_latched rfl

end

end Sys2Proof.Machine

/-! What the operations of the level sequencer keep (chapter 3). -/
namespace Sys2Proof.Machine

open Sys2Proof

-- One proof after the other: the threads of the check, which compiles the whole text at once, share one memory limit.
set_option Elab.async false

section
variable {x : Exempt} {s : State}

theorem not_inDwell_of_phase {p : RunPhase} (h : s.seq.phase = some p) (hp : p ≠ .dwell) : inDwell s = false := by
  simp [inDwell, h, hp]

theorem not_inDwell_of_state (h : s.seq.state ≠ .run) : inDwell s = false := by
  simp [inDwell, h]

theorem inDwell_iff : inDwell s = true ↔ s.seq.state = .run ∧ s.seq.phase = some .dwell := by
  simp [inDwell]

/-! ### The segment table (R31 to R34) -/

theorem replaceTable_kept {table : List (Option Segment)} (ht : x.table)
    (h : LevelBounded s → ∀ e ∈ table, ∀ g ∈ e, g.target ≤ 10000) : Kept x s (replaceTable table s) := by
  have htable : Kept x s { s with seq.table := table, seq.digest := digestOf table } := {
    level := fun hl => ⟨hl.1, hl.2.1, h hl⟩
    table := fun hn => absurd ht hn }
  exact (htable.trans {}).trans (setEvent_kept .programEdited)

/-! ### Ends, entries and the gate (sections 3.4, 3.6 and 3.10) -/

theorem enterEnded_kept (hdwell : inDwell s = false) : Kept x s (enterEnded s) :=
  setSequencer_kept {
    run := fun _ _ h => by simp at h
    latched := fun _ _ _ h => by cases h
    dwell := fun ⟨htimers, _⟩ => ⟨fun h => absurd (htimers h) (by simp [hdwell]), fun h => by simp at h⟩
    settle := fun _ hs h => absurd (hs h) (by simp [hdwell]) }

theorem segmentAt_bounded {i : Nat} {g : Segment} (h : segmentAt i s.seq = some g) (hl : LevelBounded s) :
    g.target ≤ 10000 := by
  have hmem : some g ∈ s.seq.table := by
    rw [segmentAt, List.getD_eq_getElem?_getD] at h
    cases hi : s.seq.table[i]? with
    | none => rw [hi] at h; cases h
    | some e => rw [hi] at h; exact List.mem_of_getElem? (hi.trans (congrArg some h))
  exact hl.2.2 _ hmem g rfl

/-- A segment is entered in LIVE, under a latch below HOLD and out of DWELL. -/
theorem enterSegment_kept {i : Nat} (hlive : ¬ x.run → RunNeedsLive s → s.act.state = .live)
    (hlatch : ¬ x.latched → LatchHolds s → latchAtLeast s.alarm.latch .hold = false) (hdwell : inDwell s = false) :
    Kept x s (enterSegment i s) := by
  unfold enterSegment
  split
  · exact .refl
  · rename_i g hg
    split
    · exact enterEnded_kept hdwell
    · exact setSequencer_kept {
        level := fun hl => ⟨hl.1, fun w hw => by cases hw; exact segmentAt_bounded hg hl, hl.2.2⟩
        run := fun hx hr _ => hlive hx hr
        latched := fun hx hr h => by simp [hlatch hx hr] at h
        dwell := fun _ => ⟨fun h => by simp [timerRuns] at h, fun h => by simp at h⟩
        settle := fun _ hs h => absurd (hs h) (by simp [hdwell]) }

theorem watchMismatch_kept (h : s.seq.state = .run ∧ s.seq.phase = some .done) : Kept x s (watchMismatch s) := by
  unfold watchMismatch
  split
  · exact { dwell := fun ⟨htimers, _⟩ => ⟨htimers, fun hm => by simp at hm⟩ }
  · split
    · exact .refl
    · exact { dwell := fun ⟨htimers, _⟩ => ⟨htimers, fun _ => h⟩ }

theorem latch_below_of_run (h : LatchHolds s) (hrun : s.seq.state = .run) : latchAtLeast s.alarm.latch .hold = false := by
  cases hl : latchAtLeast s.alarm.latch .hold with
  | true => exact absurd hrun (h hl)
  | false => rfl

theorem watchMismatch_seq (s : State) :
    (watchMismatch s).seq.state = s.seq.state ∧ (watchMismatch s).seq.phase = s.seq.phase := by
  unfold watchMismatch
  split
  · exact ⟨rfl, rfl⟩
  · split <;> exact ⟨rfl, rfl⟩

theorem askGate_kept : Kept x s (askGate s) := by
  unfold askGate
  split
  · rename_i h
    obtain ⟨hstate, hphase⟩ := watchMismatch_seq s
    rw [h.1] at hstate
    rw [h.2] at hphase
    split
    · exact .refl
    · dsimp only
      split
      · exact (watchMismatch_kept h).trans (enterSegment_kept (fun _ hr => hr (.inl hstate))
          (fun _ hr => latch_below_of_run hr hstate) (not_inDwell_of_phase hphase (by decide)))
      · exact watchMismatch_kept h
  · exact .refl

/-! ### DWELL and DONE (section 3.5) -/

theorem becomeDone_kept : Kept x s (becomeDone s) := by
  have hdone : Kept { x with settle := True } s
      { s with seq := { s.seq with phase := some .done, hold := .stopped, extension := .stopped } } := {
    dwell := fun ⟨_, hmismatch⟩ => ⟨fun h => by simp [timerRuns] at h, fun h => ⟨(hmismatch h).1, rfl⟩⟩
    settle := fun hx => absurd trivial hx }
  have hleft : Kept x s
      (dwellLeft (setSequencer { s.seq with phase := some .done, hold := .stopped, extension := .stopped } s)) :=
    ((setSequencer_kept hdone).trans dwellLeft_kept).restoreSettle fun _ => settleInDwell_dwellLeft
  unfold becomeDone
  dsimp only
  split
  · refine (hleft.trans {}).trans (enterEnded_kept (not_inDwell_of_phase (p := .done) ?_ (by decide)))
    simp
  · exact ((hleft.trans {}).trans {}).trans askGate_kept

theorem extensionExpired_kept (hx : s.cfg.noSettleAction = .dump → x.ends) : Kept x s (extensionExpired s) := by
  have hstop : Kept x s { s with seq.extension := .stopped } := {
    dwell := fun ⟨htimers, hmismatch⟩ => ⟨fun h => htimers (h.imp_right fun h => by simp [timerRuns] at h), hmismatch⟩ }
  unfold extensionExpired
  dsimp only
  split
  · exact (hstop.trans (raiseOwn_kept hx)).trans becomeDone_kept
  · exact hstop.trans (raiseOwn_kept hx)

theorem startExtension_kept {left : Nat} (hx : s.cfg.noSettleAction = .dump → x.ends) (hdwell : inDwell s = true) :
    Kept x s (startExtension left s) := by
  unfold startExtension
  split
  · exact extensionExpired_kept hx
  · exact { dwell := fun ⟨_, hmismatch⟩ => ⟨fun _ => hdwell, hmismatch⟩ }

theorem judgeSettle_kept (hx : s.cfg.noSettleAction = .dump → x.ends) (hdwell : inDwell s = true) :
    Kept x s (judgeSettle s) := by
  have hstop : Kept x s { s with seq.hold := .stopped } := {
    dwell := fun ⟨htimers, hmismatch⟩ => ⟨fun h => htimers (h.imp_left fun h => by simp [timerRuns] at h), hmismatch⟩ }
  unfold judgeSettle
  dsimp only
  split
  · exact (hstop.trans {}).trans (startExtension_kept hx hdwell)
  · exact hstop.trans becomeDone_kept

theorem startHold_kept {left : Nat} (hx : s.cfg.noSettleAction = .dump → x.ends) (hdwell : inDwell s = true) :
    Kept x s (startHold left s) := by
  unfold startHold
  split
  · exact judgeSettle_kept hx hdwell
  · exact { dwell := fun ⟨_, hmismatch⟩ => ⟨fun _ => hdwell, hmismatch⟩ }

theorem dwellEntered_kept (hdwell : inDwell s = true) : Kept x s (dwellEntered s) where
  averages := fun _ => latestAverages_of_mapFrom rfl fun _ _ => rfl
  settle := fun _ _ _ => hdwell

theorem startDwell_kept (hx : s.cfg.noSettleAction = .dump → x.ends) (hrun : s.seq.state = .run)
    (hramp : s.seq.phase = some .ramp) : Kept x s (startDwell s) := by
  have hnot := not_inDwell_of_phase hramp (by decide)
  have hdwell : inDwell { s with seq := { s.seq with phase := some .dwell } } = true := by simp [inDwell, hrun]
  have hset : Kept x s (setSequencer { s.seq with phase := some .dwell } s) := setSequencer_kept {
    dwell := fun ⟨_, hmismatch⟩ => ⟨fun _ => hdwell, fun h => by simpa [hramp] using (hmismatch h).2⟩
    settle := fun _ hs h => absurd (hs h) (by simp [hnot]) }
  have hdwell' : inDwell (setSequencer { s.seq with phase := some .dwell } s) = true := by simp [inDwell, hrun]
  refine (hset.trans (dwellEntered_kept hdwell')).trans (startHold_kept (by simpa using hx) ?_)
  simpa [inDwell] using hdwell'

theorem sequencerOnSettled_kept : Kept x s (sequencerOnSettled s) := by
  unfold sequencerOnSettled
  split
  · split
    · exact becomeDone_kept
    · exact .refl
  · exact .refl

theorem unloadingEnds_kept (h : s.seq.state = .unloading) : Kept x s (unloadingEnds s) := by
  have hdwell := not_inDwell_of_state (s := s) (by simp [h])
  exact setSequencer_kept {
    run := fun _ _ hs => by simp at hs
    latched := fun _ _ _ hs => by cases hs
    dwell := fun ⟨htimers, hmismatch⟩ =>
      ⟨fun ht => absurd (htimers ht) (by simp [hdwell]), fun hm => by simpa [h] using (hmismatch hm).1⟩
    settle := fun _ hs ht => absurd (hs ht) (by simp [hdwell]) }

theorem sequencerOnLevel_kept (hx : s.cfg.noSettleAction = .dump → x.ends) : Kept x s (sequencerOnLevel s) := by
  unfold sequencerOnLevel
  split
  · rename_i h
    simp only [rampEnds, Bool.and_eq_true, decide_eq_true_eq] at h
    exact startDwell_kept hx h.1.1 h.1.2
  · split
    · rename_i h
      exact unloadingEnds_kept h.1
    · exact .refl

/-! ### RUN and RESUME (sections 3.4 and 3.8) -/

theorem startRun_kept (h : judgeRun s = .none) : Kept x s (startRun s) := by
  have hidle : s.seq.state = .idle ∨ s.seq.state = .ended := by
    by_contra hc; simp [judgeRun, hc] at h
  have hlive : s.act.state = .live := by
    by_contra hc; simp [judgeRun, hidle, hc] at h
  have hlatch : s.alarm.latch = .none := by
    by_contra hc
    unfold judgeRun at h
    simp only [hidle, hlive, hc, not_true, ne_eq, not_false_eq_true, if_true, if_false] at h
    revert h
    split
    · simp
    · split
      · simp
      · split <;> simp
  have hclear : Kept x s { s with seq.counters := List.replicate 32 0, seq.step := 0, seq.choice := none } := {}
  refine hclear.trans (enterSegment_kept (fun _ _ => hlive) (fun _ _ => by simp [hlatch, latchAtLeast, latchCode]) ?_)
  exact not_inDwell_of_state (by rcases hidle with h | h <;> simp [h])

theorem resumeDwell_kept (hx : s.cfg.noSettleAction = .dump → x.ends) (hdwell : inDwell s = true) :
    Kept x s (resumeDwell s) := by
  have hentered : inDwell (dwellEntered s) = true := by simpa [inDwell] using hdwell
  have hcfg : (dwellEntered s).cfg.noSettleAction = .dump → x.ends := by simpa using hx
  unfold resumeDwell
  split
  · split
    · exact (dwellEntered_kept hdwell).trans (startExtension_kept hcfg hentered)
    · exact becomeDone_kept
  · exact (dwellEntered_kept hdwell).trans (startHold_kept hcfg hentered)

theorem sequencerOnResume_kept (hx : s.cfg.noSettleAction = .dump → x.ends) (hlatch : s.alarm.latch = .none) :
    Kept x s (sequencerOnResume s) := by
  unfold sequencerOnResume
  split
  · rename_i h
    obtain ⟨hheld, hlive⟩ := h
    have hnot := not_inDwell_of_state (s := s) (by simp [hheld])
    have hset : Kept x s (setSequencer { s.seq with state := .run } s) := setSequencer_kept {
      run := fun _ _ _ => hlive
      latched := fun _ _ h => by simp [hlatch, latchAtLeast, latchCode] at h
      dwell := fun ⟨htimers, hmismatch⟩ =>
        ⟨fun ht => absurd (htimers ht) (by simp [hnot]), fun hm => by simpa [hheld] using (hmismatch hm).1⟩
      settle := fun _ hs ht => absurd (hs ht) (by simp [hnot]) }
    dsimp only
    split
    · rename_i hphase
      exact hset.trans (resumeDwell_kept (by simpa using hx) (by simp [inDwell, hphase]))
    · exact hset.trans askGate_kept
    · exact hset
  · exact .refl

end

end Sys2Proof.Machine

/-! What the operations of the actuator unit keep (chapter 5). -/
namespace Sys2Proof.Machine

open Sys2Proof

-- One proof after the other: the threads of the check, which compiles the whole text at once, share one memory limit.
set_option Elab.async false

section
variable {x : Exempt} {s : State}

/-! ### Entries into a state other than TRIPPED (R50, R74) -/

/-- UNLOADING stands in LIVE only, and RUN is HELD where LIVE is left (R50). -/
theorem runNeedsLive_enterState {st : ActState} {iso dump lockCmd : Bool}
    (hunloading : st ≠ .live → s.act.state = .live → s.seq.state ≠ .unloading) (h : RunNeedsLive s) :
    RunNeedsLive (enterState st iso dump lockCmd s) := by
  by_cases hst : st = .live
  · intro _
    have hact : (enterState st iso dump lockCmd s).act.state = st := by simp [enterState]
    exact hact.trans hst
  · have heq : enterState st iso dump lockCmd s =
        if s.act.state = .live ∧ s.seq.state = .run then enterHeld (setActuator st iso dump lockCmd s)
        else setActuator st iso dump lockCmd s := by
      simp [enterState, sequencerOnActuator, hst]
    rw [heq]
    split
    · intro hrun
      simp at hrun
    · rename_i hnot
      intro hrun
      have hrun' : s.seq.state = .run ∨ s.seq.state = .unloading := by simpa using hrun
      have hlive := h hrun'
      rcases hrun' with hr | hu
      · exact absurd ⟨hlive, hr⟩ hnot
      · exact absurd hu (hunloading hst hlive)

/-- An actuator state is entered from one out of which an active ESTOP does not lead (R85). -/
theorem enterState_kept {st : ActState} {iso dump lockCmd : Bool}
    (hestop : (s.act.state ≠ .tripped ∧ s.act.state ≠ .locked) ∨ s.pins.estop = false ∨ st = .locked)
    (hunloading : st ≠ .live → s.act.state = .live → s.seq.state ≠ .unloading)
    (hlines : ¬ x.lines → LinesOfTable s → LinesOfTable (setActuator st iso dump lockCmd s)) :
    Kept x s (enterState st iso dump lockCmd s) := by
  have hset : Kept { x with run := True } s (setActuator st iso dump lockCmd s) := by
    refine setActuator_kept (fun _ h hphase hpin => ?_) hlines
    rcases hestop with ⟨hnt, hnl⟩ | hoff | hlocked
    · exact absurd (h hphase hpin) (by simp [hnt, hnl])
    · simp [hoff] at hpin
    · exact .inr hlocked
  exact (hset.trans (sequencerOnActuator_kept _)).restoreRun (runNeedsLive_enterState hunloading)

theorem linesOfTable_enterState {st : ActState} {iso dump lockCmd : Bool}
    (h : LinesOfTable (setActuator st iso dump lockCmd s)) : LinesOfTable (enterState st iso dump lockCmd s) :=
  (sequencerOnActuator_kept (x := {}) _).lines id h

theorem enterState_state (st : ActState) (iso dump lockCmd : Bool) (s : State) :
    (enterState st iso dump lockCmd s).act.state = st := by
  simp [enterState]

/-! ### The charge list and the pump window (section 5.6) -/

theorem consultList_kept : Kept x s (consultList s) where
  queues := fun ⟨ha, hr, hd, hc, hrest⟩ => ⟨ha, hr, hd, (List.length_filter_le _ _).trans hc, hrest⟩

theorem appendCharge_kept (station : Nat) : Kept x s (appendCharge station s) where
  queues := fun ⟨ha, hr, hd, hc, hrest⟩ => by
    refine ⟨ha, hr, hd, ?_, hrest⟩
    simp only [appendCharge, List.length_append, List.length_singleton]
    split <;> simp only [Config.chargeListSize, List.length_drop] at * <;> omega

theorem placeCharge_kept : Kept x s (placeCharge s) := by
  unfold placeCharge
  split
  · exact .refl
  · split <;> exact {}

theorem judgeWait_kept : Kept x s (judgeWait s) := by
  unfold judgeWait
  dsimp only
  split
  · exact consultList_kept.trans placeCharge_kept
  · exact consultList_kept

theorem chargeSlotEmptied_kept : Kept x s (chargeSlotEmptied s) := by
  unfold chargeSlotEmptied
  split
  · exact (show Kept x s { s with act.ownHeld := false } from {}).trans judgeWait_kept
  · exact .refl

/-- The wait for the pump window has the lines of VENTED for a CHARGE and those of LOCKED for an UNLOCK (Table 5-4). -/
theorem enterWait_kept {p : ChargePurpose}
    (h : (p = .charge ∧ s.act.state = .vented) ∨ (p = .unlock ∧ s.act.state = .locked ∧ s.pins.estop = false)) :
    Kept x s (enterWait p s) := by
  have hpurpose : Kept x s { s with act.purpose := some p } := by
    rcases h with ⟨-, h⟩ | ⟨-, h, -⟩ <;>
      exact { lines := fun _ hl => by simpa [LinesOfTable, tableLines, valveLines, h] using hl }
  refine (hpurpose.trans (enterState_kept ?_ ?_ fun _ hl => ?_)).trans judgeWait_kept
  · rcases h with ⟨-, h⟩ | ⟨-, -, h⟩
    · exact .inl (by simp [h])
    · exact .inr (.inl h)
  · intro _ hlive
    rcases h with ⟨-, h⟩ | ⟨-, h, -⟩ <;> simp [h] at hlive
  · rcases h with ⟨rfl, h⟩ | ⟨rfl, h, -⟩ <;>
      simpa [LinesOfTable, tableLines, valveLines, h] using hl

/-! ### Lock checks (section 5.7) -/

theorem loadLockCheck_kept : Kept x s (loadLockCheck s) := {}

theorem makeLockCheck_kept (hx : s.cfg.driftAction = .dump → x.ends) : Kept x s (makeLockCheck s) := by
  unfold makeLockCheck
  split
  · exact .refl
  · split
    · exact raiseOwn_kept hx
    · exact .refl

/-! ### State entries (sections 5.3 and 5.4) -/

theorem enterLive_kept {kind : QueuedKind} (hx : x.ends) (hkind : kind ≠ .shunt)
    (hstate : s.act.state ≠ .tripped ∧ s.act.state ≠ .locked) : Kept x s (enterLive kind s) := by
  have hclear : Kept { x with lines := True } s { s with
      act.chargeTimer := none
      act.deadline := none
      act.acquisition := none
      act.releasing := false
      servo.reacquire := if decide (s.act.state = .unlockCharge) then some (s.age + ms s.cfg.tAcq)
        else s.servo.reacquire } := { lines := fun hn => absurd trivial hn }
  have henter := hclear.trans
    (enterState_kept (x := { x with lines := True }) (st := .live) (iso := true) (dump := false) (lockCmd := false)
      (.inl hstate) (fun hn => absurd rfl hn) fun hn => absurd trivial hn)
  exact (henter.restoreLines fun _ => linesOfTable_enterState rfl).trans (endCommandOf_kept hx fun _ => .inr hkind)

theorem enterCharging_kept (hx : x.ends) (hstate : s.act.state = .waitWindow) : Kept x s (enterCharging s) := by
  have hclear : Kept { x with lines := True } s { s with act.purpose := none } :=
    { lines := fun hn => absurd trivial hn }
  have henter : Kept x s (enterState .charging true false false { s with act.purpose := none }) :=
    (hclear.trans (enterState_kept (x := { x with lines := True }) (.inl (by simp [hstate])) (by simp [hstate])
      fun hn => absurd trivial hn)).restoreLines fun _ => linesOfTable_enterState rfl
  unfold enterCharging
  dsimp only
  split
  · exact henter.trans (enterLive_kept hx (by decide) (by simp [enterState]))
  · exact henter.trans {}

theorem integral_zero_bounded : -Config.integralMax ≤ 0 ∧ 0 ≤ Config.integralMax := by decide

theorem enterUnlockCharge_kept (hi : x.integral) (hstate : s.act.state = .waitWindow) : Kept x s (enterUnlockCharge s) := by
  have hclear : Kept { x with lines := True } s { s with
      act.purpose := none
      act.lockCheck := none
      act.releasing := false
      act.deadline := some (s.age + ms (s.cfg.tChg + s.cfg.tAcq + s.cfg.tLock))
      servo.integral := 0 } := {
    integral := fun hn => absurd hi hn
    drive := fun ⟨_, hrest⟩ => ⟨integral_zero_bounded, hrest⟩
    lines := fun hn => absurd trivial hn }
  exact (hclear.trans (enterState_kept (x := { x with lines := True }) (.inl (by simp [hstate])) (by simp [hstate])
    fun hn => absurd trivial hn)).restoreLines fun _ => linesOfTable_enterState rfl

theorem enterLocked_kept (hlive : s.act.state ≠ .live) : Kept x s (enterLocked s) :=
  (enterState_kept (.inr (.inr rfl)) (fun _ h => absurd h hlive) fun _ _ => rfl).trans loadLockCheck_kept

theorem lockSeats_kept (hx : x.ends) (hlive : s.act.state ≠ .live) : Kept x s (lockSeats s) := by
  have hclear : Kept x s { s with
      act.lockTimer := none, act.lockRef := some s.servo.fMeas, act.lockRefDue := false } := {}
  exact (hclear.trans (enterLocked_kept hlive)).trans (endCommandOf_kept hx fun _ => .inr (by decide))

theorem enterLocking_kept (hx : x.ends) (hlive : s.act.state = .live) (hseq : s.seq.state ≠ .unloading) :
    Kept x s (enterLocking s) := by
  have henter : Kept x s (enterState .locking true false true s) :=
    enterState_kept (.inl (by simp [hlive])) (fun _ _ => hseq) fun _ _ => rfl
  unfold enterLocking
  dsimp only
  split
  · exact henter.trans (lockSeats_kept hx (by simp [enterState]))
  · exact henter.trans {}

theorem enterVented_kept (hestop : (s.act.state ≠ .tripped ∧ s.act.state ≠ .locked) ∨ s.pins.estop = false)
    (hseq : s.act.state = .live → s.seq.state ≠ .unloading) : Kept x s (enterVented s) :=
  enterState_kept (hestop.imp_right .inl) (fun _ => hseq) fun _ _ => rfl

/-! ### Failures (R77, R79, R83) -/

/-- A raise of HOLD trips nothing: actuator unit and lines stay. -/
theorem raiseOwn_hold_frame (kind : AlarmKind) (channel : Nat) (s : State) :
    (raiseOwn kind channel .hold s).act = s.act ∧ (raiseOwn kind channel .hold s).pins = s.pins := by
  rw [raiseOwn, raiseAlarm_eq]
  split
  · simp
  · rename_i hrise
    have hnew : latchMax s.alarm.latch (ownRaise kind channel .hold s).action = .hold := by
      revert hrise
      unfold latchMax
      split <;> simp [ownRaise]
    rw [hnew, handLatch_hold]
    split <;> simp

theorem raiseOwn_hold_state {kind : AlarmKind} {channel : Nat} {st : ActState} (h : s.act.state = st) :
    (raiseOwn kind channel .hold s).act.state = st := by
  rw [(raiseOwn_hold_frame kind channel s).1, h]

theorem chargeFails_kept (hx : x.ends) (hstate : s.act.state = .charging) : Kept x s (chargeFails s) := by
  have hraised := raiseOwn_hold_state (kind := .chargeFail) (channel := 0)
    (show ({ s with act.chargeTimer := none } : State).act.state = .charging from hstate)
  have hraise : Kept x s (raiseOwn .chargeFail 0 .hold { s with act.chargeTimer := none }) :=
    (show Kept x s { s with act.chargeTimer := none } from {}).trans (raiseOwn_kept fun h => by cases h)
  exact (hraise.trans (enterVented_kept (.inl (by rw [hraised]; decide)) fun h => by rw [hraised] at h; cases h)).trans
    (endCommandOf_kept hx fun _ => .inr (by decide))

theorem lockFails_kept (hx : x.ends) (hstate : s.act.state = .locking) : Kept x s (lockFails s) := by
  have hraised := raiseOwn_hold_state (kind := .lockFail) (channel := 0)
    (show ({ s with act.lockTimer := none, pins.lockCmd := false } : State).act.state = .locking from hstate)
  have hraise : Kept { x with lines := True } s
      (raiseOwn .lockFail 0 .hold { s with act.lockTimer := none, pins.lockCmd := false }) :=
    (show Kept { x with lines := True } s { s with act.lockTimer := none, pins.lockCmd := false } from
      { lines := fun hn => absurd trivial hn }).trans (raiseOwn_kept fun h => by cases h)
  have henter := hraise.trans
    (enterState_kept (x := { x with lines := True }) (st := .live) (iso := true) (dump := false) (lockCmd := false)
      (.inl (by rw [hraised]; decide)) (fun hn => absurd rfl hn) fun hn => absurd trivial hn)
  exact (henter.restoreLines fun _ => linesOfTable_enterState rfl).trans
    (endCommandOf_kept hx fun _ => .inr (by decide))

/-- The station at the unlock deadline, before UNLOCK_FAIL is raised. -/
def unlockAbandoned (s : State) : State :=
  { s with
    act.deadline := none
    act.acquisition := none
    act.releasing := false
    servo.integral := 0
    pins.iso := false
    pins.lockCmd := true }

theorem unlockFails_kept (hx : x.ends) (hi : x.integral) (hstate : s.act.state = .unlockCharge) : Kept x s (unlockFails s) := by
  have hclear : Kept { x with lines := True } s (unlockAbandoned s) := {
    integral := fun hn => absurd hi hn
    drive := fun ⟨_, hrest⟩ => ⟨integral_zero_bounded, hrest⟩
    lines := fun hn => absurd trivial hn }
  have hraised := raiseOwn_hold_state (kind := .unlockFail) (channel := 0)
    (show (unlockAbandoned s).act.state = .unlockCharge from hstate)
  have henter : Kept { x with lines := True } s
      (enterState .locked false false true (raiseOwn .unlockFail 0 .hold (unlockAbandoned s))) :=
    (hclear.trans (raiseOwn_kept fun h => by cases h)).trans
      (enterState_kept (.inr (.inr rfl)) (fun _ h => by rw [hraised] at h; cases h) fun hn => absurd trivial hn)
  exact ((henter.restoreLines fun _ => linesOfTable_enterState rfl).trans loadLockCheck_kept).trans
    (endCommandOf_kept hx fun _ => .inr (by decide))

/-! ### Inputs and timers (R75 to R94) -/

theorem acquisitionTest_kept : Kept x s (acquisitionTest s) := by
  unfold acquisitionTest
  split
  · split
    · split
      · exact .refl
      · exact {}
    · exact {}
  · exact .refl

theorem beginRelease_kept (hx : x.ends) (hstate : s.act.state = .unlockCharge) : Kept x s (beginRelease s) := by
  have hrelease : Kept x s
      { s with act.acquisition := none, act.releasing := true, pins.lockCmd := false } := {
    lines := fun _ hl => by
      simp only [LinesOfTable, tableLines, valveLines, hstate, Option.some.injEq, Prod.mk.injEq] at hl ⊢
      exact ⟨hl.1, hl.2.1, rfl⟩ }
  unfold beginRelease
  dsimp only
  split
  · exact hrelease
  · exact hrelease.trans (enterLive_kept hx (by decide) (by simp [hstate]))

theorem decideWindow_kept (hx : x.ends) (hi : x.integral) (hstate : s.act.state = .waitWindow) : Kept x s (decideWindow s) := by
  have hlisted : Kept x s (appendCharge (ownStation (consultList s)) (consultList s)) :=
    consultList_kept.trans (appendCharge_kept _)
  unfold decideWindow
  dsimp only
  split
  · split
    · exact hlisted.trans (enterCharging_kept hx hstate)
    · exact hlisted.trans (enterUnlockCharge_kept hi hstate)
    · exact hlisted
  · exact hlisted

theorem ownChargeCompleted_kept (hx : x.ends) (hi : x.integral) : Kept x s (ownChargeCompleted s) := by
  have hplaced : Kept x s { s with act.ownPlaced := none } := {}
  unfold ownChargeCompleted
  dsimp only
  split
  · rename_i h
    have hstate : s.act.state = .waitWindow := by simp at h; exact h.2
    exact (hplaced.trans (decideWindow_kept hx hi hstate)).trans chargeSlotEmptied_kept
  · exact (hplaced.trans (appendCharge_kept _)).trans chargeSlotEmptied_kept

theorem pressOkChanged_kept (hx : x.ends) : Kept x s (pressOkChanged s) := by
  unfold pressOkChanged
  split
  · rename_i h
    exact enterLive_kept hx (by decide) (by simp [h.1])
  · split
    · exact {}
    · exact .refl

theorem lockEngagedChanged_kept (hx : x.ends) : Kept x s (lockEngagedChanged s) := by
  unfold lockEngagedChanged
  split
  · rename_i h
    exact lockSeats_kept hx (by simp [h.1])
  · split
    · exact (makeLockCheck_kept fun _ => hx).trans loadLockCheck_kept
    · split
      · rename_i h
        exact enterLive_kept hx (by decide) (by simp [h.1])
      · exact .refl

theorem lockCheckExpires_kept (hx : x.ends) : Kept x s (lockCheckExpires s) :=
  loadLockCheck_kept.trans (makeLockCheck_kept fun _ => hx)

theorem firstLockRef_kept : Kept x s (firstLockRef s) := by
  unfold firstLockRef
  split
  · dsimp only
    split
    · exact (show Kept x s { s with act.lockRef := some s.servo.fMeas, act.lockRefDue := false } from {}).trans
        loadLockCheck_kept
    · exact {}
  · exact .refl

theorem tripOnEstop_kept (hx : x.ends) : Kept x s (tripOnEstop s) := by
  unfold tripOnEstop
  split
  · exact .refl
  · exact enterTripped_kept hx

theorem raiseEstop_kept (hx : x.ends) : Kept x s (raiseEstop s) :=
  (raiseOwn_kept fun _ => hx).trans (causeOn_kept .estop)

/-! ### Judgements of the queued commands (Table 5-5) -/

section
variable (hx : x.ends) (hcurrent : s.cmd.current.map (fun q => q.kind) ≠ some .shunt)
include hx hcurrent

theorem endCommand_kept_of_kind {result : ReplyResult} {reason : Reason} :
    Kept x s (endCommand result reason s) :=
  endCommand_kept hx fun _ => .inr hcurrent

theorem judgeCharge_kept : Kept x s (judgeCharge s) := by
  have hend := fun reason => endCommand_kept_of_kind (result := .refused) (reason := reason) hx hcurrent
  unfold judgeCharge
  split
  · exact hend .tripped
  · split
    · exact hend .state
    · rename_i hstate
      split
      · exact hend .action
      · exact enterWait_kept (.inl ⟨rfl, Classical.not_not.mp hstate⟩)

theorem judgeVent_kept : Kept x s (judgeVent s) := by
  have hend := fun reason => endCommand_kept_of_kind (result := .refused) (reason := reason) hx hcurrent
  unfold judgeVent
  split
  · exact hend .tripped
  · split
    · exact hend .state
    · rename_i hstate
      have hlive : s.act.state = .live := Classical.not_not.mp hstate
      split
      · exact hend .state
      · rename_i hrest
        have hseq : s.seq.state = .idle ∨ s.seq.state = .ended := by
          by_contra hc; exact hrest (.inr hc)
        have hvent : Kept x s (enterVented s) :=
          enterVented_kept (.inl (by simp [hlive])) fun _ => by rcases hseq with h | h <;> simp [h]
        exact hvent.trans (endCommand_kept_of_kind hx (by simpa using hcurrent))

theorem judgeLock_kept : Kept x s (judgeLock s) := by
  have hend := fun reason => endCommand_kept_of_kind (result := .refused) (reason := reason) hx hcurrent
  unfold judgeLock
  split
  · exact hend .tripped
  · split
    · exact hend .state
    · rename_i hstate
      split
      · exact hend .state
      · rename_i hseq
        exact enterLocking_kept hx (Classical.not_not.mp hstate) fun h => hseq (.inr h)

theorem judgeUnlock_kept : Kept x s (judgeUnlock s) := by
  have hend := fun reason => endCommand_kept_of_kind (result := .refused) (reason := reason) hx hcurrent
  unfold judgeUnlock
  split
  · exact hend .tripped
  · split
    · exact hend .state
    · rename_i hstate
      split
      · exact hend .estop
      · rename_i hestop
        split
        · exact hend .action
        · exact enterWait_kept (.inr ⟨rfl, Classical.not_not.mp hstate, by simpa using hestop⟩)

theorem judgeCleartrip_kept : Kept x s (judgeCleartrip s) := by
  have hend := fun reason => endCommand_kept_of_kind (result := .refused) (reason := reason) hx hcurrent
  unfold judgeCleartrip
  split
  · exact hend .state
  · rename_i hstate
    split
    · exact hend .estop
    · rename_i hestop
      have htripped : s.act.state = .tripped := Classical.not_not.mp hstate
      have hvent : Kept x s (enterVented s) :=
        enterVented_kept (.inr (by simpa using hestop)) fun h => by simp [htripped] at h
      exact hvent.trans (endCommand_kept_of_kind hx (by simpa using hcurrent))

end

end

end Sys2Proof.Machine

/-! What the operations of the record memory keep (chapter 9): the opening of a block, its samples, the ends of captures
and sendings, and FETCH, FREE and CUT. -/
namespace Sys2Proof.Machine

open Sys2Proof

-- One proof after the other: the threads of the check, which compiles the whole text at once, share one memory limit.
set_option Elab.async false

section
variable {x : Exempt} {s : State}

/-! ### Pages held and pages to take (R147) -/

theorem flatMap_pages_setAt {n : Nat} (v : BlockEntry) (table : List BlockEntry) (hn : n < table.length) :
    ((setAt n v table).flatMap (fun e => e.pages) ++ (table.getD n BlockEntry.freeEntry).pages).Perm
      (table.flatMap (fun e => e.pages) ++ v.pages) := by
  induction table generalizing n with
  | nil => simp at hn
  | cons e r ih =>
    cases n with
    | zero =>
      simp only [setAt, modifyAt, List.flatMap_cons, List.getD_cons_zero]
      calc (v.pages ++ r.flatMap (fun e => e.pages) ++ e.pages).Perm (e.pages ++ (v.pages ++ r.flatMap (fun e => e.pages))) :=
            List.perm_append_comm
        _ |>.Perm (e.pages ++ (r.flatMap (fun e => e.pages) ++ v.pages)) := List.perm_append_comm.append_left _
        _ |>.Perm _ := by rw [List.append_assoc]
    | succ n =>
      have hr := ih (by simpa using hn)
      simp only [setAt, modifyAt, List.flatMap_cons, List.getD_cons_succ, List.append_assoc] at hr ⊢
      exact hr.append_left _

/-- The free pages are those that no block holds (R147). -/
theorem length_free_pages (h : PagesAddUp s) :
    ((List.range Config.poolPages).filter (fun p => !(heldPages s).contains p)).length = s.recs.freePages := by
  obtain ⟨-, -, hnodup, hbound, hsum, -⟩ := h
  have hheld : ((List.range Config.poolPages).filter (fun p => (heldPages s).contains p)).Perm (heldPages s) := by
    rw [List.perm_ext_iff_of_nodup (List.nodup_range.filter _) hnodup]
    intro p
    simp only [List.mem_filter, List.mem_range, List.contains_iff_mem, and_iff_right_iff_imp]
    exact hbound p
  have hsplit := List.length_eq_length_filter_add (l := List.range Config.poolPages) (fun p => (heldPages s).contains p)
  rw [List.length_range, hheld.length_eq] at hsplit
  omega

theorem pagesToTake_length (h : PagesAddUp s) (hroom : s.cfg.blockPages ≤ s.recs.freePages) :
    (pagesToTake s).length = s.cfg.blockPages := by
  rw [pagesToTake, List.length_take, length_free_pages h]
  exact Nat.min_eq_left hroom

theorem mem_pagesToTake {p : Nat} (h : p ∈ pagesToTake s) : p < Config.poolPages ∧ p ∉ heldPages s := by
  simpa using List.mem_of_mem_take h

theorem pagesToTake_nodup (s : State) : (pagesToTake s).Nodup :=
  (List.nodup_range.filter _).sublist (List.take_sublist _ _)

theorem mem_heldPages_of_blockAt {m p : Nat} (h : p ∈ (blockAt m s).pages) : p ∈ heldPages s := by
  by_cases hm : m < s.recs.table.length
  · exact List.mem_flatMap.mpr ⟨_, blockAt_mem hm, h⟩
  · simp [blockAt, List.getD_eq_getElem?_getD, List.getElem?_eq_none (Nat.le_of_not_lt hm), BlockEntry.freeEntry] at h

/-! ### A block takes another entry (R149, R160) -/

section
variable {t : State} {n : Nat} {v : BlockEntry}

theorem blockAt_of_setAt (htable : t.recs.table = setAt n v s.recs.table) (m : Nat) :
    blockAt m t = if n = m ∧ m < s.recs.table.length then v else blockAt m s :=
  blockAt_of_modifyAt htable m

/-- The blocks and queues agree where an entry that is not SENDING is replaced by one neither SEALED nor SENDING. -/
theorem blocksMatch_of_setAt (h : BlocksMatch s) (htable : t.recs.table = setAt n v s.recs.table)
    (hold : (blockAt n s).state ≠ .sending) (hnew : v.state ≠ .sealed ∧ v.state ≠ .sending)
    (hsealed : t.recs.sealedQ.Nodup ∧ ∀ m, m ∈ t.recs.sealedQ ↔ m ∈ s.recs.sealedQ ∧ m ≠ n)
    (hsending : t.recs.sending = s.recs.sending)
    (hcount : t.recs.table.countP (fun e => decide (e.state = .filling)) ≤ 1) : BlocksMatch t := by
  obtain ⟨-, hseal, hlt, hsend, hslt, hlen, -⟩ := h
  have hat : ∀ m < 64, blockAt m t = if n = m then v else blockAt m s := fun m hm => by
    rw [blockAt_of_setAt htable, hlen]
    by_cases hnm : n = m <;> simp [hnm, hm]
  refine ⟨hsealed.1, fun m hm => ?_, fun m hm => hlt m ((hsealed.2 m).mp hm).1, fun m hm => ?_,
    by rw [hsending]; exact hslt, by rw [htable, setAt_length, hlen], hcount⟩
  · rw [hsealed.2, hat m hm, hseal m hm]
    by_cases hnm : n = m
    · simp [hnm, hnew.1]
    · simp [hnm, Ne.symm hnm]
  · rw [hsending, hat m hm, hsend m hm]
    by_cases hnm : n = m
    · subst hnm; simp [hnew.2, hold]
    · simp [hnm]

theorem recordsStay_of_setAt (htable : t.recs.table = setAt n v s.recs.table) (hold : ¬ HoldsRecord n s)
    (hpool : ∀ m, HoldsRecord m s → ∀ a, a / 256 ∈ (blockAt m s).pages →
      poolRead t.recs.pool a = poolRead s.recs.pool a) : RecordsStay s t := by
  intro m hm
  have hnm : n ≠ m := fun h => hold (h ▸ hm)
  have hat : blockAt m t = blockAt m s := by rw [blockAt_of_setAt htable, if_neg (fun h => hnm h.1)]
  exact ⟨by unfold HoldsRecord; rw [hat]; exact hm, by rw [hat], hpool m hm⟩

end

theorem countP_filling_of_none (h : fillingBlock s = none) :
    s.recs.table.countP (fun e => decide (e.state = .filling)) = 0 := by
  rw [List.countP_eq_zero]
  exact fun e he => by simpa using List.findIdx?_eq_none_iff.mp h e he

/-! ### Openings and samples (R148 to R150) -/

/-- A change of the record memory alone that leaves the requests. -/
theorem recs_kept {r : RecordMemory} (hfetch : r.fetchQ = s.recs.fetchQ)
    (hpool : PoolCanonical s → Memory.wf r.pool = true) (hmemory : MemoryWhole s → MemoryWhole { s with recs := r })
    (hrecords : MemoryWhole s → RecordsStay s { s with recs := r }) : Kept x s { s with recs := r } where
  queues := fun ⟨ha, hr, hd, hc, hf, hrest⟩ => ⟨ha, hr, hd, hc, (congrArg List.length hfetch).trans_le hf, hrest⟩
  pool := hpool
  memory := hmemory
  records _ := hrecords

/-- The entry of a block just opened (R149). -/
def openedEntry (s : State) : BlockEntry :=
  { state := .filling, pages := pagesToTake s, samples := 0, firstAge := s.age, lastOffset := 0 }

theorem openBlock_table (n : Nat) (s : State) :
    (openBlock n s).recs.table = setAt n (openedEntry s) s.recs.table ∧
      (openBlock n s).recs.freePages = s.recs.freePages - s.cfg.blockPages := ⟨rfl, rfl⟩

section
variable {n : Nat} (hrun : s.loader.phase = .running) (hfree : freeBlock s = some n)

include hfree

/-- The pages of the block opened are added to those held. -/
theorem heldPages_openBlock (h : PagesAddUp s) :
    (heldPages (openBlock n s)).Perm (heldPages s ++ pagesToTake s) := by
  obtain ⟨hn, hstate⟩ := freeBlock_state hfree
  obtain ⟨-, hsize, -⟩ := h
  have hempty : (s.recs.table.getD n BlockEntry.freeEntry).pages = [] := by
    have := hsize _ (blockAt_mem hn)
    rwa [if_pos hstate, List.length_eq_zero_iff] at this
  have hperm := flatMap_pages_setAt (openedEntry s) _ hn
  rw [hempty, List.append_nil] at hperm
  rw [heldPages, (openBlock_table n s).1]
  exact hperm

omit hfree in
theorem openBlock_fillings (hfilling : fillingBlock s = none) :
    (openBlock n s).recs.table.countP (fun e => decide (e.state = .filling)) ≤ 1 := by
  rw [(openBlock_table n s).1, setAt]
  exact (countP_modifyAt_le_succ n _).trans_eq (by rw [countP_filling_of_none hfilling])

include hrun

theorem openBlock_pagesAddUp (h : PagesAddUp s) (hfilling : fillingBlock s = none)
    (hroom : s.cfg.blockPages ≤ s.recs.freePages) : PagesAddUp (openBlock n s) := by
  have hperm := heldPages_openBlock hfree h
  have hlength := pagesToTake_length h hroom
  obtain ⟨hlen, hsize, hnodup, hbound, hsum, -, -⟩ := h
  obtain ⟨htable, hpages⟩ := openBlock_table n s
  refine ⟨by rw [htable, setAt_length, hlen], fun e he => ?_, ?_, fun p hp => ?_, ?_,
    openBlock_fillings hfilling, fun hp => absurd hrun (by simpa using hp)⟩
  · rw [htable] at he
    rw [show (openBlock n s).cfg = s.cfg by simp]
    rcases mem_setAt he with he | rfl
    · exact hsize e he
    · rw [if_neg (by simp [openedEntry])]; exact hlength
  · rw [hperm.nodup_iff, List.nodup_append]
    exact ⟨hnodup, pagesToTake_nodup s, fun p hp q hq hpq => (mem_pagesToTake hq).2 (hpq ▸ hp)⟩
  · rcases List.mem_append.mp (hperm.mem_iff.mp hp) with hp | hp
    · exact hbound p hp
    · exact (mem_pagesToTake hp).1
  · rw [hperm.length_eq, List.length_append, hlength, hpages]
    omega

omit hrun in
theorem openBlock_blocksMatch (h : BlocksMatch s) (hfilling : fillingBlock s = none) : BlocksMatch (openBlock n s) := by
  obtain ⟨-, hstate⟩ := freeBlock_state hfree
  have hq : (openBlock n s).recs.sealedQ = s.recs.sealedQ := by simp
  have hunsealed : n ∉ s.recs.sealedQ := by
    obtain ⟨-, hseal, hlt, -⟩ := h
    intro hmem
    have hsealed := (hseal n (hlt n hmem)).mp hmem
    rw [hstate] at hsealed
    cases hsealed
  refine blocksMatch_of_setAt h (openBlock_table n s).1 (by rw [hstate]; decide) (by simp [openedEntry]) ?_ (by simp)
    (openBlock_fillings hfilling)
  rw [hq]
  exact ⟨h.1, fun m => ⟨fun hm => ⟨hm, fun h => hunsealed (h ▸ hm)⟩, And.left⟩⟩

omit hrun in
theorem openBlock_stays : RecordsStay s (openBlock n s) := by
  obtain ⟨-, hstate⟩ := freeBlock_state hfree
  refine recordsStay_of_setAt (openBlock_table n s).1 (fun h => holdsRecord_ne_free h hstate) fun m _ a ha => ?_
  have hnot : a / 256 ∉ pagesToTake s := fun h => (mem_pagesToTake h).2 (mem_heldPages_of_blockAt ha)
  unfold openBlock judgePressure
  dsimp only
  exact (poolRead_blockWrite _ _ _ hnot).trans (poolRead_clearPages _ _ hnot)

theorem openBlock_kept (hfilling : fillingBlock s = none) (hroom : s.cfg.blockPages ≤ s.recs.freePages) :
    Kept x s (openBlock n s) := by
  have hpool : PoolCanonical s → Memory.wf (openBlock n s).recs.pool = true := fun h => by
    unfold openBlock judgePressure
    dsimp only
    exact blockWrite_wf _ _ _ (foldl_poolClearPage_wf _ h)
  have hwhole : MemoryWhole s → MemoryWhole (openBlock n s) := fun ⟨hpages, hblocks⟩ =>
    ⟨openBlock_pagesAddUp hrun hfree hpages hfilling hroom, openBlock_blocksMatch hfree hblocks hfilling⟩
  have hkept : Kept x s { s with recs := (openBlock n s).recs } :=
    recs_kept (by simp) hpool hwhole fun _ => openBlock_stays hfree
  exact hkept

end

theorem dropSample_kept : Kept x s (dropSample s) :=
  (show Kept x s { s with recs.gap := if s.recs.gap < 65535 then s.recs.gap + 1 else s.recs.gap } from {}).trans
    (setEvent_kept .gap)

theorem writeSample_kept {counts : List Nat} {n : Nat} (hn : (blockAt n s).state = .filling) :
    Kept x s (writeSample counts n s) := by
  have hwrite : Kept x s { s with
      recs.pool := blockWrite (blockAt n s).pages (32 + (blockAt n s).samples * sampleSize s)
        (sampleBytes (wholeMs (s.age - (blockAt n s).firstAge)) counts s) s.recs.pool
      recs.table := modifyAt (fun e => { e with
        samples := e.samples + 1, lastOffset := wholeMs (s.age - (blockAt n s).firstAge) }) n s.recs.table } := {
    pool := fun h => blockWrite_wf _ _ _ h
    memory := fun h => by
      obtain ⟨⟨hlen, -⟩, hnodup, hseal, -, hsend, -⟩ := id h
      have hn64 : n < 64 := hlen ▸ lt_of_blockAt_ne_free (by simp [hn])
      refine memoryWhole_of_restate (n := n) h rfl (fun _ => rfl) (fun _ he => he) (by simp [hn]) (by simp [hn])
        ⟨rfl, rfl, rfl⟩ hnodup (fun m => ?_) (fun m => ?_)
      · by_cases hm : n = m
        · subst hm; simpa using hseal n hn64
        · simp [hm]
      · by_cases hm : n = m
        · subst hm; simpa using hsend n hn64
        · simp [hm]
    records := fun _ h => recordsStay_of_restate (n := n) rfl (fun _ => rfl) (fun hr => hr)
      fun m hm a ha => poolRead_blockWrite _ _ _ (holdsRecord_pages_of_filling h hn hm ha) }
  unfold writeSample
  dsimp only
  split
  · exact hwrite.trans (sealBlock_kept .full none)
  · exact hwrite

theorem sealIfOld_kept : Kept x s (sealIfOld s) := by
  unfold sealIfOld
  split
  · split
    · exact sealBlock_kept .time none
    · exact .refl
  · exact .refl

theorem requiredPages_le {n : Nat} (h : requiredPages s ≤ n) : s.cfg.blockPages ≤ n := by
  unfold requiredPages at h
  split at h <;> omega

theorem storeSample_kept {counts : List Nat} (hrun : s.loader.phase = .running) : Kept x s (storeSample counts s) := by
  unfold storeSample
  split
  · exact writeSample_kept (fillingBlock_state ‹_›)
  · rename_i hfilling
    split
    · rename_i n hfree
      split
      · rename_i hroom
        refine (openBlock_kept hrun hfree hfilling (requiredPages_le hroom)).trans (writeSample_kept ?_)
        have hat := blockAt_of_setAt (s := s) (t := openBlock n s) (n := n) rfl n
        rw [hat, if_pos ⟨rfl, (freeBlock_state hfree).1⟩]
      · exact dropSample_kept
    · exact dropSample_kept

theorem takeAverages_kept (hi : x.inputs) (hrun : s.loader.phase = .running) : Kept x s (takeAverages s) := by
  have hcounts : Kept x s { s with crack.inputs := s.crack.inputs.map (fun i => { i with count := 0 }) } := {
    inputs := fun hn => absurd hi hn
    queues := fun ⟨ha, hr, hd, hc, hf, hq, hi⟩ => ⟨ha, hr, hd, hc, hf, hq, fun i hmem => by
      obtain ⟨j, hj, rfl⟩ := List.mem_map.mp hmem
      exact hi j hj⟩ }
  exact (hcounts.trans sealIfOld_kept).trans (storeSample_kept (by simpa using hrun))

theorem captureEnds_kept : Kept x s (captureEnds s) := {}

theorem scanCompleted_kept : Kept x s (scanCompleted s) := by
  unfold scanCompleted
  split
  · split
    · exact captureEnds_kept
    · exact {}
  · exact .refl

/-! ### Fetching, sending and freeing (R157 to R160) -/

theorem answerAllEmpty_kept (requests : List FetchRequest) : Kept x s (answerAllEmpty requests s) := by
  induction requests generalizing s with
  | nil => exact .refl
  | cons r rest ih => exact (placeLateReply_kept _).trans ih

theorem expireAfterSending_kept : Kept x s (expireAfterSending s) := by
  have hleft : Kept x s { s with recs.fetchQ :=
      (s.recs.fetchQ.filter (fun r => !expiredBySending s.age r)).map (fun r => { r with joinedSending := false }) } := {
    queues := fun ⟨ha, hr, hd, hc, hf, hrest⟩ =>
      ⟨ha, hr, hd, hc, by rw [List.length_map]; exact (List.length_filter_le _ _).trans hf, hrest⟩ }
  exact hleft.trans (answerAllEmpty_kept _)

/-- The block that is SENDING becomes SENT. -/
theorem sent_kept {d : Sending} (hsending : s.recs.sending = some d) :
    Kept x s { s with
      recs.table := modifyAt (fun e => { e with state := .sent }) d.block s.recs.table
      recs.sending := none } where
  memory h := by
    obtain ⟨-, hnodup, hseal, -, hsend, hslt, -⟩ := id h
    have hblock : (blockAt d.block s).state = .sending :=
      (hsend d.block (hslt d hsending)).mp (by rw [hsending]; rfl)
    refine memoryWhole_of_restate (n := d.block) h rfl (fun _ => rfl) (fun _ he => by cases he) (by simp [hblock])
      (by simp) ⟨rfl, rfl, rfl⟩ hnodup (fun m => ?_) (fun m => ?_)
    · by_cases hm : d.block = m
      · subst hm
        simpa [hblock] using hseal d.block (hslt d hsending)
      · simp [hm]
    · by_cases hm : d.block = m <;> simp [hm, hsending]
  records _ h :=
    recordsStay_of_restate (n := d.block) rfl (fun _ => rfl) (fun _ => .inr (.inr rfl)) fun _ _ _ _ => rfl

theorem sendingEnds_kept {d : Sending} (hsending : s.recs.sending = some d) : Kept x s (sendingEnds d.block s) :=
  ((sent_kept hsending).trans serveFetch_kept).trans expireAfterSending_kept

theorem dataCompleted_kept {p : DataPart} : Kept x s (dataCompleted p s) := by
  unfold dataCompleted
  split
  · exact .refl
  · rename_i d hd
    split
    · exact sendingEnds_kept hd
    · exact placeParts_kept

theorem expireRequest_kept (r : FetchRequest) : Kept x s (expireRequest r s) := by
  have hleft : Kept x s { s with recs.fetchQ := s.recs.fetchQ.erase r } := {
    queues := fun ⟨ha, hr, hd, hc, hf, hrest⟩ => ⟨ha, hr, hd, hc, List.length_erase_le.trans hf, hrest⟩ }
  exact hleft.trans (placeLateReply_kept _)

/-- The room that an immediate command finds for its REPLY (R13). -/
theorem replyQ_of_replyRoom (h : replyRoom s = true) : s.line.replyQ.length < 4 := by
  exact of_decide_eq_true (Bool.and_eq_true _ _ ▸ h).1

theorem answer_kept {head : CommandHead} {code : Nat} {result : ReplyResult} {reason : Reason} {data : List Byte}
    (h : replyRoom s = true) : Kept x s (answer head code result reason data s) :=
  placeReply_kept (replyQ_of_replyRoom h)

section
variable {head : CommandHead} (hroom : replyRoom s = true)
include hroom

theorem fetchBlock_kept {n : Nat} : Kept x s (fetchBlock head n s) := by
  unfold fetchBlock
  split
  · exact answer_kept hroom
  · exact answer_kept hroom
  · rename_i hfree hfilling
    split
    · exact answer_kept hroom
    · rename_i hidle
      refine (answer_kept hroom).trans (startSending_kept (Option.not_isSome_iff_eq_none.mp hidle) fun _ => ?_)
      show HoldsRecord n s
      unfold HoldsRecord
      cases h : (blockAt n s).state <;> simp_all

theorem fetchOldest_kept {wait : Nat} : Kept x s (fetchOldest head wait s) := by
  unfold fetchOldest
  split
  · rename_i n queue hidle hsealed
    refine (answer_kept hroom).trans (startSending_kept hidle fun h => .inl ?_)
    obtain ⟨-, -, hseal, hlt, -⟩ := h
    have hmem : n ∈ s.recs.sealedQ := by simp [hsealed]
    exact (hseal n (hlt n hmem)).mp hmem
  · split
    · exact answer_kept hroom
    · rename_i hspace
      split
      · exact {
          queues := fun ⟨ha, hr, hd, hc, _, hrest⟩ => ⟨ha, hr, hd, hc, by
            simp only [joinFetchQueue, List.length_append, List.length_singleton, Config.fetchQueueSize] at hspace ⊢
            omega, hrest⟩ }
      · exact answer_kept hroom

theorem fetchRequest_kept {which wait : Nat} : Kept x s (fetchRequest head which wait s) := by
  unfold fetchRequest
  split
  · exact answer_kept hroom
  · split
    · exact fetchOldest_kept hroom
    · exact fetchBlock_kept hroom

theorem cutRequest_kept : Kept x s (cutRequest head s) := by
  unfold cutRequest
  split
  · exact (answer_kept hroom).trans (sealBlock_kept .cut none)
  · exact answer_kept hroom

end

/-- The pages of a SEALED or SENT block given back (R160). -/
theorem freePagesOf_kept {n : Nat} (hx : x.frees)
    (hstate : (blockAt n s).state = .sealed ∨ (blockAt n s).state = .sent) : Kept x s (freePagesOf n s) where
  records hn := absurd hx hn
  memory := fun ⟨hpages, hblocks⟩ => by
    have hne : (blockAt n s).state ≠ .free := by rcases hstate with h | h <;> simp [h]
    have hn := lt_of_blockAt_ne_free hne
    have htable : (freePagesOf n s).recs.table = setAt n BlockEntry.freeEntry s.recs.table := rfl
    obtain ⟨hlen, hsize, hnodup, hbound, hsum, hcount, hphase⟩ := hpages
    have hperm : (heldPages (freePagesOf n s) ++ (blockAt n s).pages).Perm (heldPages s) := by
      have := flatMap_pages_setAt BlockEntry.freeEntry _ hn
      rwa [show BlockEntry.freeEntry.pages = [] from rfl, List.append_nil] at this
    have hsub : ∀ p ∈ heldPages (freePagesOf n s), p ∈ heldPages s := fun p hp =>
      hperm.mem_iff.mp (List.mem_append_left _ hp)
    have hfillings : (freePagesOf n s).recs.table.countP (fun e => decide (e.state = .filling)) ≤ 1 := by
      rw [htable, setAt]
      exact (countP_modifyAt_le n _ fun e he => by simp [BlockEntry.freeEntry] at he).trans hcount
    refine ⟨⟨by rw [htable, setAt_length, hlen], fun e he => ?_, ?_, fun p hp => hbound p (hsub p hp), ?_, hfillings,
      fun hp e he => ?_⟩, ?_⟩
    · rcases mem_setAt he with he | rfl
      · exact hsize e he
      · rfl
    · exact (List.nodup_append.mp (hperm.nodup_iff.mpr hnodup)).1
    · have hlength := hperm.length_eq
      rw [List.length_append, hsize _ (blockAt_mem hn), if_neg hne] at hlength
      show s.recs.freePages + s.cfg.blockPages + _ = _
      omega
    · rcases mem_setAt he with he | rfl
      · exact hphase hp e he
      · rfl
    · refine blocksMatch_of_setAt hblocks htable (by rcases hstate with h | h <;> simp [h])
        (by simp [BlockEntry.freeEntry]) ⟨hblocks.1.filter _, fun m => ?_⟩ rfl hfillings
      simp [freePagesOf, judgePressure]

theorem freeRequest_kept {head : CommandHead} {n : Nat} (hx : x.frees) (hroom : replyRoom s = true) :
    Kept x s (freeRequest head n s) := by
  unfold freeRequest
  split
  · exact answer_kept hroom
  · split
    · exact answer_kept hroom
    · exact answer_kept hroom
    · exact answer_kept hroom
    · refine (answer_kept hroom).trans (freePagesOf_kept hx ?_)
      show (blockAt n s).state = .sealed ∨ (blockAt n s).state = .sent
      cases h : (blockAt n s).state <;> simp_all

end

end Sys2Proof.Machine

/-! What the operations of the crack monitor keep (chapter 7). -/
namespace Sys2Proof.Machine

open Sys2Proof

-- One proof after the other: the threads of the check, which compiles the whole text at once, share one memory limit.
set_option Elab.async false

section
variable {x : Exempt} {s : State}

/-! ### Loops (sections 7.1 to 7.3) -/

theorem loopAt_of_modifyAt {t : State} {f : LoopRecord → LoopRecord} {l : Nat}
    (h : t.crack.loops = modifyAt f l s.crack.loops) (m : Nat) :
    loopAt m t = if l = m ∧ m < s.crack.loops.length then f (loopAt m s) else loopAt m s := by
  rw [loopAt, h, modifyAt_getD]; rfl

/-- A loop past the last reads DISABLED, so one that does not has its record. -/
theorem lt_of_loopAt_ne_disabled {l : Nat} (h : (loopAt l s).state ≠ .disabled) :
    l < s.crack.loops.length ∧ loopAt l s ∈ s.crack.loops := by
  have hl : l < s.crack.loops.length := by
    refine Nat.lt_of_not_le fun hle => h ?_
    rw [loopAt, List.getD_eq_getElem?_getD, List.getElem?_eq_none hle]
    rfl
  refine ⟨hl, ?_⟩
  rw [loopAt, List.getD_eq_getElem?_getD, List.getElem?_eq_getElem hl]
  exact List.getElem_mem hl

/-- The station runs, or the loop has been sensed, which it is in a running station only (R130). -/
theorem running_of_sensed {l : Nat} (h : CrackKept s)
    (hl : (loopAt l s).state ≠ .disabled ∨ s.loader.phase = .running) : s.loader.phase = .running := by
  rcases hl with hl | hl
  · exact Classical.not_not.mp fun hp => hl ((h.2 hp).1 _ (lt_of_loopAt_ne_disabled hl).2)
  · exact hl

/-- A change of a loop's record that leaves its state. -/
theorem updateLoop_kept {f : LoopRecord → LoopRecord} {l : Nat} (hloops : x.loops) (hf : ∀ r, (f r).state = r.state) :
    Kept x s (updateLoop f l s) where
  loops hn := absurd hloops hn
  crack := fun _ ⟨hentries, hidle⟩ => by
    refine ⟨fun m hm he => ?_, fun hp => ⟨fun r hr => ?_, (hidle hp).2⟩⟩
    · rw [loopAt_of_modifyAt (t := updateLoop f l s) rfl m]
      split
      · rw [hf]; exact hentries m hm he
      · exact hentries m hm he
    · rcases mem_modifyAt hr with hr | ⟨r', hr', rfl⟩
      · exact (hidle hp).1 r hr
      · rw [hf]; exact (hidle hp).1 r' hr'

/-- A loop leaves INTACT and DISABLED behind. -/
theorem setLoopState_kept {st : LoopState} {l : Nat} (hloops : x.loops) (hst : st ≠ .intact ∧ st ≠ .disabled)
    (hl : (loopAt l s).state ≠ .disabled ∨ s.loader.phase = .running) : Kept x s (setLoopState st l s) where
  loops hn := absurd hloops hn
  crack := fun _ h => by
    have hrun := running_of_sensed h hl
    refine ⟨fun m hm he => ?_, fun hp => absurd hrun hp⟩
    rw [loopAt_of_modifyAt (t := setLoopState st l s) rfl m]
    split
    · exact hst
    · exact h.1 m hm he

theorem entriesStay_fillEntry (l : Nat) : EntriesStay s (fillEntry l s) := by
  intro m hm e he
  unfold fillEntry
  split
  · exact he
  · rename_i hempty
    show (setAt l _ s.crack.entries).getD m none = _
    rw [setAt_getD, if_neg]
    · exact he
    · rintro ⟨rfl, -⟩
      rw [he] at hempty
      exact hempty rfl

/-- An INTACT loop breaks: its entry is filled, unless it was, and the loop is BROKEN (R121, R123). -/
theorem broken_kept {l : Nat} (hfills : x.entries) (hloops' : x.loops) (hl : (loopAt l s).state = .intact) :
    Kept x s (setLoopState .broken l (fillEntry l s)) := by
  have hne : (loopAt l s).state ≠ .disabled := by simp [hl]
  have hlen := (lt_of_loopAt_ne_disabled hne).1
  have hloops : (setLoopState .broken l (fillEntry l s)).crack.loops =
      modifyAt (fun r => { r with state := .broken }) l s.crack.loops := by
    unfold fillEntry; split <;> rfl
  have hother : ∀ m, m ≠ l → (setLoopState .broken l (fillEntry l s)).crack.entries.getD m none =
      s.crack.entries.getD m none := by
    intro m hm
    unfold fillEntry
    split
    · rfl
    · show (setAt l _ s.crack.entries).getD m none = _
      rw [setAt_getD, if_neg fun h => hm h.1.symm]
  have hcrack : CrackKept s → CrackKept (setLoopState .broken l (fillEntry l s)) := fun h => by
    have hrun := running_of_sensed h (.inl hne)
    refine ⟨fun m hm he => ?_, fun hp => absurd hrun (by simpa using hp)⟩
    rw [loopAt_of_modifyAt hloops m]
    by_cases hml : l = m
    · rw [if_pos ⟨hml, hml ▸ hlen⟩]; simp
    · rw [if_neg fun h => hml h.1]
      exact h.1 m hm (by rwa [hother m (Ne.symm hml)] at he)
  have hentries : EntriesStay s (setLoopState .broken l (fillEntry l s)) := entriesStay_fillEntry l
  unfold fillEntry at hcrack hentries ⊢
  split
  · rename_i hfilled
    rw [if_pos hfilled] at hcrack hentries
    exact { crack := fun _ => hcrack, loops := fun hn => absurd hloops' hn }
  · rename_i hempty
    rw [if_neg hempty] at hcrack hentries
    exact {
      crack := fun _ => hcrack
      entries := hentries
      filled := fun hn => absurd hfills hn
      loops := fun hn => absurd hloops' hn }

theorem loopBreaks_kept {l : Nat} (hx : x.ends) (hfills : x.entries) (hloops : x.loops)
    (hl : (loopAt l s).state = .intact) : Kept x s (loopBreaks l s) :=
  (((broken_kept hfills hloops hl).trans (setEvent_kept .crackBreak)).trans (raiseOwn_kept fun _ => hx)).trans (causeOn_kept _)

theorem loopFaults_kept {l : Nat} (hloops : x.loops)
    (hl : (loopAt l s).state ≠ .disabled ∨ s.loader.phase = .running) :
    Kept x s (loopFaults l s) :=
  (setLoopState_kept hloops (by decide) hl).trans (raiseOwn_kept fun h => by cases h)

section
variable (hx : x.ends) (hfills : x.entries) (hloops : x.loops)
include hx hfills hloops

theorem actOnReading_kept {l : Nat} {reading : LoopReading} : Kept x s (actOnReading l reading s) := by
  unfold actOnReading
  split
  · exact loopBreaks_kept hx hfills hloops ‹_›
  · rename_i h; exact loopFaults_kept hloops (.inl (by simp [h]))
  · rename_i h; exact (loopFaults_kept hloops (.inl (by simp [h]))).trans (causeOff_kept _)
  · rename_i h; exact loopFaults_kept hloops (.inl (by simp [h]))
  · exact .refl

theorem takeReading_kept {l : Nat} {reading : LoopReading} : Kept x s (takeReading l reading s) :=
  (updateLoop_kept (f := fun r => { r with taken := some reading, candidate := none }) hloops fun _ => rfl).trans
    (actOnReading_kept hx hfills hloops)

theorem senseLoop_kept {l : Nat} {reading : LoopReading} : Kept x s (senseLoop l reading s) := by
  unfold senseLoop
  dsimp only
  split
  · exact .refl
  · split
    · exact updateLoop_kept hloops fun _ => rfl
    · split
      · exact takeReading_kept hx hfills hloops
      · exact updateLoop_kept hloops fun _ => rfl

theorem senseLoops_kept (readings : List LoopReading) (l : Nat) : Kept x s (senseLoops l readings s) := by
  induction readings generalizing l s with
  | nil => exact .refl
  | cons r rest ih => exact (senseLoop_kept hx hfills hloops).trans (ih (l + 1))

theorem takeCandidate_kept {l : Nat} : Kept x s (takeCandidate l s) := by
  unfold takeCandidate
  split
  · split
    · exact takeReading_kept hx hfills hloops
    · exact .refl
  · exact .refl

end

theorem acceptRequest_kept {head : CommandHead} {l : Nat} (hloops : x.loops) (hroom : replyRoom s = true) :
    Kept x s (acceptRequest head l s) := by
  unfold acceptRequest
  split
  · exact answer_kept hroom
  · split
    · rename_i h
      have hanswered : (loopAt l (answer head acceptCode .done .none [] s)).state = .broken := h
      exact ((answer_kept hroom).trans (setLoopState_kept hloops (by decide) (.inl (by rw [hanswered]; decide)))).trans
        (causeOff_kept _)
    · exact answer_kept hroom

/-! ### The first reading (R120) -/

section
variable (hloops : x.loops)
include hloops

theorem setLoopState_kept_of_reading {st : LoopState} {l : Nat} :
    Kept { x with reads := True } s (setLoopState st l s) where
  loops hn := absurd hloops hn
  crack hx := absurd trivial hx

theorem startReadLoop_kept {l : Nat} {reading : LoopReading} :
    Kept { x with reads := True } s (startReadLoop l reading s) := by
  have htaken : Kept { x with reads := True } s
      (updateLoop (fun r => { r with taken := some reading, candidate := none }) l s) :=
    updateLoop_kept hloops fun _ => rfl
  unfold startReadLoop
  dsimp only
  split
  · split
    · exact htaken.trans (setLoopState_kept_of_reading hloops)
    · exact (htaken.trans (setLoopState_kept_of_reading hloops)).trans (raiseOwn_kept fun h => by cases h)
  · exact .refl

omit hloops in
theorem startReadLoop_entries (l : Nat) (reading : LoopReading) (s : State) :
    (startReadLoop l reading s).crack.entries = s.crack.entries := by
  unfold startReadLoop
  dsimp only
  split
  · split <;> simp [setLoopState, updateLoop, loopFaults, raiseOwn]
  · rfl

theorem startReadLoops_kept (readings : List LoopReading) (l : Nat) :
    Kept { x with reads := True } s (startReadLoops l readings s) := by
  induction readings generalizing l s with
  | nil => exact .refl
  | cons r rest ih => exact (startReadLoop_kept hloops).trans (ih (l + 1))

omit hloops in
theorem startReadLoops_entries (readings : List LoopReading) (l : Nat) (s : State) :
    (startReadLoops l readings s).crack.entries = s.crack.entries := by
  induction readings generalizing l s with
  | nil => rfl
  | cons r rest ih => exact (ih (l + 1) _).trans (startReadLoop_entries l r s)

end

/-! ### Acoustic emission (section 7.4) -/

/-- A change of an AE input that leaves no more than 32 hits. -/
theorem updateAe_kept {f : AeInput → AeInput} {i : Nat} (hin : x.inputs)
    (hf : (∀ a ∈ s.crack.inputs, a.hits.length ≤ Config.hitListSize) → ∀ a ∈ s.crack.inputs,
      (f a).hits.length ≤ Config.hitListSize) : Kept x s (updateAe f i s) where
  inputs hn := absurd hin hn
  queues := fun ⟨ha, hr, hd, hc, hfq, hq, hi⟩ => ⟨ha, hr, hd, hc, hfq, hq, fun a hmem => by
    rcases mem_modifyAt hmem with h | ⟨b, hb, rfl⟩
    · exact hi a h
    · exact hf hi b hb⟩

theorem bandChanged_kept {i : Nat} {old new : AeBand} (hx : x.ends) : Kept x s (bandChanged i old new s) := by
  unfold bandChanged
  split
  · exact setEvent_kept .aeElevated
  · exact ((setEvent_kept .aeBurst).trans (raiseOwn_kept fun _ => hx)).trans (causeOn_kept _)
  · exact ((setEvent_kept .aeBurst).trans (raiseOwn_kept fun _ => hx)).trans (causeOn_kept _)
  · exact causeOff_kept _
  · exact causeOff_kept _
  · exact .refl

theorem judgeBand_kept {i : Nat} (hx : x.ends) (hin : x.inputs) : Kept x s (judgeBand i s) := by
  unfold judgeBand
  dsimp only
  split
  · exact .refl
  · exact (updateAe_kept (f := fun a => { a with band := bandOf (aeAt i s).hits.length (aeCfg i s) })
      hin fun h a ha => h a ha).trans (bandChanged_kept hx)

theorem agedHits_length (i : Nat) (h : ∀ a ∈ s.crack.inputs, a.hits.length ≤ Config.hitListSize) :
    (agedHits i s).length ≤ Config.hitListSize := by
  refine (List.length_filter_le _ _).trans ?_
  rw [aeAt, List.getD_eq_getElem?_getD]
  cases hi : s.crack.inputs[i]? with
  | none => exact Nat.zero_le _
  | some a => exact h a (List.mem_of_getElem? hi)

theorem ageInput_kept {i : Nat} (hx : x.ends) (hin : x.inputs) : Kept x s (ageInput i s) := by
  unfold ageInput
  dsimp only
  split
  · exact .refl
  · exact (updateAe_kept hin fun h _ _ => agedHits_length i h).trans (judgeBand_kept hx hin)

/-- A list of at most 32 hits that makes room takes one more (R127). -/
theorem length_hits_room {kept : List Nat} (now : Nat) (h : kept.length ≤ Config.hitListSize) :
    ((if Config.hitListSize ≤ kept.length then kept.drop 1 else kept) ++ [now]).length ≤ Config.hitListSize := by
  have hsize : 0 < Config.hitListSize := by decide
  rw [List.length_append, List.length_singleton]
  split
  · rw [List.length_drop]; omega
  · omega

theorem acceptHit_kept {i : Nat} (hx : x.ends) (hin : x.inputs) : Kept x s (acceptHit i s) := by
  unfold acceptHit
  dsimp only
  refine Kept.trans (updateAe_kept hin ?_) (judgeBand_kept hx hin)
  intro h a _
  have haged := agedHits_length i h
  show ((if Config.hitListSize ≤ (agedHits i s).length then (agedHits i s).drop 1 else agedHits i s) ++
    [s.age]).length ≤ _
  exact length_hits_room s.age haged

theorem takePulse_kept {i : Nat} (hx : x.ends) (hin : x.inputs) : Kept x s (takePulse i s) := by
  unfold takePulse
  split
  · exact .refl
  · exact acceptHit_kept hx hin

theorem loopScanEvent_kept {readings : List LoopReading} (hx : x.ends) (hfills : x.entries) (hloops : x.loops)
    (hin : x.inputs) : Kept x s (loopScanEvent readings s) := by
  have hpins : Kept x s { s with pins.loopReadings := readings.take 8 } := {}
  have hsensed := hpins.trans (senseLoops_kept hx hfills hloops (readings.take 8) 0)
  exact (((hsensed.trans (ageInput_kept (i := 0) hx hin)).trans (ageInput_kept (i := 1) hx hin)).trans
    (ageInput_kept (i := 2) hx hin)).trans (ageInput_kept (i := 3) hx hin)

end

end Sys2Proof.Machine

/-! What the operations of the strain scanner keep (chapter 6). -/
namespace Sys2Proof.Machine

open Sys2Proof

-- One proof after the other: the threads of the check, which compiles the whole text at once, share one memory limit.
set_option Elab.async false

section
variable {x : Exempt} {s : State}

/-! ### Averages, limits and settle (sections 6.3 to 6.5) -/

theorem latestAverages_of_updateEnabled {t : State} {f : Nat → Channel → Channel}
    (hc : t.scan.channels = (updateEnabled f s).scan.channels) (hf : ∀ c ch, (f c ch).latest = ch.latest) :
    latestAverages t = latestAverages s :=
  latestAverages_of_mapFrom hc fun c ch => by
    split
    · exact hf c ch
    · rfl

theorem updateEnabled_kept {f : Nat → Channel → Channel}
    (hf : ¬ x.averages → ∀ c ch, (f c ch).latest = ch.latest := by exact fun _ _ _ => rfl) : Kept x s (updateEnabled f s) where
  averages hn := latestAverages_of_updateEnabled rfl (hf hn)

theorem updateChannel_kept {f : Channel → Channel} {c : Nat}
    (hf : ∀ ch, (f ch).latest = ch.latest := by exact fun _ => rfl) : Kept x s (updateChannel f c s) where
  averages _ := latestAverages_of_modifyAt rfl hf

theorem accumulateScan_kept (samples : List (Int × Bool)) : Kept x s (accumulateScan samples s) where
  averages _ := latestAverages_of_updateEnabled rfl fun _ _ => rfl

theorem exceedReached_kept {c : Nat} (hx : x.ends) : Kept x s (exceedReached c s) := by
  unfold exceedReached
  split
  · exact Kept.trans updateChannel_kept (causeOff_kept _)
  · exact ((raiseOwn_kept fun _ => hx).trans updateChannel_kept).trans (causeOn_kept _)

theorem limitCheck_kept {c : Nat} (hx : x.ends) : Kept x s (limitCheck c s) := by
  unfold limitCheck
  dsimp only
  split
  · split
    · exact updateChannel_kept
    · split
      · exact exceedReached_kept hx
      · exact updateChannel_kept
  · exact .refl

theorem limitChecks_kept (hx : x.ends) (c n : Nat) : Kept x s (limitChecks c n s) := by
  induction n generalizing c s with
  | zero => exact .refl
  | succ n ih => exact (limitCheck_kept hx).trans (ih (c + 1))

theorem completeRun_kept (hx : x.ends) (hi : x.inputs) (ha : x.averages) (hrun : s.loader.phase = .running) : Kept x s (completeRun s) := by
  have hchecked : Kept x s (limitChecks 0 16 (updateEnabled (fun _ ch => formAverage s.scan.runLength ch) s)) :=
    (updateEnabled_kept fun hn => absurd ha hn).trans (limitChecks_kept hx 0 16)
  have hnext : ∀ u : State, Kept x u { u with scan.runLength := decimation u, scan.runTaken := 0 } := fun _ => {}
  exact (hchecked.trans (takeAverages_kept hi (by rw [hchecked.loader]; exact hrun))).trans (hnext _)

theorem completeIfDue_kept (hx : x.ends) (hi : x.inputs) (ha : x.averages) (hrun : s.loader.phase = .running) : Kept x s (completeIfDue s) := by
  unfold completeIfDue
  split
  · exact completeRun_kept hx hi ha hrun
  · exact .refl

/-- The settle window runs in DWELL only, and there SETTLED may be set. -/
theorem settleWindowEnds_kept (hruns : s.scan.settleTimer.isSome = true) : Kept x s (settleWindowEnds s) := by
  unfold settleWindowEnds
  split
  · have hsettled : Kept x s { s with scan.settled := true, scan.settleTimer := none } := {
      settle := fun _ h _ => h (.inr hruns) }
    exact hsettled.trans sequencerOnSettled_kept
  · exact {
      settle := fun _ h _ => h (.inr hruns)
      averages := fun _ => latestAverages_of_mapFrom rfl fun _ _ => rfl }

/-! ### ZERO (section 6.6) -/

theorem judgeZero_kept (hx : x.ends) (hcurrent : s.cmd.current.map (fun q => q.kind) ≠ some .shunt) :
    Kept x s (judgeZero s) := by
  unfold judgeZero
  split
  · exact { averages := fun _ => latestAverages_of_updateEnabled rfl fun _ _ => rfl }
  · exact endCommand_kept hx fun _ => .inr hcurrent

theorem zeroCompletes_kept {z : ZeroRun} (hx : x.ends) (hz : x.loadZero) : Kept x s (zeroCompletes z s) := by
  have hzeros : Kept x s (updateEnabled (fun _ ch => { ch with zero := roundDiv ch.rawSum 64 }) s) :=
    updateEnabled_kept
  exact ((hzeros.trans { loadZero := fun hn => absurd hz hn }).trans (setEvent_kept .zeroDone)).trans (endCommandOf_kept hx fun _ => .inr (by decide))

theorem advanceZero_kept {codes : List Int} (hx : x.ends) (hz : x.loadZero) : Kept x s (advanceZero codes s) := by
  unfold advanceZero
  split
  · exact .refl
  · split
    · dsimp only
      split
      · exact Kept.trans updateEnabled_kept (zeroCompletes_kept hx hz)
      · exact { averages := fun _ => latestAverages_of_updateEnabled rfl fun _ _ => rfl }
    · exact (show Kept x s { s with scan.zero := none } from {}).trans (endCommandOf_kept hx fun _ => .inr (by decide))

theorem endZero_kept (hx : x.ends) (hz : x.loadZero) : Kept x s (endZero s) := by
  unfold endZero
  split
  · split
    · exact zeroCompletes_kept hx hz
    · exact .refl
  · exact .refl

/-! ### The excitation claim (section 6.7) -/

theorem placeShuntClaim_of_empty (h : s.line.shuntSlot = none) :
    placeShuntClaim s =
      { s with line.shuntSlot := some { isDone := false, group := s.cfg.excitation }, scan.claimHeld := false } := by
  simp [placeShuntClaim, h]

theorem placeShuntClaim_of_occupied {t : ShuntTelegram} (h : s.line.shuntSlot = some t) :
    placeShuntClaim s = { s with scan.claimHeld := true } := by
  simp [placeShuntClaim, h]

theorem placeShuntClaim_kept : Kept { x with shunt := True } s (placeShuntClaim s) := by
  unfold placeShuntClaim
  split <;> exact { shunt := fun hx => absurd trivial hx }

/-- What the slot holds in WAITING and in the spans: nothing. -/
theorem slotClear_iff : slotClear s = true ↔
    s.line.shuntSlot = none ∧ s.line.shuntDoneBehind = false ∧ s.scan.claimHeld = false := by
  simp [slotClear, and_assoc]

theorem slotMatches_of_waiting (h : s.scan.shunt = .waiting) : slotMatches s = slotClear s := by
  simp [slotMatches, h]

theorem slotMatches_of_active (h : shuntStateActive s.scan.shunt = true) : slotMatches s = slotClear s := by
  unfold slotMatches
  split <;> simp_all [shuntStateActive]

theorem slotMatches_of_none (h : s.scan.shunt = .none) :
    slotMatches s = (slotLeftOver s && !s.scan.claimHeld) := by
  simp [slotMatches, h]

/-- The group is released: a station that does not hold the claim is guarded as before, and one in WAITING claims
again (R108, R111). -/
theorem holderReleased_kept
    (h : ¬ x.shunt → ShuntGuarded s → shuntStateActive s.scan.shunt = true → s.cfg.excitation = 0) :
    Kept x s (holderReleased s) := by
  have hrelease : Kept { x with shunt := True } s { s with scan.holder := none } :=
    { shunt := fun hx => absurd trivial hx }
  unfold holderReleased
  dsimp only
  split
  · rename_i hwaiting
    have hclaims : Kept { x with shunt := True } s
        (placeShuntClaim { s with scan.holder := none, scan.shunt := .claiming }) :=
      (hrelease.trans { shunt := fun hx => absurd trivial hx }).trans placeShuntClaim_kept
    refine hclaims.restoreShunt fun hg => ?_
    obtain ⟨hactive, hcurrent, hpins, -, hslot, hbehind, hgroup, hidle⟩ := hg
    rw [slotMatches_of_waiting hwaiting, slotClear_iff] at hslot
    obtain ⟨hempty, hnot, hfree⟩ := hslot
    have hexc : s.cfg.excitation ≠ 0 := fun he => (hgroup he).2.2 hwaiting
    have hrun : s.loader.phase = .running := Classical.not_not.mp fun hp => by
      have := (hidle hp).1
      rw [hwaiting] at this
      cases this
    rw [placeShuntClaim_of_empty (by exact hempty)]
    refine ⟨?_, fun _ => hcurrent (by rw [hwaiting]; decide), fun hp => ?_, fun ha => ?_, ?_, hbehind,
      fun he => absurd he hexc, fun hp => absurd hrun hp⟩
    · rw [hwaiting] at hactive; exact hactive
    · rcases hpins hp with h | h <;> rw [hwaiting] at h <;> cases h
    · simp [shuntStateActive] at ha
    · simp [slotMatches, hnot]
  · by_cases hx : x.shunt
    · exact { hrelease with shunt := fun hn => absurd hx hn }
    · refine hrelease.restoreShunt fun hg => ?_
      have hfree := h hx hg
      obtain ⟨hactive, hcurrent, hpins, -, hslot, hbehind, hgroup, hidle⟩ := hg
      exact ⟨hactive, hcurrent, hpins, fun ha => .inl (hfree ha), hslot, hbehind, hgroup,
        fun hp => ⟨(hidle hp).1, rfl, (hidle hp).2.2⟩⟩

/-- A holder other than the own station holds no claim for a shunt that runs. -/
theorem excitation_zero_of_other {station : Nat} (hne : station ≠ ownStation s) (hholder : isHolder station s = true)
    (hg : ShuntGuarded s) (hactive : shuntStateActive s.scan.shunt = true) : s.cfg.excitation = 0 := by
  obtain ⟨-, -, -, hclaim, -⟩ := hg
  refine (hclaim hactive).resolve_right fun hown => hne ?_
  unfold isHolder at hholder hown
  split at hholder
  · rename_i hh hs
    rw [hs] at hown
    exact (of_decide_eq_true hholder).symm.trans (of_decide_eq_true hown)
  · cases hholder

theorem claimCompletes_kept {sender : Nat} (hrun : s.loader.phase = .running) : Kept x s (claimCompletes sender s) := by
  unfold claimCompletes
  split
  · rename_i hnone
    exact {
      shunt := fun _ ⟨hactive, hcurrent, hpins, hclaim, hrest⟩ =>
        ⟨hactive, hcurrent, hpins, fun ha => (hclaim ha).imp_right fun hown => by simp [isHolder, hnone] at hown,
          hrest.1, hrest.2.1, hrest.2.2.1, fun hp => absurd hrun hp⟩ }
  · exact .refl

theorem doneCompletes_kept {sender : Nat} (hne : sender ≠ ownStation s) : Kept x s (doneCompletes sender s) := by
  unfold doneCompletes
  split
  · exact holderReleased_kept fun _ => excitation_zero_of_other hne ‹_›
  · exact .refl

theorem holderAbsent_kept {station : Nat} (hne : station ≠ ownStation s) : Kept x s (holderAbsent station s) := by
  unfold holderAbsent
  split
  · exact holderReleased_kept fun _ => excitation_zero_of_other hne ‹_›
  · exact .refl

theorem holderQuiet_kept {station : Nat} {active : Bool} (hne : station ≠ ownStation s) :
    Kept x s (holderQuiet station active s) := by
  unfold holderQuiet
  split
  · rename_i h
    exact holderReleased_kept fun _ => excitation_zero_of_other hne h.1
  · exact .refl

/-! ### Shunt calibration (section 6.8) -/

theorem enterBefore_kept : Kept { x with shunt := True } s (enterBefore s) where
  averages _ := latestAverages_of_mapFrom rfl fun _ _ => rfl
  shunt hx := absurd trivial hx

theorem judgeShunt_kept (hx : x.ends) : Kept { x with shunt := True } s (judgeShunt s) := by
  unfold judgeShunt
  split
  · split
    · exact enterBefore_kept
    · exact (show Kept { x with shunt := True } s { s with scan.shunt := .claiming } from
        { shunt := fun hn => absurd trivial hn }).trans placeShuntClaim_kept
  · exact endCommand_kept hx fun hn => absurd trivial hn

/-- The station whose shunt enters BEFORE, with the slot clear and the claim held where the group asks for one. -/
theorem shuntGuarded_enterBefore (hcurrent : s.cmd.current.map (fun q => q.kind) = some .shunt)
    (hpins : s.pins.shunts = 0) (hclaim : s.cfg.excitation = 0 ∨ isHolder (ownStation s) s = true)
    (hslot : slotClear s = true) (hrun : s.loader.phase = .running) : ShuntGuarded (enterBefore s) := by
  obtain ⟨hempty, hbehind, -⟩ := slotClear_iff.mp hslot
  refine ⟨rfl, fun _ => hcurrent, fun hp => absurd hpins hp, fun _ => hclaim, hslot, fun hb => ?_,
    fun _ => ⟨hempty, by simp [enterBefore], by simp [enterBefore]⟩, fun hp => absurd hrun hp⟩
  exact absurd (hbehind.symm.trans hb) (by decide)

/-- A SHUNT is started in a station in which none runs (R110). -/
theorem shuntGuarded_judgeShunt (hg : ShuntGuarded s) (hnone : s.scan.shunt = .none)
    (hcurrent : s.cmd.current.map (fun q => q.kind) = some .shunt) (hrun : s.loader.phase = .running) :
    ShuntGuarded (judgeShunt s) := by
  have hguard := hg
  obtain ⟨hactive, -, hpins, -, hslot, hbehind, hgroup, -⟩ := hg
  have hpin : s.pins.shunts = 0 := by
    by_contra hp
    rcases hpins hp with h | h <;> rw [hnone] at h <;> cases h
  rw [slotMatches_of_none hnone, Bool.and_eq_true, Bool.not_eq_true'] at hslot
  obtain ⟨hleft, hheld⟩ := hslot
  unfold judgeShunt
  split
  · split
    · rename_i hexc
      have hempty := (hgroup hexc).1
      rw [slotLeftOver_of_none hempty, Bool.not_eq_true'] at hleft
      exact shuntGuarded_enterBefore hcurrent hpin (.inl hexc) (slotClear_iff.mpr ⟨hempty, hleft, hheld⟩) hrun
    · rename_i hexc
      have hinactive : s.scan.shuntActive = false := by rw [hactive, hnone]; rfl
      cases hs : s.line.shuntSlot with
      | none =>
        rw [slotLeftOver_of_none hs, Bool.not_eq_true'] at hleft
        rw [placeShuntClaim_of_empty (by exact hs)]
        exact ⟨hinactive, fun _ => hcurrent, fun hp => absurd hpin hp, fun ha => by simp [shuntStateActive] at ha,
          by simp [slotMatches, hleft], hbehind, fun he => absurd he hexc, fun hp => absurd hrun hp⟩
      | some t =>
        rw [placeShuntClaim_of_occupied (t := t) (by exact hs)]
        refine ⟨hinactive, fun _ => hcurrent, fun hp => absurd hpin hp, fun ha => by simp [shuntStateActive] at ha,
          ?_, hbehind, fun he => absurd he hexc, fun hp => absurd hrun hp⟩
        show (slotLeftOver s && s.line.shuntSlot.isSome) = true
        rw [hleft, hs]; rfl
  · exact (endCommand_kept (x := { ends := True }) trivial fun _ => .inl hnone).shunt id hguard

/-- The switches are on from the end of BEFORE to that of ON (R112). -/
theorem spanEnds_kept : Kept x s (spanEnds s) := by
  have current : ∀ {st : ShuntState}, st ≠ .none → s.scan.shunt = st → ShuntGuarded s →
      s.cmd.current.map (fun q => q.kind) = some .shunt := fun hne hst hg => hg.2.1 (hst ▸ hne)
  unfold spanEnds
  split
  · rename_i hst
    exact {
      shunt := fun _ hg => by
        have hcurrent := current (by decide) hst hg
        obtain ⟨hactive, -, -, hclaim, hslot, hbehind, hgroup, hidle⟩ := hg
        rw [hst] at hactive hclaim hgroup hidle
        rw [slotMatches_of_active (by rw [hst]; rfl)] at hslot
        exact ⟨hactive, fun _ => hcurrent, fun _ => .inl rfl, hclaim, hslot, hbehind,
          fun he => ⟨(hgroup he).1, by simp, by simp⟩, fun hp => absurd (hidle hp).1 (by decide)⟩ }
  · rename_i hst
    exact {
      shunt := fun _ hg => by
        have hcurrent := current (by decide) hst hg
        obtain ⟨hactive, -, -, hclaim, hslot, hbehind, hgroup, hidle⟩ := hg
        rw [hst] at hactive hclaim hgroup hidle
        rw [slotMatches_of_active (by rw [hst]; rfl)] at hslot
        exact ⟨hactive, fun _ => hcurrent, fun _ => .inr rfl, hclaim, hslot, hbehind,
          fun he => ⟨(hgroup he).1, by simp, by simp⟩, fun hp => absurd (hidle hp).1 (by decide)⟩ }
  · rename_i hst
    exact {
      shunt := fun _ hg => by
        have hcurrent := current (by decide) hst hg
        obtain ⟨hactive, -, -, hclaim, hslot, hbehind, hgroup, hidle⟩ := hg
        rw [hst] at hactive hclaim hgroup hidle
        rw [slotMatches_of_active (by rw [hst]; rfl)] at hslot
        exact ⟨hactive, fun _ => hcurrent, fun hp => absurd rfl hp, hclaim, hslot, hbehind,
          fun he => ⟨(hgroup he).1, by simp, by simp⟩, fun hp => absurd (hidle hp).1 (by decide)⟩ }
  · exact .refl

/-- A raise of NOTE leaves the scanner. -/
theorem raiseOwn_note_scan (kind : AlarmKind) (channel : Nat) (s : State) :
    (raiseOwn kind channel .note s).scan = s.scan := by
  rw [raiseOwn, raiseAlarm_eq]
  split
  · simp
  · rename_i hrise
    have hnew : latchMax s.alarm.latch (ownRaise kind channel .note s).action = .note := by
      revert hrise
      unfold latchMax
      split <;> simp [ownRaise]
    rw [hnew, handLatch_note]
    simp

theorem channelFails_kept {c : Nat} : Kept x s (channelFails c s) :=
  (Kept.trans updateChannel_kept (causeOff_kept _)).trans (raiseOwn_kept fun h => by cases h)

theorem judgeChannel_kept {c : Nat} : Kept x s (judgeChannel c s) := by
  unfold judgeChannel
  dsimp only
  split
  · split
    · exact updateChannel_kept
    · exact channelFails_kept
  · exact .refl

theorem judgeChannel_shunt (c : Nat) (s : State) :
    (judgeChannel c s).scan.shunt = s.scan.shunt ∧ (judgeChannel c s).scan.holder = s.scan.holder := by
  unfold judgeChannel
  dsimp only
  split
  · split
    · exact ⟨rfl, rfl⟩
    · rw [channelFails, raiseOwn_note_scan]; exact ⟨rfl, rfl⟩
  · exact ⟨rfl, rfl⟩

theorem judgeChannels_kept (c n : Nat) : Kept x s (judgeChannels c n s) := by
  induction n generalizing c s with
  | zero => exact .refl
  | succ n ih => exact judgeChannel_kept.trans (ih (c + 1))

theorem judgeChannels_shunt (c n : Nat) (s : State) :
    (judgeChannels c n s).scan.shunt = s.scan.shunt ∧ (judgeChannels c n s).scan.holder = s.scan.holder := by
  induction n generalizing c s with
  | zero => exact ⟨rfl, rfl⟩
  | succ n ih =>
    obtain ⟨hshunt, hholder⟩ := judgeChannel_shunt c s
    obtain ⟨ihshunt, ihholder⟩ := ih (c + 1) (judgeChannel c s)
    exact ⟨ihshunt.trans hshunt, ihholder.trans hholder⟩

/-- After the judgement of the channels the group is released: a SHUNT_DONE takes the empty slot (R114). -/
theorem shuntConcluded_kept (hx : x.ends) (hst : s.scan.shunt = .offSettle) :
    Kept x s (endCommandOf .shunt .done .none (leaveShunt (if s.cfg.excitation = 0 then s else placeShuntDone s))) := by
  have hplaced : Kept { x with shunt := True } s (if s.cfg.excitation = 0 then s else placeShuntDone s) := by
    split
    · exact .refl
    · exact placeShuntDone_kept
  have hends : Kept { x with shunt := True } s (endCommandOf .shunt .done .none
      (leaveShunt (if s.cfg.excitation = 0 then s else placeShuntDone s))) :=
    (hplaced.trans leaveShunt_kept).trans (endCommandOf_kept (x := { x with shunt := True }) hx fun h => absurd trivial h)
  refine hends.restoreShunt fun hg => ?_
  obtain ⟨-, -, -, -, hslot, hbehind, -, hidle⟩ := hg
  have hrun : s.loader.phase = .running := Classical.not_not.mp fun hp => by
    have := (hidle hp).1
    rw [hst] at this
    cases this
  rw [slotMatches_of_active (by rw [hst]; rfl), slotClear_iff] at hslot
  obtain ⟨hempty, hnot, hfree⟩ := hslot
  have hreleased : SlotReleased (if s.cfg.excitation = 0 then s else placeShuntDone s) := by
    split
    · exact ⟨by rw [slotLeftOver_of_none hempty, hnot]; rfl, hfree, hbehind, fun _ => hempty⟩
    · rename_i hexc
      exact placeShuntDone_released hfree hexc hbehind (fun _ => hnot) (fun _ _ _ => hnot) fun _ _ _ => hnot
  obtain ⟨hleft, hheld, hsent, hgroup⟩ := hreleased
  refine shuntGuarded_of_released ⟨?_, ?_, ?_, ?_⟩ (by simp) (by simp) (by simp) fun hp => absurd hrun ?_
  · simpa [slotLeftOver] using hleft
  · simpa using hheld
  · simpa [inTransmission] using hsent
  · simpa using hgroup
  · have hphase : (if s.cfg.excitation = 0 then s else placeShuntDone s).loader = s.loader := hplaced.loader
    simpa [hphase] using hp

theorem shuntEnds_kept (hx : x.ends) (hst : s.scan.shunt = .offSettle) : Kept x s (shuntEnds s) :=
  (judgeChannels_kept 0 16).trans (shuntConcluded_kept hx ((judgeChannels_shunt 0 16 s).1.trans hst))

theorem advanceShunt_kept {samples : List (Int × Bool)} (hx : x.ends) : Kept x s (advanceShunt samples s) := by
  unfold advanceShunt
  split
  · dsimp only
    split
    · refine Kept.trans ?_ spanEnds_kept
      exact { averages := fun _ => latestAverages_of_updateEnabled rfl fun _ _ => rfl }
    · exact { averages := fun _ => latestAverages_of_updateEnabled rfl fun _ _ => rfl }
  · split
    · exact spanEnds_kept
    · exact {}
  · dsimp only
    split
    · refine Kept.trans ?_ spanEnds_kept
      exact { averages := fun _ => latestAverages_of_updateEnabled rfl fun _ _ => rfl }
    · exact { averages := fun _ => latestAverages_of_updateEnabled rfl fun _ _ => rfl }
  · split
    · exact shuntEnds_kept hx ‹_›
    · exact {}
  · exact .refl

/-! ### The scan (R96) -/

theorem scanEvent_kept {codes : List Int} {loadCode : Int} (hx : x.ends) (hi : x.inputs) (ha : x.averages)
    (hz : x.loadZero) (hrun : s.loader.phase = .running) :
    Kept x s (scanEvent codes loadCode s) := by
  have htaken : Kept x s { s with pins.bridgeCodes := takenCodes codes, pins.loadCode := loadCode } := {}
  have hsummed := htaken.trans (accumulateScan_kept (scanSamples codes s))
  have hdue := hsummed.trans (completeIfDue_kept hx hi ha hrun)
  have hzero := hdue.trans (advanceZero_kept (codes := codes) hx hz)
  exact (hzero.trans (advanceShunt_kept (samples := scanSamples codes s) hx)).trans scanCompleted_kept

end

end Sys2Proof.Machine

/-! What the operations of the peer table, the alarm unit's requests and the line unit keep (chapters 1, 2 and 8). -/
namespace Sys2Proof.Machine

open Sys2Proof

-- One proof after the other: the threads of the check, which compiles the whole text at once, share one memory limit.
set_option Elab.async false

section
variable {x : Exempt} {s : State}

/-! ### Peer table (chapter 2) -/

section
variable (hp : x.peers)
include hp

theorem updatePeer_kept (f : PeerRecord → PeerRecord) (n : Nat) : Kept x s (updatePeer f n s) := by
  unfold updatePeer
  split
  · exact .refl
  · exact { peers := fun hn => absurd hp hn }

theorem updatePeerFlags_kept : Kept x s (updatePeerFlags s) where
  peers hn := absurd hp hn

theorem actionEdge_kept {n : Nat} {reported : Latch} (hx : x.ends) : Kept x s (actionEdge n reported s) := by
  unfold actionEdge
  dsimp only
  split
  · exact (raiseOwn_kept fun _ => hx).trans (updatePeer_kept hp _ n)
  · exact updatePeer_kept hp _ n

theorem clearLost_kept {n : Nat} : Kept x s (clearLost n s) := by
  unfold clearLost
  split
  · exact (updatePeer_kept hp _ n).trans (causeOff_kept _)
  · exact .refl

theorem memberNews_kept {n : Nat} : Kept x s (memberNews n s) := by
  unfold memberNews
  split
  · exact (updatePeerFlags_kept hp).trans askGate_kept
  · exact .refl

theorem takePeerStatus_kept {n : Nat} {report : StatusReport} (hx : x.ends) (hne : n ≠ ownStation s) :
    Kept x s (takePeerStatus n report s) := by
  have hedge : Kept x s (actionEdge n report.latch s) := actionEdge_kept hp hx
  have hfilled := hedge.trans (updatePeer_kept hp
    (refilled report (actionEdge n report.latch s).age
      ((actionEdge n report.latch s).age + peerTimeout (actionEdge n report.latch s))) n)
  have hnews := (hfilled.trans (clearLost_kept hp (n := n))).trans (memberNews_kept hp (n := n))
  exact hnews.trans (holderQuiet_kept (by rw [ownStation, hnews.loader]; exact hne))

theorem decideLost_kept {n : Nat} : Kept x s (decideLost n s) := by
  unfold decideLost
  split
  · exact ((updatePeer_kept hp _ n).trans (raiseOwn_kept fun h => by cases h)).trans (causeOn_kept _)
  · exact .refl

theorem peerExpires_kept {n : Nat} (hne : n ≠ ownStation s) : Kept x s (peerExpires n s) := by
  have habsent : Kept x s (updatePeer (fun p => { p with present := false, expiry := none }) n s) := updatePeer_kept hp _ n
  have hflags : Kept x s (if isMember n (updatePeer (fun p => { p with present := false, expiry := none }) n s) then
      updatePeerFlags (updatePeer (fun p => { p with present := false, expiry := none }) n s)
      else updatePeer (fun p => { p with present := false, expiry := none }) n s) := by
    split
    · exact habsent.trans (updatePeerFlags_kept hp)
    · exact habsent
  have hlost := hflags.trans (decideLost_kept hp (n := n))
  have hreleased := hlost.trans (holderAbsent_kept (station := n) (by rw [ownStation, hlost.loader]; exact hne))
  exact .ite (fun _ => hreleased.trans askGate_kept) fun _ => hreleased

end

/-! ### Alarm unit (chapter 8) -/

theorem alarmHeard_kept {sender : Nat} {report : AlarmReport} (hx : x.ends) :
    Kept x s (alarmHeard sender report s) := by
  unfold alarmHeard
  split
  · split
    · exact raiseAlarm_kept fun _ => hx
    · exact .refl
  · exact .refl

theorem acknowledge_kept (test : AlarmRecord → Bool) : Kept x s (acknowledge test s) where
  alarms := fun ⟨hlen, hnodup, hcauses⟩ => by
    refine ⟨by simpa [acknowledge] using hlen, ?_, hcauses⟩
    have hkeys : (acknowledge test s).alarm.records.map keyOf = s.alarm.records.map keyOf := by
      rw [acknowledge, List.map_map]
      refine List.map_congr_left fun a _ => ?_
      simp only [Function.comp_apply]
      split <;> rfl
    rw [hkeys]; exact hnodup

theorem ackRequest_kept {head : CommandHead} {all source kind channel : Nat} (hroom : replyRoom s = true) :
    Kept x s (ackRequest head all source kind channel s) := by
  unfold ackRequest
  split
  · exact answer_kept hroom
  · split
    · exact (answer_kept hroom).trans (acknowledge_kept _)
    · split
      · exact (answer_kept hroom).trans (acknowledge_kept _)
      · exact answer_kept hroom

theorem lowerLatch_kept (hx : x.lowers) : Kept x s (lowerLatch s) where
  latched := fun _ _ h => by simp [lowerLatch, latchAtLeast, latchCode] at h
  alarms := fun ⟨hlen, hnodup, hcauses⟩ =>
    ⟨(List.length_filter_le _ _).trans hlen, hnodup.sublist (List.filter_sublist.map keyOf), hcauses⟩
  latch := fun hn => absurd hx hn

theorem resumeRequest_kept {head : CommandHead} (hx : x.ends) (hlow : x.lowers) (hroom : replyRoom s = true) :
    Kept x s (resumeRequest head s) := by
  unfold resumeRequest
  split
  · exact ((answer_kept hroom).trans (lowerLatch_kept hlow)).trans (sequencerOnResume_kept (fun _ => hx) rfl)
  · exact answer_kept hroom

/-! ### The arbiter (R2, R3, R8, R9) -/

theorem inTransmission_of_idle {c : TxClass} (h : s.line.tx = none) : inTransmission c s = false := by
  simp [inTransmission, h]

theorem onOffer_of_idle {c : TxClass} (h : s.line.tx = none) : onOffer c s = false := by
  simp [onOffer, h]

theorem inTransmission_of_other {c : TxClass} {t : Transmission} (h : s.line.tx = some t) (hc : t.cls ≠ c) :
    inTransmission c s = false := by
  simp [inTransmission, h, hc]

theorem not_behind_of_not_sent (h : ShuntGuarded s) (hsent : inTransmission .shunt s = false) :
    s.line.shuntDoneBehind = false := by
  obtain ⟨-, -, -, -, -, hbehind, -⟩ := h
  cases hb : s.line.shuntDoneBehind with
  | false => rfl
  | true => rw [hbehind hb] at hsent; cases hsent

/-- What stands on offer may change while no SHUNT_DONE waits behind it. -/
theorem shuntGuarded_of_line {l : LineUnit} (h : ShuntGuarded s)
    (hl : l.shuntSlot = s.line.shuntSlot ∧ l.shuntDoneBehind = s.line.shuntDoneBehind)
    (hbehind : s.line.shuntDoneBehind = true → inTransmission .shunt { s with line := l } = true) :
    ShuntGuarded { s with line := l } := by
  obtain ⟨hactive, hcurrent, hpins, hclaim, hslot, -, hgroup, hidle⟩ := h
  obtain ⟨hs, hb⟩ := hl
  refine ⟨hactive, hcurrent, hpins, hclaim, ?_, fun h => hbehind (hb.symm.trans h), fun he => ?_, fun hp => ?_⟩
  · simpa only [slotMatches, slotLeftOver, slotClear, hs, hb] using hslot
  · exact ⟨hs.trans (hgroup he).1, (hgroup he).2⟩
  · exact ⟨(hidle hp).1, (hidle hp).2.1, hs.trans (hidle hp).2.2.1, (hidle hp).2.2.2⟩

theorem shuntGuarded_of_line_idle {l : LineUnit} (h : ShuntGuarded s) (hsent : inTransmission .shunt s = false)
    (hl : l.shuntSlot = s.line.shuntSlot ∧ l.shuntDoneBehind = s.line.shuntDoneBehind) :
    ShuntGuarded { s with line := l } :=
  shuntGuarded_of_line h hl fun hb => absurd ((not_behind_of_not_sent h hsent).symm.trans hb) (by decide)

theorem offerClass_kept {c : TxClass} (hidle : s.line.tx = none) (hsends : lineSends s = true) :
    Kept x s (offerClass c s) := by
  have hsent := inTransmission_of_idle (c := .shunt) hidle
  unfold offerClass
  dsimp only
  split
  · rename_i hc
    exact {
      take := fun _ _ => ⟨by simp [takeStatus, statusTaken, onOffer, hc],
        fun h => absurd (hsends.symm.trans h) (by decide)⟩
      shunt := fun _ hg => shuntGuarded_of_line_idle (s := s) hg hsent ⟨rfl, rfl⟩ }
  · rename_i hc
    exact {
      take := fun _ ⟨htaken, _⟩ => ⟨htaken.trans (by simp [onOffer, hidle, hc]),
        fun h => absurd (hsends.symm.trans h) (by decide)⟩
      shunt := fun _ hg => shuntGuarded_of_line_idle (s := s) hg hsent ⟨rfl, rfl⟩ }

theorem opportunity_kept : Kept x s (opportunity s) := by
  unfold opportunity
  split
  · rename_i hsends
    split
    · rename_i t ht
      exact {
        take := fun _ ⟨htaken, _⟩ => ⟨htaken.trans (by simp [onOffer, ht]),
          fun h => absurd (hsends.symm.trans h) (by decide)⟩
        shunt := fun _ hg => shuntGuarded_of_line hg ⟨rfl, rfl⟩ fun hb => by
          obtain ⟨-, -, -, -, -, hbehind, -⟩ := hg
          have hsent := hbehind hb
          simp only [inTransmission, ht, Bool.and_eq_true, decide_eq_true_eq] at hsent
          simp [inTransmission, hsent.1] }
    · rename_i hidle
      split
      · exact offerClass_kept hidle hsends
      · exact .refl
  · exact .refl

/-- A telegram leaves the pair; that of another class than STATUS and SHUNT leaves both slots. -/
theorem untransmitted_kept {t : Transmission} (ht : s.line.tx = some t) (hstatus : t.cls ≠ .status)
    (hshunt : t.cls ≠ .shunt) : Kept x s { s with line.tx := none } where
  take := fun _ ⟨htaken, _⟩ => ⟨htaken.trans (by simp [onOffer, ht, hstatus]), fun _ => rfl⟩
  shunt := fun _ hg => shuntGuarded_of_line_idle (s := s) hg (inTransmission_of_other ht hshunt) ⟨rfl, rfl⟩

/-- A SHUNT telegram that stays in the slot, or makes room for the SHUNT_DONE behind it (R7). -/
theorem shuntGuarded_releaseShuntSlot (hg : ShuntGuarded s) :
    ShuntGuarded (releaseShuntSlot s.line.shuntSlot { s with line.tx := none }) := by
  obtain ⟨hactive, hcurrent, hpins, hclaim, hslot, hbehind, hgroup, hidle⟩ := hg
  unfold releaseShuntSlot
  split
  · rename_i hb
    have hb : s.line.shuntDoneBehind = true := hb
    have hocc : s.line.shuntSlot ≠ none := by
      intro hempty
      revert hslot
      unfold slotMatches
      split <;> simp [slotLeftOver, slotClear, hempty, hb]
    have hexc : s.cfg.excitation ≠ 0 := fun he => hocc (hgroup he).1
    refine ⟨hactive, hcurrent, hpins, hclaim, ?_, (fun h => by cases h), fun he => absurd he hexc,
      fun hp => absurd (hidle hp).2.2.1 hocc⟩
    revert hslot
    unfold slotMatches
    dsimp only
    split <;> simp [slotLeftOver, slotClear, hb]
    intro hh
    simp [hh]
  · rename_i hb
    have hb : s.line.shuntDoneBehind = false := by simpa using hb
    exact ⟨hactive, hcurrent, hpins, hclaim, hslot, fun h => absurd (hb.symm.trans h) (by decide), hgroup, hidle⟩

theorem releaseShuntSlot_kept {keep : Option ShuntTelegram} :
    Kept { x with shunt := True } s (releaseShuntSlot keep s) := by
  unfold releaseShuntSlot
  split <;> exact { shunt := fun hx => absurd trivial hx }

theorem withdrawOffer_kept : Kept x s (withdrawOffer s) := by
  unfold withdrawOffer
  split
  · exact .refl
  · rename_i t ht
    dsimp only
    split
    · rename_i hc
      exact {
        take := fun _ _ => ⟨rfl, fun _ => rfl⟩
        shunt := fun _ hg =>
          shuntGuarded_of_line_idle (s := s) hg (inTransmission_of_other ht (by rw [hc]; decide)) ⟨rfl, rfl⟩ }
    · rename_i hc
      have hwithdrawn : Kept { x with shunt := True } s { s with line.tx := none } := {
        take := fun _ ⟨htaken, _⟩ => ⟨htaken.trans (by simp [onOffer, ht, hc]), fun _ => rfl⟩
        shunt := fun hx => absurd trivial hx }
      exact (hwithdrawn.trans releaseShuntSlot_kept).restoreShunt shuntGuarded_releaseShuntSlot
    · rename_i hstatus hshunt
      exact untransmitted_kept ht hstatus hshunt

/-! ### Own completions (R6, R9, R11, R13, R14) -/

/-- The end of an own telegram but for what its class then does with the slots. -/
theorem ownCompletes_kept : Kept { x with take := True, shunt := True } s (ownCompletes s) := by
  have hleft : Kept { x with take := True, shunt := True } s
      { s with line.tx := none, line.ownCompleted := true, line.faultCount := 0, line.lineFault := false } := {
    take := fun hx => absurd trivial hx
    shunt := fun hx => absurd trivial hx }
  unfold ownCompletes
  dsimp only
  split
  · exact hleft.trans (causeOff_kept _)
  · exact hleft

theorem ownCompletes_kept_of_other {c : TxClass} (hc : onOffer c s = true) (hstatus : c ≠ .status)
    (hshunt : c ≠ .shunt) : Kept x s (ownCompletes s) := by
  unfold onOffer at hc
  split at hc
  · rename_i t ht
    have hcls : t.cls = c := of_decide_eq_true hc
    have hleft : Kept x s { s with line.tx := none } :=
      untransmitted_kept ht (hcls ▸ hstatus) (hcls ▸ hshunt)
    have hrest : Kept x { s with line.tx := none }
        { s with line.tx := none, line.ownCompleted := true, line.faultCount := 0, line.lineFault := false } := {}
    unfold ownCompletes
    dsimp only
    split
    · exact (hleft.trans hrest).trans (causeOff_kept _)
    · exact hleft.trans hrest
  · cases hc

theorem ownCompletes_tx (s : State) : (ownCompletes s).line.tx = none := by
  unfold ownCompletes
  dsimp only
  split <;> simp

theorem statusCompletes_kept {x : Exempt} : Kept { x with take := True } s (statusCompletes s) where
  take hx := absurd trivial hx

theorem ownStatusCompletes_kept (hc : onOffer .status s = true) : Kept x s (statusCompletes (ownCompletes s)) := by
  have hchain : Kept { x with take := True, shunt := True } s (statusCompletes (ownCompletes s)) :=
    ownCompletes_kept.trans (statusCompletes_kept (x := { x with shunt := True }))
  have hnotsent : inTransmission .shunt s = false := by
    unfold onOffer at hc
    split at hc
    · rename_i t ht
      exact inTransmission_of_other ht (by rw [of_decide_eq_true hc]; decide)
    · cases hc
  refine Kept.restoreShunt (Kept.restoreTake (x := { x with shunt := True }) hchain fun _ => ?_) fun hg => ?_
  · have htx : (statusCompletes (ownCompletes s)).line.tx = none := ownCompletes_tx s
    refine ⟨?_, fun _ => htx⟩
    rw [onOffer_of_idle htx]
    unfold statusCompletes statusTaken
    dsimp only
    split
    · rename_i h
      split at h <;> cases h
    · rfl
  · have hb := not_behind_of_not_sent hg hnotsent
    obtain ⟨hactive, hcurrent, hpins, hclaim, hslot, -, hrest⟩ := hg
    have hown : ShuntGuarded (ownCompletes s) := by
      unfold ownCompletes
      dsimp only
      split <;>
        exact ⟨hactive, hcurrent, hpins, hclaim, hslot, fun h => absurd (hb.symm.trans h) (by decide), hrest⟩
    exact hown

theorem alarmCompletes_kept : Kept x s (alarmCompletes s) where
  queues := fun ⟨ha, hrest⟩ => ⟨by
    simp only [alarmCompletes, List.length_drop]; omega, hrest⟩

theorem replyCompletes_kept : Kept x s (replyCompletes s) where
  queues := fun ⟨ha, hr, hrest⟩ => ⟨ha, by
    simp only [replyCompletes, List.length_append, List.length_drop, List.length_take, Config.replyQueueSize] at hr ⊢
    omega, hrest⟩

theorem partCompletes_kept : Kept x s (partCompletes s) := by
  unfold partCompletes
  split
  · rename_i p rest hq
    have hdrop : Kept x s { s with line.dataQ := rest } := {
      queues := fun ⟨ha, hr, hd, hrest⟩ =>
        ⟨ha, hr, by rw [hq, List.length_cons] at hd; exact Nat.le_of_succ_le hd, hrest⟩ }
    exact hdrop.trans dataCompleted_kept
  · exact .refl

theorem chargeCompletes_kept (hx : x.ends) (hi : x.integral) : Kept x s (chargeCompletes s) :=
  (show Kept x s { s with line.chargeSlot := none } from {}).trans (ownChargeCompleted_kept hx hi)

/-! ### The status timer and the line-fault watch (R9, R14) -/

theorem setLineFault_kept : Kept x s (setLineFault s) := by
  have hset : Kept x s { s with line.lineFault := true } := {}
  unfold setLineFault
  dsimp only
  split
  · exact (hset.trans (raiseOwn_kept fun h => by cases h)).trans (causeOn_kept _)
  · exact hset

theorem watchLine_kept : Kept x s (watchLine s) := by
  have hcount : Kept x s { s with line.faultCount := watchCount s, line.ownCompleted := false } := {}
  unfold watchLine
  dsimp only
  split
  · exact hcount.trans setLineFault_kept
  · exact hcount

theorem placeStatus_kept : Kept x s (placeStatus s) where
  take := fun _ ⟨htaken, hsilent⟩ => by
    refine ⟨Eq.trans ?_ htaken, hsilent⟩
    unfold placeStatus statusTaken
    cases s.line.statusSlot <;> rfl

theorem statusTimerExpires_kept : Kept x s (statusTimerExpires s) := by
  have hload : Kept x s { s with line.statusTimer := some (s.age + ms s.line.statusPeriod) } := {}
  exact (hload.trans watchLine_kept).trans placeStatus_kept

end

end Sys2Proof.Machine

/-! What the own completions of SHUNT telegrams, the servo tick, the sequencer's requests and the start of queued commands
keep. -/
namespace Sys2Proof.Machine

open Sys2Proof

-- One proof after the other: the threads of the check, which compiles the whole text at once, share one memory limit.
set_option Elab.async false

section
variable {x : Exempt} {s : State}

/-! ### Own SHUNT telegrams (R7, R108, R110, R111) -/

theorem ownClaimCompleted_kept : Kept { x with shunt := True } s (ownClaimCompleted s) := by
  unfold ownClaimCompleted
  split
  · split
    · exact enterBefore_kept
    · exact { shunt := fun hx => absurd trivial hx }
  · exact .refl

theorem noticeIfEmpty_kept : Kept { x with shunt := True } s (noticeIfEmpty s) := by
  unfold noticeIfEmpty shuntSlotEmptied
  split
  · split
    · exact placeShuntClaim_kept
    · exact .refl
  · exact .refl

theorem noticeIfEmpty_of_occupied (h : s.line.shuntSlot ≠ none) : noticeIfEmpty s = s := by
  simp [noticeIfEmpty, h]

theorem noticeIfEmpty_of_free (h : s.scan.claimHeld = false) : noticeIfEmpty s = s := by
  simp [noticeIfEmpty, shuntSlotEmptied, h]

theorem noticeIfEmpty_of_held (h : s.line.shuntSlot = none) (hheld : s.scan.claimHeld = true) :
    noticeIfEmpty s =
      { s with line.shuntSlot := some { isDone := false, group := s.cfg.excitation }, scan.claimHeld := false } := by
  simp [noticeIfEmpty, shuntSlotEmptied, h, hheld, placeShuntClaim]

theorem onOffer_shunt_not_status (h : onOffer .shunt s = true) : onOffer .status s = false := by
  unfold onOffer at h ⊢
  split at h
  · rename_i t _
    rw [of_decide_eq_true h]
    rfl
  · cases h

theorem ownCompletes_slots (s : State) :
    (ownCompletes s).line.statusSlot = s.line.statusSlot ∧ (ownCompletes s).line.shuntSlot = s.line.shuntSlot ∧
      (ownCompletes s).line.shuntDoneBehind = s.line.shuntDoneBehind := by
  unfold ownCompletes
  dsimp only
  split <;> simp

theorem ownCompletes_parts (s : State) :
    (ownCompletes s).scan = s.scan ∧ (ownCompletes s).pins = s.pins ∧ (ownCompletes s).cfg = s.cfg ∧
      (ownCompletes s).loader = s.loader ∧ (ownCompletes s).cmd = s.cmd := by
  unfold ownCompletes
  dsimp only
  split <;> simp

/-- The end of an own SHUNT telegram but for what then becomes of the slot. -/
theorem ownCompletes_kept_of_shunt (hc : onOffer .shunt s = true) : Kept { x with shunt := True } s (ownCompletes s) := by
  refine Kept.restoreTake (x := { x with shunt := True }) ownCompletes_kept fun ⟨htaken, _⟩ => ?_
  have htx := ownCompletes_tx s
  refine ⟨?_, fun _ => htx⟩
  rw [onOffer_of_idle htx]
  rw [onOffer_shunt_not_status hc] at htaken
  unfold statusTaken at htaken ⊢
  rw [(ownCompletes_slots s).1]
  exact htaken

/-- What a station in which a SHUNT telegram stands in the slot shows of its shunt, with nothing in transmission: a
SHUNT_DONE stands alone, a claim left over has a SHUNT_DONE behind it, and any other claim is that of the shunt that
runs. -/
structure ShuntLeaves (t : ShuntTelegram) (s : State) : Prop where
  group : s.cfg.excitation ≠ 0
  running : s.loader.phase = .running
  slot : s.line.shuntSlot = some t
  current : s.scan.shunt = .claiming → s.cmd.current.map (fun q => q.kind) = some .shunt
  active : s.scan.shuntActive = false
  pins : s.pins.shunts = 0
  state :
    (s.scan.shunt = .none ∧ s.scan.claimHeld = false ∧ s.line.shuntDoneBehind = !t.isDone) ∨
      (s.scan.shunt = .claiming ∧ s.scan.claimHeld = true ∧ s.line.shuntDoneBehind = !t.isDone) ∨
      (s.scan.shunt = .claiming ∧ s.scan.claimHeld = false ∧ s.line.shuntDoneBehind = false ∧
        t = { isDone := false, group := s.cfg.excitation })

theorem shuntLeaves_of_guarded {t : ShuntTelegram} (hg : ShuntGuarded s) (ht : s.line.shuntSlot = some t) :
    ShuntLeaves t s := by
  obtain ⟨hactive, hcurrent, hpins, -, hslot, -, hgroup, hidle⟩ := hg
  have hstate : (s.scan.shunt = .none ∧ s.scan.claimHeld = false ∧ s.line.shuntDoneBehind = !t.isDone) ∨
      (s.scan.shunt = .claiming ∧ s.scan.claimHeld = true ∧ s.line.shuntDoneBehind = !t.isDone) ∨
      (s.scan.shunt = .claiming ∧ s.scan.claimHeld = false ∧ s.line.shuntDoneBehind = false ∧
        t = { isDone := false, group := s.cfg.excitation }) := by
    have hleft : slotLeftOver s = (t.isDone != s.line.shuntDoneBehind) := by simp [slotLeftOver, ht]
    have hkind : (t.isDone != s.line.shuntDoneBehind) = true → s.line.shuntDoneBehind = !t.isDone := by
      cases t.isDone <;> cases s.line.shuntDoneBehind <;> simp
    revert hslot
    unfold slotMatches
    split
    · rename_i hst
      rw [hleft, Bool.and_eq_true, Bool.not_eq_true']
      exact fun h => .inl ⟨hst, h.2, hkind h.1⟩
    · rename_i hst
      split
      · rename_i hheld
        rw [hleft, Bool.and_eq_true]
        exact fun h => .inr (.inl ⟨hst, hheld, hkind h.1⟩)
      · rename_i hheld
        rw [ht, Bool.and_eq_true, Bool.not_eq_true', beq_iff_eq]
        exact fun h => .inr (.inr ⟨hst, by simpa using hheld, h.2, Option.some.inj h.1⟩)
    · intro h
      rw [slotClear_iff, ht] at h
      cases h.1
  have hcases : s.scan.shunt = .none ∨ s.scan.shunt = .claiming := by
    rcases hstate with ⟨h, -⟩ | ⟨h, -⟩ | ⟨h, -⟩
    · exact .inl h
    · exact .inr h
    · exact .inr h
  exact {
    group := fun he => by rw [(hgroup he).1] at ht; cases ht
    running := Classical.not_not.mp fun hp => by rw [(hidle hp).2.2.1] at ht; cases ht
    slot := ht
    current := fun hc => hcurrent (by rw [hc]; decide)
    active := by rw [hactive]; rcases hcases with h | h <;> rw [h] <;> rfl
    pins := by
      by_contra hp
      rcases hpins hp with h | h <;> rcases hcases with h' | h' <;> rw [h] at h' <;> cases h'
    state := hstate }

theorem shuntLeaves_ownCompletes {t : ShuntTelegram} (h : ShuntLeaves t s) : ShuntLeaves t (ownCompletes s) := by
  obtain ⟨-, hslot, hbehind⟩ := ownCompletes_slots s
  obtain ⟨hscan, hpins, hcfg, hloader, hcmd⟩ := ownCompletes_parts s
  refine ⟨?_, ?_, ?_, ?_, ?_, ?_, ?_⟩
  · rw [hcfg]; exact h.group
  · rw [hloader]; exact h.running
  · rw [hslot]; exact h.slot
  · rw [hscan, hcmd]; exact h.current
  · rw [hscan]; exact h.active
  · rw [hpins]; exact h.pins
  · rw [hscan, hbehind, hcfg]; exact h.state

/-- With no shunt running the slot may hold nothing or a SHUNT_DONE. -/
theorem shuntGuarded_of_no_shunt (hgroup : s.cfg.excitation ≠ 0) (hrun : s.loader.phase = .running)
    (hactive : s.scan.shuntActive = false) (hpins : s.pins.shunts = 0) (hshunt : s.scan.shunt = .none)
    (hheld : s.scan.claimHeld = false) (hslot : slotLeftOver s = true) (hbehind : s.line.shuntDoneBehind = false) :
    ShuntGuarded s := by
  refine ⟨by rw [hactive, hshunt]; rfl, fun hn => absurd hshunt hn, fun hp => absurd hpins hp, fun ha => ?_, ?_,
    fun hb => absurd (hbehind.symm.trans hb) (by decide), fun he => absurd he hgroup, fun hp => absurd hrun hp⟩
  · rw [hshunt] at ha; cases ha
  · rw [slotMatches_of_none hshunt, hslot, hheld]; rfl

/-- In CLAIMING the slot matches, and no SHUNT_DONE waits behind a claim. -/
theorem shuntGuarded_of_claiming (hgroup : s.cfg.excitation ≠ 0) (hrun : s.loader.phase = .running)
    (hactive : s.scan.shuntActive = false) (hpins : s.pins.shunts = 0) (hshunt : s.scan.shunt = .claiming)
    (hcurrent : s.cmd.current.map (fun q => q.kind) = some .shunt) (hslot : slotMatches s = true)
    (hbehind : s.line.shuntDoneBehind = false) : ShuntGuarded s := by
  refine ⟨by rw [hactive, hshunt]; rfl, fun _ => hcurrent, fun hp => absurd hpins hp, fun ha => ?_, hslot,
    fun hb => absurd (hbehind.symm.trans hb) (by decide), fun he => absurd he hgroup, fun hp => absurd hrun hp⟩
  rw [hshunt] at ha; cases ha

/-- The holder's part of an own SHUNT_CLAIM that has completed. -/
def claimNoted (group : Nat) (s : State) : State :=
  if ownGroup group s then claimCompletes (ownStation s) s else s

theorem claimNoted_restate (group : Nat) (s : State) : ∃ h, claimNoted group s = { s with scan.holder := h } := by
  unfold claimNoted claimCompletes
  split
  · split
    · exact ⟨_, rfl⟩
    · exact ⟨s.scan.holder, rfl⟩
  · exact ⟨s.scan.holder, rfl⟩

theorem ownClaimCompletes_of_claim {t : ShuntTelegram} (ht : s.line.shuntSlot = some t) (hclaim : t.isDone = false) :
    ownClaimCompletes s = noticeIfEmpty (ownClaimCompleted (claimNoted t.group (releaseShuntSlot none s))) := by
  unfold ownClaimCompletes
  rw [ht]
  simp [hclaim, claimNoted]

theorem releaseShuntSlot_of_behind {keep : Option ShuntTelegram} (h : s.line.shuntDoneBehind = true) :
    releaseShuntSlot keep s = { s with
      line.shuntSlot := some { isDone := true, group := s.cfg.excitation }, line.shuntDoneBehind := false } := by
  simp [releaseShuntSlot, h]

theorem releaseShuntSlot_of_alone {keep : Option ShuntTelegram} (h : s.line.shuntDoneBehind = false) :
    releaseShuntSlot keep s = { s with line.shuntSlot := keep } := by
  simp [releaseShuntSlot, h]

theorem ownClaimCompleted_of_other (h : ¬ (s.scan.shunt = .claiming ∧ s.scan.claimHeld = false)) :
    ownClaimCompleted s = s := by
  simp [ownClaimCompleted, h]

theorem claimNoted_kept {group : Nat} : Kept { x with shunt := True } s (claimNoted group s) := by
  unfold claimNoted claimCompletes
  refine .ite (fun _ => ?_) fun _ => .refl
  split
  · exact { shunt := fun hx => absurd trivial hx }
  · exact .refl

theorem shuntGuarded_ownClaimCompletes {t : ShuntTelegram} (h : ShuntLeaves t s) (hclaim : t.isDone = false) :
    ShuntGuarded (ownClaimCompletes s) := by
  obtain ⟨hgroup, hrun, hslot, hcurrent, hactive, hpins, hstate⟩ := h
  rw [hclaim] at hstate
  rw [ownClaimCompletes_of_claim hslot hclaim]
  rcases hstate with ⟨hshunt, hheld, hbehind⟩ | ⟨hshunt, hheld, hbehind⟩ | ⟨hshunt, hheld, hbehind, -⟩
  · rw [releaseShuntSlot_of_behind hbehind]
    obtain ⟨holder, hnoted⟩ := claimNoted_restate t.group { s with
      line.shuntSlot := some { isDone := true, group := s.cfg.excitation }, line.shuntDoneBehind := false }
    rw [hnoted, ownClaimCompleted_of_other, noticeIfEmpty_of_occupied]
    · exact shuntGuarded_of_no_shunt hgroup hrun hactive hpins hshunt hheld rfl rfl
    · exact Option.some_ne_none _
    · rintro ⟨hc, -⟩
      exact absurd (hshunt.symm.trans hc) (by decide)
  · rw [releaseShuntSlot_of_behind hbehind]
    obtain ⟨holder, hnoted⟩ := claimNoted_restate t.group { s with
      line.shuntSlot := some { isDone := true, group := s.cfg.excitation }, line.shuntDoneBehind := false }
    rw [hnoted, ownClaimCompleted_of_other, noticeIfEmpty_of_occupied]
    · exact shuntGuarded_of_claiming hgroup hrun hactive hpins hshunt (hcurrent hshunt)
        (by simp [slotMatches, slotLeftOver, hshunt, hheld]) rfl
    · exact Option.some_ne_none _
    · rintro ⟨-, hc⟩
      exact absurd (hheld.symm.trans hc) (by decide)
  · rw [releaseShuntSlot_of_alone hbehind]
    obtain ⟨holder, hnoted⟩ := claimNoted_restate t.group { s with line.shuntSlot := none }
    rw [hnoted, ownClaimCompleted, if_pos ⟨hshunt, hheld⟩]
    have hclear : ∀ u : State, u.line.shuntSlot = none → u.line.shuntDoneBehind = s.line.shuntDoneBehind →
        u.scan.claimHeld = s.scan.claimHeld → slotClear u = true :=
      fun u hu hb hh => slotClear_iff.mpr ⟨hu, hb.trans hbehind, hh.trans hheld⟩
    split
    · rename_i hholds
      rw [noticeIfEmpty_of_free (by exact hheld)]
      exact shuntGuarded_enterBefore (hcurrent hshunt) hpins (.inr hholds) (hclear _ rfl rfl rfl) hrun
    · rw [noticeIfEmpty_of_free (by exact hheld)]
      refine ⟨hactive, fun _ => hcurrent hshunt, fun hp => absurd hpins hp, (by simp [shuntStateActive]), ?_,
        fun hb => absurd (hbehind.symm.trans hb) (by decide), fun he => absurd he hgroup, fun hp => absurd hrun hp⟩
      exact hclear _ rfl rfl rfl

/-- The holder's part of an own SHUNT_DONE that has completed. -/
def doneNoted (group : Nat) (s : State) : State :=
  if ownGroup group s then doneCompletes (ownStation s) s else s

theorem ownDoneCompletes_of_done {t : ShuntTelegram} (ht : s.line.shuntSlot = some t) (hdone : t.isDone = true) :
    ownDoneCompletes s = noticeIfEmpty (doneNoted t.group (releaseShuntSlot none s)) := by
  unfold ownDoneCompletes
  rw [ht]
  simp [hdone, doneNoted]

theorem doneNoted_restate {group : Nat} (h : s.scan.shunt ≠ .waiting) :
    ∃ holder, doneNoted group s = { s with scan.holder := holder } := by
  unfold doneNoted doneCompletes holderReleased
  split
  · split
    · exact ⟨none, if_neg h⟩
    · exact ⟨s.scan.holder, rfl⟩
  · exact ⟨s.scan.holder, rfl⟩

theorem doneNoted_kept {group : Nat} : Kept { x with shunt := True } s (doneNoted group s) := by
  unfold doneNoted doneCompletes
  exact .ite (fun _ => .ite (fun _ => holderReleased_kept fun hx => absurd trivial hx) fun _ => .refl) fun _ => .refl

theorem shuntGuarded_ownDoneCompletes {t : ShuntTelegram} (h : ShuntLeaves t s) (hdone : t.isDone = true) :
    ShuntGuarded (ownDoneCompletes s) := by
  obtain ⟨hgroup, hrun, hslot, hcurrent, hactive, hpins, hstate⟩ := h
  rw [hdone] at hstate
  rw [ownDoneCompletes_of_done hslot hdone]
  rcases hstate with ⟨hshunt, hheld, hbehind⟩ | ⟨hshunt, hheld, hbehind⟩ | ⟨-, -, -, ht⟩
  · rw [releaseShuntSlot_of_alone hbehind]
    obtain ⟨holder, hnoted⟩ := doneNoted_restate (s := { s with line.shuntSlot := none }) (group := t.group)
      (fun hw => by have := hshunt.symm.trans hw; cases this)
    rw [hnoted, noticeIfEmpty_of_free (by exact hheld)]
    exact shuntGuarded_of_no_shunt hgroup hrun hactive hpins hshunt hheld (congrArg not hbehind) hbehind
  · rw [releaseShuntSlot_of_alone hbehind]
    obtain ⟨holder, hnoted⟩ := doneNoted_restate (s := { s with line.shuntSlot := none }) (group := t.group)
      (fun hw => by have := hshunt.symm.trans hw; cases this)
    have hbehind : s.line.shuntDoneBehind = false := hbehind
    rw [hnoted, noticeIfEmpty_of_held]
    · exact shuntGuarded_of_claiming hgroup hrun hactive hpins hshunt (hcurrent hshunt)
        (by simp [slotMatches, hshunt, hbehind]) hbehind
    · rfl
    · exact hheld
  · rw [ht] at hdone
    cases hdone

/-- The end of an own SHUNT telegram in a station whose slot is empty leaves it guarded. -/
theorem shuntGuarded_ownCompletes (hg : ShuntGuarded s) (hempty : s.line.shuntSlot = none) :
    ShuntGuarded (ownCompletes s) := by
  obtain ⟨hactive, hcurrent, hpins, hclaim, hslot, -, hrest⟩ := hg
  have hbehind : s.line.shuntDoneBehind = false := by
    revert hslot
    unfold slotMatches
    split <;> simp +contextual [slotLeftOver, slotClear, hempty]
  unfold ownCompletes
  dsimp only
  split <;>
    exact ⟨hactive, hcurrent, hpins, hclaim, hslot, fun h => absurd (hbehind.symm.trans h) (by decide), hrest⟩

theorem ownClaimCompletes_of_empty (h : s.line.shuntSlot = none) : ownClaimCompletes s = s := by
  simp [ownClaimCompletes, h]

theorem ownDoneCompletes_of_empty (h : s.line.shuntSlot = none) : ownDoneCompletes s = s := by
  simp [ownDoneCompletes, h]

/-- An own SHUNT_CLAIM completes (R108, R111). -/
theorem ownClaim_kept (hc : onOffer .shunt s = true) (hkind : shuntIsDone s = false) :
    Kept x s (ownClaimCompletes (ownCompletes s)) := by
  have hslot := (ownCompletes_slots s).2.1
  cases ht : s.line.shuntSlot with
  | none =>
    rw [ownClaimCompletes_of_empty (hslot.trans ht)]
    exact (ownCompletes_kept_of_shunt hc).restoreShunt fun hg => shuntGuarded_ownCompletes hg ht
  | some t =>
    have hclaim : t.isDone = false := by simpa [shuntIsDone, ht] using hkind
    refine Kept.restoreShunt (x := x) ((ownCompletes_kept_of_shunt hc).trans ?_) fun hg =>
      shuntGuarded_ownClaimCompletes (shuntLeaves_ownCompletes (shuntLeaves_of_guarded hg ht)) hclaim
    rw [ownClaimCompletes_of_claim (hslot.trans ht) hclaim]
    exact ((releaseShuntSlot_kept.trans claimNoted_kept).trans ownClaimCompleted_kept).trans noticeIfEmpty_kept

/-- An own SHUNT_DONE completes (R7, R108, R110). -/
theorem ownDone_kept (hc : onOffer .shunt s = true) (hkind : shuntIsDone s = true) :
    Kept x s (ownDoneCompletes (ownCompletes s)) := by
  have hslot := (ownCompletes_slots s).2.1
  cases ht : s.line.shuntSlot with
  | none => simp [shuntIsDone, ht] at hkind
  | some t =>
    have hdone : t.isDone = true := by simpa [shuntIsDone, ht] using hkind
    refine Kept.restoreShunt (x := x) ((ownCompletes_kept_of_shunt hc).trans ?_) fun hg =>
      shuntGuarded_ownDoneCompletes (shuntLeaves_ownCompletes (shuntLeaves_of_guarded hg ht)) hdone
    rw [ownDoneCompletes_of_done (hslot.trans ht) hdone]
    exact (releaseShuntSlot_kept.trans doneNoted_kept).trans noticeIfEmpty_kept

end

end Sys2Proof.Machine

/-! What the servo tick, the console requests, the start of queued commands and the timers keep. -/
namespace Sys2Proof.Machine

open Sys2Proof

-- One proof after the other: the threads of the check, which compiles the whole text at once, share one memory limit.
set_option Elab.async false

section
variable {x : Exempt} {s : State}

/-! ### The servo tick (R56 to R72) -/

theorem clampUp_le {lam target bound candidate : Nat} (hl : lam ≤ 10000) (ht : target ≤ 10000) :
    clampUp lam target bound candidate ≤ 10000 := by
  unfold clampUp
  dsimp only
  split
  · omega
  · split <;> omega

theorem clampDown_le {lam target : Nat} {bound candidate : Int} (hl : lam ≤ 10000) (ht : target ≤ 10000)
    (hc : candidate ≤ lam) : clampDown lam target bound candidate ≤ 10000 := by
  unfold clampDown
  dsimp only
  split
  · omega
  · split <;> omega

theorem moveLevel_le {lam acc target rate lead floor ceiling : Nat} (hl : lam ≤ 10000) (ht : target ≤ 10000) :
    (moveLevel lam acc target rate lead floor ceiling).1 ≤ 10000 := by
  unfold moveLevel
  dsimp only
  split
  · exact clampUp_le hl ht
  · exact clampDown_le hl ht (by omega)

theorem permission_target_le {target rate : Nat} (h : LevelBounded s) (hp : permission s = some (target, rate)) :
    target ≤ 10000 := by
  obtain ⟨-, hwork, -⟩ := h
  unfold permission at hp
  split at hp
  · rename_i w _ _ hw
    obtain ⟨rfl, -⟩ := Prod.mk.inj (Option.some.inj hp)
    exact hwork w (by rw [hw]; rfl)
  · obtain ⟨rfl, -⟩ := Prod.mk.inj (Option.some.inj hp)
    omega
  · cases hp

theorem rampStage_kept {floor ceiling : Nat} (ht : x.tick) : Kept x s (rampStage floor ceiling s) := by
  unfold rampStage
  split
  · rename_i target rate hp
    split
    · exact {
        level := fun h => ⟨moveLevel_le h.1 (permission_target_le h hp), h.2⟩
        tick := fun hn => absurd ht hn }
    · exact .refl
  · exact .refl

theorem measureStage_kept {code : Int} (ht : x.tick) : Kept x s (measureStage code s) where
  tick hn := absurd ht hn

theorem piLaw_bounded {kp ki : Nat} {integral error : Int}
    (h : -Config.integralMax ≤ integral ∧ integral ≤ Config.integralMax) :
    (-Config.driveMax ≤ (piLaw kp ki integral error).1 ∧ (piLaw kp ki integral error).1 ≤ Config.driveMax) ∧
      -Config.integralMax ≤ (piLaw kp ki integral error).2 ∧ (piLaw kp ki integral error).2 ≤ Config.integralMax := by
  refine ⟨clampTo_mem _ _ _ (by decide), ?_⟩
  unfold piLaw integralCandidate
  dsimp only
  split
  · exact h
  · exact clampTo_mem _ _ _ (by decide)

theorem zero_within_drive : -Config.driveMax ≤ 0 ∧ 0 ≤ Config.driveMax := by decide

theorem driveStage_kept (ht : x.tick) (hi : x.integral) : Kept x s (driveStage s) := by
  unfold driveStage
  split
  · rename_i hpass
    exact {
      tick := fun hn => absurd ht hn
      integral := fun hn => absurd hi hn
      drive := fun ⟨hint, _⟩ =>
        have ⟨hdrive, hnew⟩ := piLaw_bounded hint
        ⟨hnew, hdrive, hdrive, fun hoff => absurd (hpass.symm.trans hoff) (by decide)⟩ }
  · exact {
      tick := fun hn => absurd ht hn
      drive := fun ⟨hint, _⟩ => ⟨hint, zero_within_drive, zero_within_drive, fun _ => rfl⟩ }

theorem overLimitChanged_kept {was now : Bool} (hx : x.ends) : Kept x s (overLimitChanged was now s) := by
  unfold overLimitChanged
  split
  · exact (raiseOwn_kept fun _ => hx).trans (causeOn_kept _)
  · exact causeOff_kept _
  · exact .refl

theorem tripCountReached_kept (hx : x.ends) : Kept x s (tripCountReached s) :=
  (show Kept x s { s with servo.tripCount := 0 } from {}).trans (raiseOwn_kept fun _ => hx)

theorem bandStage_kept (hx : x.ends) (ht : x.tick) : Kept x s (bandStage s) := by
  have hflags : Kept x s { s with
      servo.lagging := laggingAfter s, servo.tripCount := tripCountAfter s, servo.overLimit := overLimitAfter s } := {
    tick := fun hn => absurd ht hn }
  unfold bandStage
  dsimp only
  split
  · exact (hflags.trans (tripCountReached_kept hx)).trans (overLimitChanged_kept hx)
  · exact hflags.trans (overLimitChanged_kept hx)

theorem carryClear_kept {code : Int} (ht : x.tick) (hi : x.integral) :
    Kept x s { s with servo := carryClear s.servo, pins.loadCode := code } := by
  unfold carryClear
  split
  · exact {
      tick := fun hn => absurd ht hn
      integral := fun hn => absurd hi hn
      level := fun h => ⟨Nat.zero_le _, h.2⟩
      drive := fun ⟨_, h⟩ => ⟨integral_zero_bounded, h⟩ }
  · exact {}

theorem stopReacquire_kept : Kept x s (stopReacquire s) :=
  .ite (fun _ => .refl) fun _ => {}

theorem servoStages_kept {code : Int} (hx : x.ends) (ht : x.tick) (hi : x.integral) :
    Kept x s (servoStages code s) :=
  (carryClear_kept ht hi).trans <| stopReacquire_kept.trans <| (rampStage_kept ht).trans <|
    (measureStage_kept ht).trans <| (driveStage_kept ht hi).trans (bandStage_kept hx ht)

theorem servoTickEvent_kept {code : Int} (hx : x.ends) (ht : x.tick) (hi : x.integral) :
    Kept x s (servoTickEvent code s) :=
  (servoStages_kept hx ht hi).trans <| firstLockRef_kept.trans <| (sequencerOnLevel_kept fun _ => hx).trans
    acquisitionTest_kept

theorem mismatchExpires_kept : Kept x s (mismatchExpires s) := by
  have hstopped : Kept x s { s with seq.mismatch := none } := {
    dwell := fun h => ⟨h.1, fun hs => by cases hs⟩ }
  exact hstopped.trans (raiseOwn_kept fun h => by cases h)

/-! ### Console requests (R13, R163) -/

section
variable {head : CommandHead} (hroom : replyRoom s = true)
include hroom

theorem programRequest_kept {request : SegmentRequest} (ht : x.table) : Kept x s (programRequest head request s) := by
  have hanswer : Kept x s (answerDone head programCode s) := answer_kept hroom
  unfold programRequest askIfChanged
  split
  · exact answer_kept hroom
  · refine (hanswer.trans (replaceTable_kept ht fun ⟨_, _, htable⟩ e he g hg => ?_)).trans
      (.ite (fun _ => .refl) fun _ => askGate_kept)
    rcases mem_setAt he with hold | hnew
    · exact htable e (by simpa [answerDone, answer] using hold) g hg
    · rw [hnew] at hg
      obtain rfl : storedSegment request = g := Option.some.inj hg
      exact Nat.min_le_right _ _

theorem clearprogRequest_kept (ht : x.table) : Kept x s (clearprogRequest head s) := by
  have hanswer : Kept x s (answerDone head clearprogCode s) := answer_kept hroom
  unfold clearprogRequest
  refine .ite (fun _ => hanswer.trans (replaceTable_kept ht fun _ e he g hg => ?_)) fun _ => answer_kept hroom
  rw [List.eq_of_mem_replicate he] at hg
  cases hg

theorem runRequest_kept : Kept x s (runRequest head s) := by
  have hanswer : Kept x s (answerDone head runCode s) := answer_kept hroom
  unfold runRequest
  refine .ite (fun h => hanswer.trans (startRun_kept (.trans ?_ h))) fun _ => answer_kept hroom
  rfl

theorem holdRequest_kept : Kept x s (holdRequest head s) :=
  (show Kept x s (answerDone head holdCode s) from answer_kept hroom).trans (consoleLatch_kept (by decide))

theorem unloadRequest_kept : Kept x s (unloadRequest head s) :=
  (show Kept x s (answerDone head unloadCode s) from answer_kept hroom).trans (consoleLatch_kept (by decide))

theorem timesetRequest_kept {tag : Tag} (ht : x.timeTag) : Kept x s (timesetRequest head tag s) :=
  (show Kept x s (answerDone head timesetCode s) from answer_kept hroom).trans {
    timeTag := fun hn => absurd ht hn }

end

/-- What becomes of a console telegram: it is discarded, refused, or handed to its owner, with room for its REPLY. -/
theorem takeCommand_cases {head : CommandHead} {code : Nat} {owner : State → State} {P : State → Prop} (hself : P s)
    (hrefused : ∀ reason, replyRoom s = true → P (answerRefused head code reason s))
    (howner : replyRoom s = true → s.loader.phase = .running → P (owner s)) : P (takeCommand head code owner s) := by
  unfold takeCommand
  split
  · rename_i hguard
    have hroom : replyRoom s = true := (Bool.and_eq_true _ _ ▸ hguard).2
    split
    · rename_i hrun
      unfold judgeForm
      split
      · exact hrefused .state hroom
      · split
        · exact howner hroom hrun
        · exact hrefused .range hroom
    · split
      · exact hrefused .state hroom
      · exact hself
    · exact hself
  · exact hself

theorem takeCommand_kept {head : CommandHead} {code : Nat} {owner : State → State}
    (h : replyRoom s = true → s.loader.phase = .running → Kept x s (owner s)) :
    Kept x s (takeCommand head code owner s) :=
  takeCommand_cases .refl (fun _ hroom => answer_kept hroom) h

/-! ### The start of queued commands (R164, R165, R172) -/

theorem judgeQueued_kept {q : QueuedCommand} {rest : List QueuedCommand} (hx : x.ends) (hrun : s.loader.phase = .running)
    (hidle : s.cmd.current = none) (hqueue : s.cmd.queue = q :: rest) :
    Kept x s (judgeQueued q.kind { s with cmd.queue := rest, cmd.current := some q }) := by
  have hnone : ShuntGuarded s → s.scan.shunt = .none := fun ⟨_, hcurrent, _⟩ => by
    by_contra h
    have hc := hcurrent h
    rw [hidle] at hc
    cases hc
  have hguard : ShuntGuarded s → ShuntGuarded { s with cmd.queue := rest, cmd.current := some q } := fun hg =>
    have ⟨hactive, _, hpins, hclaim, hslot, hbehind, hgroup, _⟩ := hg
    ⟨hactive, fun h => absurd (hnone hg) h, hpins, hclaim, hslot, hbehind, hgroup, fun h => absurd hrun h⟩
  have hstarted : ∀ y : Exempt, y.ends → Kept y s { s with cmd.queue := rest, cmd.current := some q } := fun y hy => {
    command := fun hn => absurd hy hn
    idle := fun _ hp => absurd hrun hp
    shunt := fun _ => hguard
    queues := fun ⟨ha, hr, hd, hc, hf, hq, hi⟩ =>
      ⟨ha, hr, hd, hc, hf, by rw [hqueue, List.length_cons] at hq; exact Nat.le_of_succ_le hq, hi⟩ }
  have hother : ∀ k, q.kind = k → k ≠ .shunt →
      ({ s with cmd.queue := rest, cmd.current := some q } : State).cmd.current.map (fun q => q.kind) ≠ some .shunt :=
    fun k hk hne h => hne (hk.symm.trans (Option.some.inj h))
  cases hk : q.kind with
  | charge => exact (hstarted x hx).trans (judgeCharge_kept hx (hother _ hk (by decide)))
  | vent => exact (hstarted x hx).trans (judgeVent_kept hx (hother _ hk (by decide)))
  | lock => exact (hstarted x hx).trans (judgeLock_kept hx (hother _ hk (by decide)))
  | unlock => exact (hstarted x hx).trans (judgeUnlock_kept hx (hother _ hk (by decide)))
  | cleartrip => exact (hstarted x hx).trans (judgeCleartrip_kept hx (hother _ hk (by decide)))
  | zero => exact (hstarted x hx).trans (judgeZero_kept hx (hother _ hk (by decide)))
  | shunt =>
    exact Kept.restoreShunt ((hstarted { x with shunt := True } hx).trans (judgeShunt_kept hx)) fun hg =>
      shuntGuarded_judgeShunt (hguard hg) (hnone hg) (congrArg some hk) hrun

theorem startWaiting_kept (hx : x.ends) (n : Nat) (hrun : s.loader.phase = .running) : Kept x s (startWaiting n s) := by
  induction n generalizing s with
  | zero => exact .refl
  | succ n ih =>
    unfold startWaiting
    split
    · rename_i hidle hqueue
      have hjudged := judgeQueued_kept (x := x) hx hrun hidle hqueue
      exact hjudged.trans (ih (by rw [hjudged.loader]; exact hrun))
    · exact .refl

theorem startCommands_kept (hx : x.ends) : Kept x s (startCommands s) :=
  .ite (fun h => startWaiting_kept hx _ (of_decide_eq_true h)) fun _ => .refl

theorem enqueue_kept {head : CommandHead} {kind : QueuedKind} (hx : x.ends) (hroom : replyRoom s = true)
    (hrun : s.loader.phase = .running) : Kept x s (enqueue head kind s) := by
  unfold enqueue
  split
  · rename_i hlen
    refine Kept.trans ?_ (startCommands_kept hx)
    exact {
      command := fun hn => absurd hx hn
      idle := fun _ hp => absurd hrun hp
      shunt := fun _ ⟨hactive, hcurrent, hpins, hclaim, hslot, hbehind, hgroup, _⟩ =>
        ⟨hactive, hcurrent, hpins, hclaim, hslot, hbehind, hgroup, fun h => absurd hrun h⟩
      queues := fun ⟨ha, hr, hd, hc, hf, _, hi⟩ =>
        ⟨ha, hr, hd, hc, hf, by rw [List.length_append]; exact hlen, hi⟩ }
  · exact answer_kept hroom

/-! ### Timers and guards -/

theorem advanceTo_kept {t : Nat} : Kept x s (advanceTo t s) := by
  unfold advanceTo
  split
  · rename_i h
    exact {
      age := Nat.le_of_lt h
      timeTag := fun _ hage => absurd hage (Nat.ne_of_gt h) }
  · exact {}

theorem onExpiry_kept {due : Option Nat} {f : State → State}
    (h : ∀ t, due = some t → Kept x (advanceTo t s) (f (advanceTo t s))) : Kept x s (onExpiry due f s) := by
  unfold onExpiry
  split
  · exact advanceTo_kept.trans (h _ rfl)
  · exact .refl

theorem whenRunning_kept {f : State → State} (h : s.loader.phase = .running → Kept x s (f s)) :
    Kept x s (whenRunning f s) :=
  .ite (fun hr => h (of_decide_eq_true hr)) fun _ => .refl

theorem timerEvent_kept {due : Option Nat} {f : State → State}
    (h : ∀ t, due = some t → s.loader.phase = .running → Kept x (advanceTo t s) (f (advanceTo t s))) :
    Kept x s (timerEvent due f s) :=
  whenRunning_kept fun hr => onExpiry_kept fun t ht => h t ht hr

end

end Sys2Proof.Machine

/-! What each command keeps, but the starts and READING_END: the invariants of Safety.lean, the order of commands in
progress and waiting (R165, R169) among them. -/
namespace Sys2Proof.Machine

open Sys2Proof

-- One proof after the other: the threads of the check, which compiles the whole text at once, share one memory limit.
set_option Elab.async false

section
variable {x : Exempt} {s t : State}

/-! ### Commands in progress and waiting (R165) -/

/-- What a whole command keeps. -/
structure StepKept (x : Exempt) (s t : State) : Prop where
  kept : Kept x s t
  flow : CommandsFlow s → CommandsFlow t

theorem judgeQueued_queue (kind : QueuedKind) (s : State) : (judgeQueued kind s).cmd.queue = s.cmd.queue := by
  cases kind <;> simp [judgeQueued]

/-- As many starts as commands wait leave none waiting behind an idle unit. -/
theorem startWaiting_flow {n : Nat} (h : s.cmd.queue.length ≤ n) (hidle : (startWaiting n s).cmd.current = none) :
    (startWaiting n s).cmd.queue = [] := by
  induction n generalizing s with
  | zero => exact List.eq_nil_of_length_eq_zero (Nat.le_zero.mp h)
  | succ n ih =>
    unfold startWaiting at hidle ⊢
    split at hidle
    · rename_i hqueue
      rw [hqueue, List.length_cons] at h
      exact ih (by rw [judgeQueued_queue]; exact Nat.le_of_succ_le_succ h) hidle
    · rename_i hnot
      cases hq : s.cmd.queue with
      | nil => rfl
      | cons q rest => exact absurd hq (hnot q rest hidle)

theorem commandsFlow_startCommands (h : IdleCommands s) : CommandsFlow (startCommands s) := by
  by_cases hrun : s.loader.phase = .running
  · rw [startCommands_of_running hrun]
    exact ⟨startWaiting_flow (Nat.le_refl _), fun hp => absurd (by simpa using hrun) hp⟩
  · rw [startCommands_of_not_running hrun]
    exact ⟨fun _ => (h hrun).2, fun _ => (h hrun).1⟩

theorem idleCommands_of_flow (h : CommandsFlow s) : IdleCommands s := fun hp => ⟨h.2 hp, h.1 (h.2 hp)⟩

theorem StepKept.refl : StepKept x s s := ⟨.refl, id⟩

/-- A command that leaves the queued commands as they are. -/
theorem StepKept.of_quiet (h : Kept { x with ends := False } s t) : StepKept x s t := by
  refine ⟨h.allowEnds, fun ⟨hfirst, hlast⟩ => ?_⟩
  obtain ⟨hcurrent, hqueue⟩ := h.command id
  refine ⟨fun hc => ?_, fun hp => ?_⟩
  · rw [hqueue]
    exact hfirst (hcurrent.symm.trans hc)
  · rw [h.loader] at hp
    exact hcurrent.trans (hlast hp)

/-- A command at whose end waiting ones are started. -/
theorem StepKept.of_started (hx : x.ends) (h : Kept x s t) : StepKept x s (startCommands t) :=
  ⟨h.trans (startCommands_kept hx), fun hf => commandsFlow_startCommands (h.idle (idleCommands_of_flow hf))⟩

/-! ### Console command telegrams (chapter 10) -/

theorem takeCommand_stepKept {head : CommandHead} {code : Nat} {owner : State → State}
    (h : replyRoom s = true → s.loader.phase = .running → StepKept x s (owner s)) :
    StepKept x s (takeCommand head code owner s) :=
  takeCommand_cases .refl (fun _ hroom => .of_quiet (answer_kept hroom)) h

theorem takeCommand_quiet {head : CommandHead} {code : Nat} {owner : State → State}
    (h : replyRoom s = true → Kept { x with ends := False } s (owner s)) :
    StepKept x s (takeCommand head code owner s) :=
  takeCommand_stepKept fun hroom _ => .of_quiet (h hroom)

theorem takeQueued_stepKept {head : CommandHead} {kind : QueuedKind} (hx : x.ends) :
    StepKept x s (takeQueued head kind s) := by
  refine takeCommand_stepKept fun hroom hrun => ⟨enqueue_kept hx hroom hrun, fun hflow => ?_⟩
  unfold enqueue
  split
  · exact commandsFlow_startCommands fun hp => absurd hrun hp
  · exact (StepKept.of_quiet (x := x) (answer_kept hroom)).flow hflow

/-! ### Telegrams of other stations (chapters 2, 5, 6 and 8) -/

theorem fromPeer_kept {sender : Nat} {f : State → State}
    (h : s.loader.phase = .running → sender ≠ ownStation s → Kept x s (f s)) : Kept x s (fromPeer sender f s) :=
  .ite (fun ⟨hrun, _, hne⟩ => h (of_decide_eq_true hrun) hne) fun _ => .refl

/-! ### What is handed on to its owner (R6) -/

theorem handOn_stepKept (c : Instr) (hx : x.ends) (hlow : ∀ head, c = .resume head → x.lowers)
    (hfree : ∀ head n, c = .free head n → x.frees) (hpeers : ∀ sender report, c = .statusReceived sender report → x.peers)
    (htable : (∃ head request, c = .program head request) ∨ (∃ head, c = .clearprog head) → x.table)
    (hloops : ∀ head loop, c = .accept head loop → x.loops) (htag : ∀ head tag, c = .timeset head tag → x.timeTag) :
    StepKept x s (handOn c s) := by
  cases c with
  | statusReceived sender report => exact .of_started hx (fromPeer_kept fun _ hne => takePeerStatus_kept (hpeers _ _ rfl) hx hne)
  | alarmHeard sender report => exact .of_started hx (fromPeer_kept fun _ _ => alarmHeard_kept hx)
  | chargeHeard sender _ => exact .of_quiet (fromPeer_kept fun _ _ => appendCharge_kept sender)
  | shuntClaimHeard sender group =>
    exact .of_quiet (fromPeer_kept fun hrun _ => .ite (fun _ => claimCompletes_kept hrun) fun _ => .refl)
  | shuntDoneHeard sender group =>
    exact .of_quiet (fromPeer_kept fun _ hne => .ite (fun _ => doneCompletes_kept hne) fun _ => .refl)
  | commandUnknownKind head kind =>
    show StepKept x s (unknownKindEvent head kind s)
    unfold unknownKindEvent
    split
    · exact takeCommand_quiet fun _ => .refl
    · exact .refl
  | program head request => exact takeCommand_quiet fun hroom => programRequest_kept hroom (htable (.inl ⟨head, request, rfl⟩))
  | clearprog head => exact takeCommand_quiet fun hroom => clearprogRequest_kept hroom (htable (.inr ⟨head, rfl⟩))
  | run head => exact takeCommand_quiet runRequest_kept
  | hold head => exact takeCommand_quiet holdRequest_kept
  | unload head => exact takeCommand_quiet unloadRequest_kept
  | resume head => exact .of_started hx (takeCommand_kept fun hroom _ => resumeRequest_kept hx (hlow head rfl) hroom)
  | ack head all source kind channel => exact takeCommand_quiet ackRequest_kept
  | accept head loop => exact takeCommand_quiet (acceptRequest_kept (hloops head loop rfl))
  | fetch head which wait => exact takeCommand_quiet fun hroom => fetchRequest_kept hroom
  | free head block => exact takeCommand_quiet (freeRequest_kept (hfree head block rfl))
  | cut head => exact takeCommand_quiet cutRequest_kept
  | timeset head tag => exact takeCommand_quiet fun hroom => timesetRequest_kept hroom (htag head tag rfl)
  | queryCrack head loop =>
    exact takeCommand_quiet fun hroom => .ite (fun _ => answer_kept hroom) fun _ => answer_kept hroom
  | queryAlarms head start => exact takeCommand_quiet answer_kept
  | queryStrain head half =>
    exact takeCommand_quiet fun hroom => .ite (fun _ => answer_kept hroom) fun _ => answer_kept hroom
  | queryPeer head station =>
    exact takeCommand_quiet fun hroom => .ite (fun _ => answer_kept hroom) fun _ => answer_kept hroom
  | queryOtherSubject head subject _ =>
    show StepKept x s (queryOtherEvent head subject s)
    unfold queryOtherEvent
    split
    · exact .refl
    · exact takeCommand_quiet answer_kept
  | charge head => exact takeQueued_stepKept hx
  | vent head => exact takeQueued_stepKept hx
  | lock head => exact takeQueued_stepKept hx
  | unlock head => exact takeQueued_stepKept hx
  | cleartrip head => exact takeQueued_stepKept hx
  | zero head => exact takeQueued_stepKept hx
  | shunt head => exact takeQueued_stepKept hx
  | _ => exact .refl

/-! ### Own completions -/

theorem ownCompletion_kept {c : TxClass} {f : State → State} (h : onOffer c s = true → Kept x s (f (ownCompletes s))) :
    Kept x s (ownCompletion c f s) :=
  .ite (fun _ => .ite h fun _ => .refl) fun _ => .refl

theorem ownShuntClaim_kept : Kept x s (if shuntIsDone s then s else ownCompletion .shunt ownClaimCompletes s) :=
  .ite (fun _ => .refl) fun h => ownCompletion_kept fun hc => ownClaim_kept hc (by simpa using h)

theorem ownShuntDone_kept : Kept x s (if shuntIsDone s then ownCompletion .shunt ownDoneCompletes s else s) :=
  .ite (fun h => ownCompletion_kept fun hc => ownDone_kept hc h) fun _ => .refl

/-! ### Inputs and timers of the actuator unit -/

/-- Moving the age clock leaves every unit as it was. -/
theorem advanceTo_units (t : Nat) (s : State) :
    (advanceTo t s).loader = s.loader ∧ (advanceTo t s).seq = s.seq ∧ (advanceTo t s).act = s.act ∧
      (advanceTo t s).scan = s.scan := by
  unfold advanceTo
  split <;> simp

theorem actuatorExpiry_kept {st : ActState} {due : Option Nat} {f : State → State}
    (h : ∀ u : State, u.act.state = st → Kept x u (f u)) :
    Kept x s (if s.act.state = st then timerEvent due f s else s) :=
  .ite (fun hst => timerEvent_kept fun t _ _ => h _ (by simpa [advanceTo_units] using hst)) fun _ => .refl

theorem pressOkEvent_stepKept {level : Bool} (hx : x.ends) (hp : x.pressOk) : StepKept x s (pressOkEvent level s) := by
  have hread : Kept x s { s with pins.pressOk := level } := { pressOk := fun hn => absurd hp hn }
  unfold pressOkEvent
  split
  · exact .of_started hx (hread.trans (whenRunning_kept fun _ => pressOkChanged_kept hx))
  · exact .refl

theorem lockEngagedEvent_stepKept {level : Bool} (hx : x.ends) (hp : x.lockEngaged) :
    StepKept x s (lockEngagedEvent level s) := by
  have hread : Kept x s { s with pins.lockEngaged := level } := { lockEngaged := fun hn => absurd hp hn }
  unfold lockEngagedEvent
  split
  · exact .of_started hx (hread.trans (whenRunning_kept fun _ => lockEngagedChanged_kept hx))
  · exact .refl

theorem tripOnEstop_state (s : State) : (tripOnEstop s).act.state = .tripped ∨ (tripOnEstop s).act.state = .locked := by
  unfold tripOnEstop
  split
  · rename_i h
    exact h.symm
  · exact .inl (by simp)

theorem estopActiveEvent_stepKept (hx : x.ends) (hp : x.estopPin) : StepKept x s (estopActiveEvent s) := by
  have hread : Kept { x with estop := True } s { s with pins.estop := true } := {
    estop := fun hn => absurd trivial hn
    estopPin := fun hn => absurd hp hn }
  have htripped : Kept x s (tripOnEstop { s with pins.estop := true }) :=
    Kept.restoreEstop (hread.trans (tripOnEstop_kept hx)) fun _ _ _ => tripOnEstop_state _
  unfold estopActiveEvent
  split
  · exact .of_started hx (htripped.trans (whenRunning_kept fun _ => raiseEstop_kept hx))
  · exact .refl

theorem estopInactiveEvent_kept (hp : x.estopPin) : Kept x s (estopInactiveEvent s) := by
  have hread : Kept x s { s with pins.estop := false } := {
    estop := fun _ _ _ h => by cases h
    estopPin := fun hn => absurd hp hn }
  exact .ite (fun _ => hread.trans (whenRunning_kept fun _ => causeOff_kept _)) fun _ => .refl

/-! ### Timers of the sequencer, the peer table, the scanner and the record memory -/

theorem dwellExpiry_kept {timer : HoldTimer} {f : State → State} (h : ∀ u : State, inDwell u = true → Kept x u (f u)) :
    Kept x s (dwellExpiry timer f s) :=
  .ite (fun hd => timerEvent_kept fun t _ _ => h _ (by simpa [inDwell, advanceTo_units] using hd)) fun _ => .refl

theorem recordExpiry_kept {station : Nat} (hp : x.peers) : Kept x s (recordExpiry station s) :=
  .ite (fun _ => .refl) fun hne => timerEvent_kept fun t _ _ =>
    peerExpires_kept hp (by simpa [ownStation, advanceTo_units] using hne)

theorem fetchExpiry_kept : Kept x s (fetchExpiry s) := by
  unfold fetchExpiry
  split
  · exact .ite (fun _ => .refl) fun _ => advanceTo_kept.trans (expireRequest_kept _)
  · exact .refl

end

/-! ### Every command but READING_END and a start -/

/-- What a command other than a start is not asked to keep: it may end and start queued commands, RESUME may lower the
latch, FREE frees a block, and a command changes the pieces of state that it owns; bytes may spell any telegram (log
entry 7). -/
def allowed (c : Instr) : Exempt where
  ends := True
  lowers := (∃ head, c = .resume head) ∨ IsRawBytes c
  frees := (∃ head n, c = .free head n) ∨ IsRawBytes c
  table := ((∃ head request, c = .program head request) ∨ ∃ head, c = .clearprog head) ∨ IsRawBytes c
  tick := ∃ code, c = .servoTick code
  integral := (∃ code, c = .servoTick code) ∨ c = .chargeOwnCompletion ∨ c = .unlockDeadlineExpiry
  loadZero := (∃ codes load, c = .scan codes load) ∨ c = .zeroComplete
  peers := (∃ sender report, c = .statusReceived sender report) ∨ (∃ n, c = .peerRecordExpiry n) ∨ IsRawBytes c
  entries := (∃ readings, c = .loopScan readings) ∨ ∃ l, c = .loopReadingTaken l
  loops := (∃ readings, c = .loopScan readings) ∨ (∃ l, c = .loopReadingTaken l) ∨ (∃ head l, c = .accept head l) ∨
    IsRawBytes c
  inputs := (∃ readings, c = .loopScan readings) ∨ (∃ i, c = .aeHit i) ∨ (∃ i, c = .deadTimeExpiry i) ∨
    (∃ codes load, c = .scan codes load) ∨ c = .averagingRunComplete
  averages := (∃ codes load, c = .scan codes load) ∨ c = .averagingRunComplete
  pressOk := ∃ level, c = .pressOkChange level
  lockEngaged := ∃ level, c = .lockEngagedChange level
  estopPin := c = .estopActive ∨ c = .estopInactive
  timeTag := (∃ head tag, c = .timeset head tag) ∨ IsRawBytes c

theorem receiveBytes_stepKept {heard : HeardTelegram} {s : State} :
    StepKept (allowed (.receivedTelegramDiscard heard)) s (receiveBytes heard s) := by
  obtain ⟨bytes, mark⟩ := heard
  unfold receiveBytes
  split
  · rename_i c hc
    cases mark with
    | endMark =>
      have hraw : IsRawBytes (.receivedTelegramDiscard { bytes := bytes, mark := .endMark }) := ⟨bytes, rfl⟩
      exact handOn_stepKept c trivial (fun _ _ => .inr hraw) (fun _ _ _ => .inr hraw) (fun _ _ _ => .inr (.inr hraw))
        (fun _ => .inr hraw) (fun _ _ _ => .inr (.inr (.inr hraw))) fun _ _ _ => .inr hraw
    | abortMark => cases hc
  · exact .refl

/-- What every command keeps that is neither READING_END nor a start. -/
theorem exec_stepKept (c : Instr) (s : State) (hstart : ¬ IsStart c)
    (hreading : ∀ straps image loops, c ≠ .readingEnd straps image loops) :
    ∃ t, exec c s = .next t ∧ StepKept (allowed c) s t := by
  have telegram : exec c s = .next (handOn c s) → ∃ t, exec c s = .next t ∧ StepKept (allowed c) s t := fun h =>
    ⟨_, h, handOn_stepKept c trivial (fun head hc => .inl ⟨head, hc⟩) (fun head n hc => .inl ⟨head, n, hc⟩)
      (fun sender report hc => .inl ⟨sender, report, hc⟩) .inl (fun head l hc => .inr (.inr (.inl ⟨head, l, hc⟩)))
      fun head tag hc => .inl ⟨head, tag, hc⟩⟩
  have hx : (allowed c).ends := trivial
  cases c with
  | powerUp levels => exact absurd (.inl ⟨levels, rfl⟩) hstart
  | resetPinAssert => exact absurd (.inr (.inl rfl)) hstart
  | resetPinRelease levels => exact absurd (.inr (.inr ⟨levels, rfl⟩)) hstart
  | readingEnd straps image loops => exact absurd rfl (hreading straps image loops)
  | arbitrationOpportunity => exact ⟨_, rfl, .of_quiet opportunity_kept⟩
  | arbitrationLoss => exact ⟨_, rfl, .of_quiet (.ite (fun _ => withdrawOffer_kept) fun _ => .refl)⟩
  | telegramAbandon => exact ⟨_, rfl, .of_quiet (.ite (fun _ => withdrawOffer_kept) fun _ => .refl)⟩
  | receivedTelegramDiscard heard => exact ⟨_, rfl, receiveBytes_stepKept⟩
  | statusTimerExpiry =>
    exact ⟨_, rfl, .of_quiet (.ite (fun _ => onExpiry_kept fun _ _ => statusTimerExpires_kept) fun _ => .refl)⟩
  | statusOwnCompletion => exact ⟨_, rfl, .of_quiet (ownCompletion_kept ownStatusCompletes_kept)⟩
  | alarmOwnCompletion =>
    exact ⟨_, rfl, .of_quiet (ownCompletion_kept fun hc =>
      (ownCompletes_kept_of_other hc (by decide) (by decide)).trans alarmCompletes_kept)⟩
  | replyOwnCompletion =>
    exact ⟨_, rfl, .of_quiet (ownCompletion_kept fun hc =>
      (ownCompletes_kept_of_other hc (by decide) (by decide)).trans replyCompletes_kept)⟩
  | dataOwnCompletion =>
    exact ⟨_, rfl, .of_quiet (ownCompletion_kept fun hc =>
      (ownCompletes_kept_of_other hc (by decide) (by decide)).trans partCompletes_kept)⟩
  | chargeOwnCompletion =>
    exact ⟨_, rfl, .of_started hx (ownCompletion_kept fun hc =>
      (ownCompletes_kept_of_other hc (by decide) (by decide)).trans (chargeCompletes_kept hx (.inr (.inl rfl))))⟩
  | peerRecordExpiry station => exact ⟨_, rfl, .of_quiet (recordExpiry_kept (.inr (.inl ⟨station, rfl⟩)))⟩
  | windowTimerExpiry => exact ⟨_, rfl, .of_quiet (timerEvent_kept fun _ _ _ => judgeWait_kept)⟩
  | shuntClaimOwnCompletion => exact ⟨_, rfl, .of_quiet ownShuntClaim_kept⟩
  | shuntDoneOwnCompletion => exact ⟨_, rfl, .of_quiet ownShuntDone_kept⟩
  | servoTick code =>
    have htick : Kept (allowed (.servoTick code)) s (timerEvent s.servo.timer (servoTimerExpires code) s) :=
      timerEvent_kept fun _ _ _ => Kept.trans {} (servoTickEvent_kept hx ⟨code, rfl⟩ (.inl ⟨code, rfl⟩))
    exact ⟨_, rfl, .of_started hx htick⟩
  | tripCountReached =>
    exact ⟨_, rfl, .of_started hx (whenRunning_kept fun _ => .ite (fun _ => tripCountReached_kept hx) fun _ => .refl)⟩
  | reacquireTimerExpiry => exact ⟨_, rfl, .of_quiet (timerEvent_kept fun _ _ _ => {})⟩
  | holdTimerExpiry => exact ⟨_, rfl, .of_started hx (dwellExpiry_kept fun _ hd => judgeSettle_kept (fun _ => hx) hd)⟩
  | extensionTimerExpiry =>
    exact ⟨_, rfl, .of_started hx (dwellExpiry_kept fun _ _ => extensionExpired_kept fun _ => hx)⟩
  | mismatchTimerExpiry => exact ⟨_, rfl, .of_quiet (timerEvent_kept fun _ _ _ => mismatchExpires_kept)⟩
  | pressOkChange level => exact ⟨_, rfl, pressOkEvent_stepKept hx ⟨level, rfl⟩⟩
  | lockEngagedChange level => exact ⟨_, rfl, lockEngagedEvent_stepKept hx ⟨level, rfl⟩⟩
  | estopActive => exact ⟨_, rfl, estopActiveEvent_stepKept hx (.inl rfl)⟩
  | estopInactive => exact ⟨_, rfl, .of_quiet (estopInactiveEvent_kept (.inr rfl))⟩
  | chargeTimerExpiry => exact ⟨_, rfl, .of_started hx (actuatorExpiry_kept fun _ h => chargeFails_kept hx h)⟩
  | lockTimerExpiry => exact ⟨_, rfl, .of_started hx (actuatorExpiry_kept fun _ h => lockFails_kept hx h)⟩
  | acquisitionTimerExpiry => exact ⟨_, rfl, .of_started hx (actuatorExpiry_kept fun _ h => beginRelease_kept hx h)⟩
  | unlockDeadlineExpiry => exact ⟨_, rfl, .of_started hx (actuatorExpiry_kept fun _ h => unlockFails_kept hx (.inr (.inr rfl)) h)⟩
  | lockCheckTimerExpiry => exact ⟨_, rfl, .of_started hx (timerEvent_kept fun _ _ _ => lockCheckExpires_kept hx)⟩
  | scan codes loadCode =>
    have hscan : Kept (allowed (.scan codes loadCode)) s (timerEvent s.scan.timer (scanTimerExpires codes loadCode) s) :=
      timerEvent_kept fun _ _ hrun =>
        Kept.trans {} (scanEvent_kept hx (.inr (.inr (.inr (.inl ⟨codes, loadCode, rfl⟩)))) (.inl ⟨codes, loadCode, rfl⟩)
          (.inl ⟨codes, loadCode, rfl⟩) (by simpa [advanceTo_units] using hrun))
    exact ⟨_, rfl, .of_started hx hscan⟩
  | averagingRunComplete =>
    exact ⟨_, rfl, .of_started hx (whenRunning_kept fun hrun =>
      .ite (fun _ => completeRun_kept hx (.inr (.inr (.inr (.inr rfl)))) (.inr rfl) hrun) fun _ => .refl)⟩
  | exceedRunReachesM channel =>
    exact ⟨_, rfl, .of_started hx (whenRunning_kept fun _ => .ite (fun _ => exceedReached_kept hx) fun _ => .refl)⟩
  | settleWindowExpiry =>
    exact ⟨_, rfl, .of_quiet (timerEvent_kept fun _ hdue _ =>
      settleWindowEnds_kept (by simp [advanceTo_units, hdue]))⟩
  | zeroComplete => exact ⟨_, rfl, .of_started hx (whenRunning_kept fun _ => endZero_kept hx (.inr rfl))⟩
  | shuntSpanEnd =>
    exact ⟨_, rfl, .of_quiet (whenRunning_kept fun _ => .ite (fun _ => spanEnds_kept) fun _ => .refl)⟩
  | shuntJudgement =>
    exact ⟨_, rfl, .of_started hx (whenRunning_kept fun _ => .ite (fun h =>
      shuntEnds_kept hx (of_decide_eq_true (Bool.and_eq_true _ _ ▸ h).1)) fun _ => .refl)⟩
  | loopScan readings =>
    have hscan : Kept (allowed (.loopScan readings)) s (timerEvent s.crack.timer (monitorExpires readings) s) :=
      timerEvent_kept fun _ _ _ => Kept.trans {} (loopScanEvent_kept hx (.inl ⟨readings, rfl⟩) (.inl ⟨readings, rfl⟩)
        (.inl ⟨readings, rfl⟩))
    exact ⟨_, rfl, .of_started hx hscan⟩
  | loopReadingTaken loop => exact ⟨_, rfl, .of_started hx (whenRunning_kept fun _ => 
      takeCandidate_kept hx (.inr ⟨loop, rfl⟩) (.inr (.inl ⟨loop, rfl⟩)))⟩
  | aeHit input =>
    exact ⟨_, rfl, .of_started hx (whenRunning_kept fun _ => .ite (fun _ => takePulse_kept hx (.inr (.inl ⟨input, rfl⟩))) fun _ => .refl)⟩
  | deadTimeExpiry input => exact ⟨_, rfl, .of_quiet (timerEvent_kept fun _ _ _ => 
      updateAe_kept (.inr (.inr (.inl ⟨input, rfl⟩))) fun h => h)⟩
  | captureEnd =>
    exact ⟨_, rfl, .of_quiet (whenRunning_kept fun _ => .ite (fun _ => captureEnds_kept) fun _ => .refl)⟩
  | fetchRequestExpiry => exact ⟨_, rfl, .of_quiet (whenRunning_kept fun _ => fetchExpiry_kept)⟩
  | _ => exact telegram rfl

end Sys2Proof.Machine

/-! What every step keeps (O51 to O54, O56, O59), and what the commands leave of the records, the crack table and the
latch (O55, O57, O58). -/
namespace Sys2Proof.Machine

open Sys2Proof

-- One proof after the other: the threads of the check, which compiles the whole text at once, share one memory limit.
set_option Elab.async false

/-! ### The invariants that a step keeps -/

/-- The invariants of `s` are those of `t` too. -/
structure Preserves (s t : State) : Prop where
  level : LevelBounded s → LevelBounded t := by exact fun h => h
  drive : DriveBounded s → DriveBounded t := by exact fun h => h
  lines : LinesFollow s → LinesFollow t := by exact fun h => h
  estop : EstopHeld s → EstopHeld t := by exact fun h => h
  run : RunNeedsLive s → RunNeedsLive t := by exact fun h => h
  latched : LatchHolds s → LatchHolds t := by exact fun h => h
  dwell : DwellTimers s → DwellTimers t := by exact fun h => h
  settle : SettleInDwell s → SettleInDwell t := by exact fun h => h
  alarms : AlarmListOk s → AlarmListOk t := by exact fun h => h
  queues : QueuesBounded s → QueuesBounded t := by exact fun h => h
  flow : CommandsFlow s → CommandsFlow t := by exact fun h => h
  take : TakeMatches s → TakeMatches t := by exact fun h => h
  shunt : ShuntGuarded s → ShuntGuarded t := by exact fun h => h
  pool : PoolCanonical s → PoolCanonical t := by exact fun h => h
  memory : MemoryWhole s → MemoryWhole t := by exact fun h => h
  crack : CrackKept s → CrackKept t := by exact fun h => h

namespace Preserves

variable {s t u : State}

theorem refl : Preserves s s := {}

theorem trans (h : Preserves s t) (k : Preserves t u) : Preserves s u where
  level := k.level ∘ h.level
  drive := k.drive ∘ h.drive
  lines := k.lines ∘ h.lines
  estop := k.estop ∘ h.estop
  run := k.run ∘ h.run
  latched := k.latched ∘ h.latched
  dwell := k.dwell ∘ h.dwell
  settle := k.settle ∘ h.settle
  alarms := k.alarms ∘ h.alarms
  queues := k.queues ∘ h.queues
  flow := k.flow ∘ h.flow
  take := k.take ∘ h.take
  shunt := k.shunt ∘ h.shunt
  pool := k.pool ∘ h.pool
  memory := k.memory ∘ h.memory
  crack := k.crack ∘ h.crack

/-- What an operation adds to what was kept before it, in a station whose pin is not held. -/
theorem of_kept_after {x : Exempt} (h : Preserves s t) (k : Kept x t u) (hheld : t.loader.phase ≠ .held)
    (hflow : CommandsFlow s → CommandsFlow u) (hcrack : CrackKept s → CrackKept u) (hlines : ¬ x.lines := by exact id)
    (hestop : ¬ x.estop := by exact id) (hrun : ¬ x.run := by exact id) (hlatched : ¬ x.latched := by exact id)
    (hsettle : ¬ x.settle := by exact id) (htake : ¬ x.take := by exact id) (hshunt : ¬ x.shunt := by exact id) :
    Preserves s u where
  level := k.level ∘ h.level
  drive := k.drive ∘ h.drive
  lines hs := by
    have ht := h.lines hs
    rw [LinesFollow, if_neg hheld] at ht
    rw [LinesFollow, k.loader, if_neg hheld]
    exact k.lines hlines ht
  estop := k.estop hestop ∘ h.estop
  run := k.run hrun ∘ h.run
  latched := k.latched hlatched ∘ h.latched
  dwell := k.dwell ∘ h.dwell
  settle := k.settle hsettle ∘ h.settle
  alarms := k.alarms ∘ h.alarms
  queues := k.queues ∘ h.queues
  flow := hflow
  take := k.take htake ∘ h.take
  shunt := k.shunt hshunt ∘ h.shunt
  pool := k.pool ∘ h.pool
  memory := k.memory ∘ h.memory
  crack := hcrack

theorem start (cause : StartCause) (levels : StartLevels) (pending : List Instr) :
    Preserves s (State.start cause levels pending) where
  level _ := start_levelBounded cause levels pending
  drive _ := start_driveBounded cause levels pending
  lines _ := start_linesFollow cause levels pending
  estop _ := start_estopHeld cause levels pending
  run _ := start_runNeedsLive cause levels pending
  latched _ := start_latchHolds cause levels pending
  dwell _ := start_dwellTimers cause levels pending
  settle _ := start_settleInDwell cause levels pending
  alarms _ := start_alarmListOk cause levels pending
  queues _ := start_queuesBounded cause levels pending
  flow _ := start_commandsFlow cause levels pending
  take _ := start_takeMatches cause levels pending
  shunt _ := start_shuntGuarded cause levels pending
  pool _ := start_poolCanonical cause levels pending
  memory _ := ⟨start_pagesAddUp cause levels pending, start_blocksMatch cause levels pending⟩
  crack _ := start_crackKept cause levels pending

end Preserves

section
variable {s : State}

/-- A held pin is a start whose lines stand safe. -/
theorem holdPin_preserves : Preserves s (holdPin s) := by
  have hheld : ∀ cause levels pending, Preserves (State.start cause levels pending) { State.start cause levels pending with
      loader.phase := .held, pins.iso := false, pins.dump := false, pins.lockCmd := false } := fun cause levels pending => {
    lines := fun _ => rfl
    estop := fun _ hp => absurd rfl hp
    flow := fun h => ⟨h.1, fun _ => h.2 (by simp)⟩
    take := fun h => ⟨h.1, fun _ => h.2 (by simp [lineSends])⟩
    shunt := fun ⟨hactive, hcurrent, hpins, hclaim, hslot, hbehind, hgroup, hidle⟩ =>
      ⟨hactive, hcurrent, hpins, hclaim, hslot, hbehind, hgroup, fun _ => hidle (by simp)⟩
    memory := fun ⟨⟨hlen, hpages, hnodup, hrange, hsum, hone, hfree⟩, hblocks⟩ =>
      ⟨⟨hlen, hpages, hnodup, hrange, hsum, hone, fun _ => hfree (by simp)⟩, hblocks⟩
    crack := fun h => ⟨h.1, fun _ => h.2 (by simp)⟩ }
  exact (Preserves.start .pin _ _).trans (hheld .pin _ _)

/-! ### The end of the reading (R170 to R173) -/

/-- Before the station runs nothing is in a SHUNT's way. -/
theorem beforeRun (h : s.loader.phase = .reading) : s.loader.phase ≠ .running := by
  rw [h]
  decide

/-- The station under its distributed settings, before the raises of the event. -/
def settled (straps : Nat) (image : List Byte) (loops : List LoopReading) (s : State) : State :=
  { beginUnits (beginLine image { s with
      loader := { s.loader with straps := straps, image := image, phase := .running }
      cfg := settingsOf image }) with pins.loopReadings := loops.take 8 }

theorem distribute_eq (straps : Nat) (image : List Byte) (loops : List LoopReading) (s : State) :
    distribute loops { s with loader.straps := straps, loader.image := image } =
      startReadLoops 0 (loops.take 8) (startEstop (settled straps image loops s)) := rfl

/-- With no entry filled a running station keeps its crack table. -/
theorem crackKept_of_empty (hrun : s.loader.phase = .running) (hempty : ∀ e ∈ s.crack.entries, e = none) :
    CrackKept s := by
  refine ⟨fun l _ hfilled => ?_, fun hp => absurd hrun hp⟩
  have hnone : s.crack.entries.getD l none = none := by
    rw [List.getD_eq_getElem?_getD]
    cases hl : s.crack.entries[l]? with
    | none => rfl
    | some e => exact hempty e (List.mem_of_getElem? hl)
  rw [hnone] at hfilled
  cases hfilled

theorem settled_preserves {straps : Nat} {image : List Byte} {loops : List LoopReading}
    (hphase : s.loader.phase = .reading) : Preserves s (settled straps image loops s) where
  lines h := by
    rw [LinesFollow, if_neg (by rw [hphase]; decide)] at h
    exact h
  estop h _ := h (by rw [hphase]; decide)
  flow h := ⟨h.1, fun hp => absurd rfl hp⟩
  take h := by
    have htx := h.2 (by simp [lineSends, hphase])
    exact ⟨(onOffer_of_idle (s := settled straps image loops s) htx).symm, fun hs => by cases hs⟩
  shunt := fun ⟨hactive, hcurrent, hpins, _, hslot, hbehind, _, hidle⟩ => by
    obtain ⟨hshunt, hholder, hempty, hqueue⟩ := hidle (beforeRun hphase)
    rw [slotMatches_of_none hshunt] at hslot
    refine ⟨hactive, hcurrent, hpins, fun ha => ?_, ?_, hbehind, fun _ => ⟨hempty, ?_, ?_⟩, fun hp => absurd rfl hp⟩
    · have ha : shuntStateActive s.scan.shunt = true := ha
      rw [hshunt] at ha
      cases ha
    · rw [slotMatches_of_none (s := settled straps image loops s) hshunt]
      exact hslot
    · exact fun hc => absurd (hshunt.symm.trans hc) (by decide)
    · exact fun hc => absurd (hshunt.symm.trans hc) (by decide)
  memory := fun ⟨⟨hlen, hpages, hnodup, hrange, hsum, hone, hfree⟩, hblocks⟩ => by
    have hfree := hfree (beforeRun hphase)
    refine ⟨⟨hlen, fun e he => ?_, hnodup, hrange, hsum, hone, fun hp => absurd rfl hp⟩, hblocks⟩
    have hlength := hpages e he
    rw [if_pos (hfree e he)] at hlength ⊢
    exact hlength
  crack h := crackKept_of_empty rfl (h.2 (beforeRun hphase)).2

theorem startEstop_kept {x : Exempt} (hx : x.ends) : Kept x s (startEstop s) :=
  .ite (fun _ => raiseEstop_kept hx) fun _ => .refl

theorem startEstop_frame (s : State) :
    (startEstop s).crack = s.crack ∧ (startEstop s).cmd.queue = s.cmd.queue := by
  unfold startEstop
  split <;> simp

/-- The raises of the distribution. -/
theorem distribute_kept {straps : Nat} {image : List Byte} {loops : List LoopReading} :
    Kept { ends := True, reads := True, loops := True } (settled straps image loops s)
      (distribute loops { s with loader.straps := straps, loader.image := image }) :=
  (startEstop_kept trivial).trans (startReadLoops_kept (x := { ends := True, loops := True }) trivial (loops.take 8) 0)

theorem distribute_preserves {straps : Nat} {image : List Byte} {loops : List LoopReading}
    (hphase : s.loader.phase = .reading) :
    Preserves s (distribute loops { s with loader.straps := straps, loader.image := image }) := by
  have hkept := distribute_kept (s := s) (straps := straps) (image := image) (loops := loops)
  refine (settled_preserves hphase).of_kept_after hkept (fun hp => by cases hp) (fun hflow => ?_) fun hcrack => ?_
  · obtain ⟨-, hqueue⟩ := (startReadLoops_kept (x := { loops := True }) trivial (s := startEstop (settled straps image loops s))
      (loops.take 8) 0).command id
    refine ⟨fun _ => ?_, fun hp => ?_⟩
    · rw [distribute_eq, hqueue, (startEstop_frame _).2]
      exact hflow.1 (hflow.2 (beforeRun hphase))
    · rw [hkept.loader] at hp
      exact absurd rfl hp
  · refine crackKept_of_empty (congrArg Loader.phase hkept.loader) ?_
    rw [distribute_eq, startReadLoops_entries, (startEstop_frame _).1]
    exact (hcrack.2 (beforeRun hphase)).2

theorem configFault_preserves {straps : Nat} {image : List Byte} (hphase : s.loader.phase = .reading) :
    Preserves s (enterConfigFault { s with loader.straps := straps, loader.image := image }) where
  lines h := by
    rw [LinesFollow, if_neg (by rw [hphase]; decide)] at h
    exact h
  estop h _ := h (by rw [hphase]; decide)
  flow h := ⟨h.1, fun _ => h.2 (beforeRun hphase)⟩
  take h := ⟨h.1, fun _ => h.2 (by simp [lineSends, hphase])⟩
  shunt := fun ⟨hactive, hcurrent, hpins, _, hslot, hbehind, hgroup, hidle⟩ => by
    obtain ⟨hshunt, hrest⟩ := hidle (beforeRun hphase)
    refine ⟨hactive, hcurrent, hpins, fun ha => ?_, hslot, hbehind, hgroup, fun _ => ⟨hshunt, hrest⟩⟩
    have ha : shuntStateActive s.scan.shunt = true := ha
    rw [hshunt] at ha
    cases ha
  memory := fun ⟨⟨hlen, hpages, hnodup, hrange, hsum, hone, hfree⟩, hblocks⟩ =>
    ⟨⟨hlen, hpages, hnodup, hrange, hsum, hone, fun _ => hfree (beforeRun hphase)⟩, hblocks⟩
  crack h := ⟨h.1, fun _ => h.2 (beforeRun hphase)⟩

theorem readingEnds_preserves {straps : Nat} {image : List Byte} {loops : List LoopReading}
    (hphase : s.loader.phase = .reading) : Preserves s (readingEnds straps image loops s) := by
  unfold readingEnds
  dsimp only
  split
  · exact distribute_preserves hphase
  · exact configFault_preserves hphase

/-! ### Every command, and the step -/

theorem exec_preserves (c : Instr) (s t : State) (h : exec c s = .next t) : Preserves s t := by
  by_cases hstart : IsStart c
  · rcases hstart with ⟨levels, rfl⟩ | rfl | ⟨levels, rfl⟩
    · cases h
      exact .start .power levels s.pending
    · cases h
      exact holdPin_preserves
    · cases h
      split
      · exact .start .pin levels s.pending
      · exact .refl
  · by_cases hheld : s.loader.phase = .held
    · have hsame := heldStationTakesNoEvent c s hheld (fun levels hc => hstart (.inl ⟨levels, hc⟩))
        (fun levels hc => hstart (.inr (.inr ⟨levels, hc⟩))) fun hc => hstart (.inr (.inl hc))
      cases hsame.symm.trans h
      exact .refl
    · by_cases hreading : ∃ straps image loops, c = .readingEnd straps image loops
      · obtain ⟨straps, image, loops, rfl⟩ := hreading
        cases h
        split
        · exact readingEnds_preserves ‹_›
        · exact .refl
      · obtain ⟨u, hu, hkept⟩ := exec_stepKept c s hstart fun straps image loops hc =>
          hreading ⟨straps, image, loops, hc⟩
        cases hu.symm.trans h
        exact .of_kept_after .refl hkept.kept hheld hkept.flow (hkept.kept.crack id)

theorem tick_preserves : Preserves s (tick s) := by
  unfold tick
  split
  · rename_i htakes
    have hheld : s.loader.phase ≠ .held := of_decide_eq_true htakes
    have hkept : StepKept {} s (advanceTo (s.age + 1) s) := .of_quiet advanceTo_kept
    exact Preserves.trans (.of_kept_after .refl hkept.kept hheld hkept.flow (hkept.kept.crack id)) {}
  · exact .refl

theorem step_preserves (s t : State) (h : step s = .next t) : Preserves s t := by
  unfold step at h
  split at h
  · rename_i c rest _
    exact Preserves.trans (t := { s with pending := rest }) {} (exec_preserves c _ t h)
  · cases h
    exact tick_preserves

/-! ### The step lemmas -/

/-- Settles O51. -/
theorem stepKeepsLevelsAndDriveInBounds : Obligations.StepKeepsLevelsAndDriveInBounds :=
  ⟨fun s t hs h => (step_preserves s t h).level hs, fun s t hs h => (step_preserves s t h).drive hs⟩

/-- Settles O52. -/
theorem stepKeepsLinesAndEstop : Obligations.StepKeepsLinesAndEstop :=
  ⟨fun s t hs h => (step_preserves s t h).lines hs, fun s t hs h => (step_preserves s t h).estop hs⟩

/-- Settles O53. -/
theorem stepKeepsAlarmList : Obligations.StepKeepsAlarmList := fun s t hs h => (step_preserves s t h).alarms hs

/-- Settles O54. -/
theorem stepKeepsRecordMemory : Obligations.StepKeepsRecordMemory :=
  ⟨fun s t hpages hblocks h => (step_preserves s t h).memory ⟨hpages, hblocks⟩,
    fun s t hs h => (step_preserves s t h).pool hs⟩

/-- Settles O56. -/
theorem stepKeepsShuntGuarded : Obligations.StepKeepsShuntGuarded := fun s t hs h => (step_preserves s t h).shunt hs

/-- Settles O59. -/
theorem stepKeepsTimersAndQueues : Obligations.StepKeepsTimersAndQueues :=
  ⟨fun s t hs h => (step_preserves s t h).dwell hs, fun s t hs h => (step_preserves s t h).settle hs,
    fun s t hs h => (step_preserves s t h).queues hs, fun s t hs h => (step_preserves s t h).flow hs,
    fun s t hs h => (step_preserves s t h).take hs⟩

/-! ### What becomes of the records, the crack table and the latch -/

/-- A command is a start, leaves the station as it was, is READING_END of a station that reads, or keeps what
`allowed` allows. -/
theorem exec_cases (c : Instr) (s t : State) (h : exec c s = .next t) :
    IsStart c ∨ t = s ∨
      (s.loader.phase = .reading ∧ ∃ straps image loops, c = .readingEnd straps image loops ∧
        t = readingEnds straps image loops s) ∨
      Kept (allowed c) s t := by
  by_cases hstart : IsStart c
  · exact .inl hstart
  · by_cases hreading : ∃ straps image loops, c = .readingEnd straps image loops
    · obtain ⟨straps, image, loops, rfl⟩ := hreading
      cases h
      split
      · exact .inr (.inr (.inl ⟨‹_›, straps, image, loops, rfl, rfl⟩))
      · exact .inr (.inl rfl)
    · obtain ⟨u, hu, hkept⟩ := exec_stepKept c s hstart fun straps image loops hc =>
        hreading ⟨straps, image, loops, hc⟩
      cases hu.symm.trans h
      exact .inr (.inr (.inr hkept.kept))

/-- Settles O57. -/
theorem crackEntryIsKeptToTheStart : Obligations.CrackEntryIsKeptToTheStart := by
  refine ⟨fun s t hs h => (step_preserves s t h).crack hs, fun c s t l e hs hstart hl hfilled h => ?_⟩
  have hentry : t.crack.entries.getD l none = some e := by
    rcases exec_cases c s t h with hc | rfl | ⟨hphase, -⟩ | hkept
    · exact absurd hc hstart
    · exact hfilled
    · have hempty := (hs.2 (beforeRun hphase)).2
      rw [List.getD_eq_getElem?_getD] at hfilled
      cases hl' : s.crack.entries[l]? with
      | none =>
        rw [hl'] at hfilled
        cases hfilled
      | some e' =>
        rw [hl', Option.getD_some, hempty e' (List.mem_of_getElem? hl')] at hfilled
        cases hfilled
    · exact hkept.entries l hl e hfilled
  have ht := (exec_preserves c s t h).crack hs
  exact ⟨hentry, ht.1 l hl (by rw [hentry]; rfl)⟩

theorem readingEnds_latch (straps : Nat) (image : List Byte) (loops : List LoopReading) (s : State) :
    latchCode s.alarm.latch ≤ latchCode (readingEnds straps image loops s).alarm.latch := by
  unfold readingEnds
  dsimp only
  split
  · exact (distribute_kept (s := s)).latch id
  · exact Nat.le_refl _

/-- Settles O58. -/
theorem latchFallsOnlyAtResume : Obligations.LatchFallsOnlyAtResume := by
  refine ⟨fun c s t h hfalls => ?_, fun s t hs h => (step_preserves s t h).run hs,
    fun s t hs h => (step_preserves s t h).latched hs⟩
  by_contra hnone
  simp only [not_or] at hnone
  obtain ⟨hresume, hstart, hraw⟩ := hnone
  rcases exec_cases c s t h with hc | rfl | ⟨-, straps, image, loops, -, rfl⟩ | hkept
  · exact hstart hc
  · exact Nat.lt_irrefl _ hfalls
  · exact absurd (readingEnds_latch straps image loops s) (Nat.not_le.mpr hfalls)
  · exact absurd (hkept.latch fun hlow => hlow.elim hresume hraw) (Nat.not_le.mpr hfalls)

/-- The block is free in `t`, or holds the record it holds in `s`. -/
def FreedOrKept (n : Nat) (s t : State) : Prop :=
  (blockAt n t).state = .free ∨
    (HoldsRecord n t ∧ (blockAt n t).pages = (blockAt n s).pages ∧
      ∀ a, a / 256 ∈ (blockAt n s).pages → poolRead t.recs.pool a = poolRead s.recs.pool a)

theorem freedOrKept_of_kept {x : Exempt} {n : Nat} {s t : State} (h : Kept x s t) (hfrees : ¬ x.frees)
    (hwhole : MemoryWhole s) (hn : HoldsRecord n s) : FreedOrKept n s t :=
  .inr (h.records hfrees hwhole n hn)

theorem freedOrKept_freeRequest {head : CommandHead} {m n : Nat} {s : State} (hroom : replyRoom s = true)
    (hwhole : MemoryWhole s) (hn : HoldsRecord n s) : FreedOrKept n s (freeRequest head m s) := by
  have hanswer : ∀ result reason, FreedOrKept n s (answer head freeCode result reason [] s) := fun _ _ =>
    freedOrKept_of_kept (x := {}) (answer_kept hroom) id hwhole hn
  unfold freeRequest
  split
  · exact hanswer _ _
  · split
    · exact hanswer _ _
    · exact hanswer _ _
    · exact hanswer _ _
    · have hblock : blockAt n (freePagesOf m (answerDone head freeCode s)) =
          if m = n ∧ n < s.recs.table.length then BlockEntry.freeEntry else blockAt n s :=
        setAt_getD m n BlockEntry.freeEntry s.recs.table BlockEntry.freeEntry
      by_cases hm : m = n ∧ n < s.recs.table.length
      · left
        rw [hblock, if_pos hm]
        rfl
      · right
        rw [HoldsRecord, hblock, if_neg hm]
        exact ⟨hn, rfl, fun _ _ => rfl⟩

theorem freedOrKept_freeEvent {head : CommandHead} {m n : Nat} {s : State}
    (hwhole : MemoryWhole s) (hn : HoldsRecord n s) : FreedOrKept n s (freeEvent head m s) :=
  takeCommand_cases (.inr ⟨hn, rfl, fun _ _ => rfl⟩)
    (fun _ hroom => freedOrKept_of_kept (x := {}) (answer_kept hroom) id hwhole hn)
    fun hroom _ => freedOrKept_freeRequest hroom hwhole hn

/-- What any telegram but a FREE may change. -/
def anyTelegram : Exempt where
  ends := True
  lowers := True
  peers := True
  table := True
  loops := True
  timeTag := True

theorem freedOrKept_handOn (c : Instr) {n : Nat} {s : State} (hwhole : MemoryWhole s) (hn : HoldsRecord n s) :
    FreedOrKept n s (handOn c s) := by
  by_cases hfree : ∃ head m, c = .free head m
  · obtain ⟨head, m, rfl⟩ := hfree
    exact freedOrKept_freeEvent hwhole hn
  · exact freedOrKept_of_kept (handOn_stepKept (x := anyTelegram) c trivial (fun _ _ => trivial)
      (fun head m hc => hfree ⟨head, m, hc⟩) (fun _ _ _ => trivial) (fun _ => trivial) (fun _ _ _ => trivial)
      fun _ _ _ => trivial).kept id hwhole hn

theorem freedOrKept_receiveBytes (heard : HeardTelegram) {n : Nat} {s : State} (hwhole : MemoryWhole s)
    (hn : HoldsRecord n s) : FreedOrKept n s (receiveBytes heard s) := by
  unfold receiveBytes
  split
  · exact freedOrKept_handOn _ hwhole hn
  · exact .inr ⟨hn, rfl, fun _ _ => rfl⟩

theorem holdPin_blockAt (n : Nat) (s : State) : blockAt n (holdPin s) = BlockEntry.freeEntry :=
  start_blockAt .pin { pressOk := s.pins.pressOk, lockEngaged := s.pins.lockEngaged, estop := s.pins.estop } s.pending n

theorem exec_freedOrKept (c : Instr) (n : Nat) (s t : State) (hwhole : MemoryWhole s) (hn : HoldsRecord n s)
    (h : exec c s = .next t) : FreedOrKept n s t := by
  have hself : FreedOrKept n s s := .inr ⟨hn, rfl, fun _ _ => rfl⟩
  rcases exec_cases c s t h with hstart | rfl | ⟨hphase, -⟩ | hkept
  · rcases hstart with ⟨levels, rfl⟩ | rfl | ⟨levels, rfl⟩
    · cases h
      left
      rw [start_blockAt]
      rfl
    · cases h
      left
      rw [holdPin_blockAt]
      rfl
    · cases h
      split
      · left
        rw [start_blockAt]
        rfl
      · exact hself
  · exact hself
  · obtain ⟨⟨-, -, -, -, -, -, hfree⟩, -⟩ := hwhole
    have hne := holdsRecord_ne_free hn
    exact absurd (hfree (beforeRun hphase) _ (blockAt_mem (lt_of_blockAt_ne_free hne))) hne
  · by_cases hfree : (∃ head m, c = .free head m) ∨ IsRawBytes c
    · rcases hfree with ⟨head, m, rfl⟩ | ⟨bytes, rfl⟩
      · cases h
        exact freedOrKept_freeEvent hwhole hn
      · cases h
        exact freedOrKept_receiveBytes _ hwhole hn
    · exact freedOrKept_of_kept hkept hfree hwhole hn

/-- Settles O55: no command but FREE gives up a block that holds its record, and no page is in two blocks. -/
theorem sealedBlockKeepsItsBytes : Obligations.SealedBlockKeepsItsBytes := by
  intro c n b s t hpages hblocks hn h
  rcases exec_freedOrKept c n s t ⟨hpages, hblocks⟩ hn h with hfree | ⟨hholds, hsame, hbytes⟩
  · exact .inl hfree
  · refine .inr ⟨hholds, hsame, ?_⟩
    rw [hsame]
    exact blockRead_congr b 1 hbytes

/-! ### The pieces of state and their owners (O60) -/

/-- What READING_END of a station that reads leaves of other owners. -/
theorem readingEnds_owned (straps : Nat) (image : List Byte) (loops : List LoopReading) (s : State) :
    ∃ u : State, Kept { ends := True, reads := True, loops := True } u (readingEnds straps image loops s) ∧
      u.pending = s.pending ∧ u.age = s.age ∧ u.cmd = s.cmd ∧ u.seq = s.seq ∧ SameTick s u ∧
      u.servo.integral = s.servo.integral ∧ u.peers = s.peers ∧ u.crack.inputs = s.crack.inputs ∧
      u.pins.pressOk = s.pins.pressOk ∧ u.pins.lockEngaged = s.pins.lockEngaged ∧ u.pins.estop = s.pins.estop := by
  unfold readingEnds
  dsimp only
  split
  · exact ⟨_, distribute_kept, rfl, rfl, rfl, rfl, ⟨rfl, rfl, rfl, rfl, rfl, rfl, rfl, rfl⟩, rfl, rfl, rfl, rfl, rfl, rfl⟩
  · exact ⟨_, .refl, rfl, rfl, rfl, rfl, ⟨rfl, rfl, rfl, rfl, rfl, rfl, rfl, rfl⟩, rfl, rfl, rfl, rfl, rfl, rfl⟩

end

end Sys2Proof.Machine

/-! The owners of the pieces of state (O60). -/
namespace Sys2Proof.Machine

open Sys2Proof

-- One proof after the other: the threads of the check, which compiles the whole text at once, share one memory limit.
set_option Elab.async false

/-- What a command that is neither a start nor READING_END leaves, by the exemptions it has. -/
theorem owned_of_kept {c : Instr} {s t : State} (h : Kept (allowed c) s t) :
    (t.cfg = s.cfg ∧ t.loader = s.loader ∧ t.line.bitRate = s.line.bitRate ∧
      t.line.statusPeriod = s.line.statusPeriod ∧ t.line.loadGroup = s.line.loadGroup) ∧
    ((∀ head q, c ≠ .program head q) → (∀ head, c ≠ .clearprog head) → ¬ IsRawBytes c →
      t.seq.table = s.seq.table ∧ t.seq.digest = s.seq.digest) ∧
    ((∀ code, c ≠ .servoTick code) → SameTick s t ∧
      (c ≠ .chargeOwnCompletion → c ≠ .unlockDeadlineExpiry → t.servo.integral = s.servo.integral)) ∧
    ((∀ codes load, c ≠ .scan codes load) → c ≠ .zeroComplete → t.servo.loadZero = s.servo.loadZero) ∧
    ((∀ n r, c ≠ .statusReceived n r) → (∀ n, c ≠ .peerRecordExpiry n) → ¬ IsRawBytes c →
      t.peers.records = s.peers.records ∧ t.peers.memberAbsent = s.peers.memberAbsent) ∧
    ((∀ readings, c ≠ .loopScan readings) → (∀ l, c ≠ .loopReadingTaken l) → t.crack.entries = s.crack.entries ∧
      ((∀ head l, c ≠ .accept head l) → ¬ IsRawBytes c → t.crack.loops = s.crack.loops)) := by
  obtain ⟨-, hbit, hperiod, hgroup⟩ := h.line
  refine ⟨⟨h.cfg, h.loader, hbit, hperiod, hgroup⟩, fun hprogram hclear hraw => h.table ?_,
    fun htick => ⟨h.tick ?_, fun hcharge hunlock => h.integral ?_⟩, fun hscan hzero => h.loadZero ?_,
    fun hstatus hexpiry hraw => h.peers ?_, fun hscan hreading => ⟨h.filled ?_, fun haccept hraw => h.loops ?_⟩⟩
  · rintro ((⟨head, q, hc⟩ | ⟨head, hc⟩) | hc)
    · exact hprogram head q hc
    · exact hclear head hc
    · exact hraw hc
  · rintro ⟨code, hc⟩
    exact htick code hc
  · rintro (⟨code, hc⟩ | hc | hc)
    · exact htick code hc
    · exact hcharge hc
    · exact hunlock hc
  · rintro (⟨codes, load, hc⟩ | hc)
    · exact hscan codes load hc
    · exact hzero hc
  · rintro (⟨n, r, hc⟩ | ⟨n, hc⟩ | hc)
    · exact hstatus n r hc
    · exact hexpiry n hc
    · exact hraw hc
  · rintro (⟨readings, hc⟩ | ⟨l, hc⟩)
    · exact hscan readings hc
    · exact hreading l hc
  · rintro (⟨readings, hc⟩ | ⟨l, hc⟩ | ⟨head, l, hc⟩ | hc)
    · exact hscan readings hc
    · exact hreading l hc
    · exact haccept head l hc
    · exact hraw hc

theorem measured_of_kept {c : Instr} {s t : State} (h : Kept (allowed c) s t) :
    ((∀ readings, c ≠ .loopScan readings) → (∀ i, c ≠ .aeHit i) → (∀ i, c ≠ .deadTimeExpiry i) →
      (∀ codes load, c ≠ .scan codes load) → c ≠ .averagingRunComplete → t.crack.inputs = s.crack.inputs) ∧
    ((∀ codes load, c ≠ .scan codes load) → c ≠ .averagingRunComplete → latestAverages t = latestAverages s) ∧
    ((∀ level, c ≠ .pressOkChange level) → t.pins.pressOk = s.pins.pressOk) ∧
    ((∀ level, c ≠ .lockEngagedChange level) → t.pins.lockEngaged = s.pins.lockEngaged) ∧
    (c ≠ .estopActive → c ≠ .estopInactive → t.pins.estop = s.pins.estop) ∧
    ((∀ head tag, c ≠ .timeset head tag) → ¬ IsRawBytes c → t.age = s.age → t.cmd.timeTag = s.cmd.timeTag) ∧
    t.pending = s.pending ∧ s.age ≤ t.age := by
  obtain ⟨hpending, -⟩ := h.line
  refine ⟨fun hscan hhit hdead hsample hrun => h.inputs ?_, fun hsample hrun => h.averages ?_,
    fun hpress => h.pressOk ?_, fun hlock => h.lockEngaged ?_, fun hon hoff => h.estopPin ?_,
    fun htag hraw => h.timeTag ?_, hpending, h.age⟩
  · rintro (⟨readings, hc⟩ | ⟨i, hc⟩ | ⟨i, hc⟩ | ⟨codes, load, hc⟩ | hc)
    · exact hscan readings hc
    · exact hhit i hc
    · exact hdead i hc
    · exact hsample codes load hc
    · exact hrun hc
  · rintro (⟨codes, load, hc⟩ | hc)
    · exact hsample codes load hc
    · exact hrun hc
  · rintro ⟨level, hc⟩
    exact hpress level hc
  · rintro ⟨level, hc⟩
    exact hlock level hc
  · rintro (hc | hc)
    · exact hon hc
    · exact hoff hc
  · rintro (⟨head, tag, hc⟩ | hc)
    · exact htag head tag hc
    · exact hraw hc

/-- Settles O60: what READING_END owns by `readingEnds_owned`, what every other command owns by `allowed`. -/
theorem onlyTheOwnersChangeTheirState : Obligations.OnlyTheOwnersChangeTheirState := by
  intro c s t h hstart
  rcases exec_cases c s t h with hc | rfl | ⟨-, straps, image, loops, rfl, rfl⟩ | hkept
  · exact absurd hc hstart
  · exact ⟨fun _ => ⟨rfl, rfl, rfl, rfl, rfl⟩, fun _ _ _ => ⟨rfl, rfl⟩,
      fun _ => ⟨rfl, rfl, rfl, rfl, rfl, rfl, rfl, rfl, fun _ _ => rfl⟩, fun _ _ _ => rfl, fun _ _ _ => ⟨rfl, rfl⟩,
      fun _ _ _ => ⟨rfl, fun _ _ => rfl⟩, fun _ _ _ _ _ => rfl, fun _ _ _ => rfl, fun _ => rfl, fun _ => rfl,
      fun _ _ => rfl, fun _ _ _ => rfl, rfl, Nat.le_refl _⟩
  · obtain ⟨u, hkept, hpending, hage, hcmd, hseq, htick, hintegral, hpeers, hinputs, hpress, hlock, hestop⟩ :=
      readingEnds_owned straps image loops s
    obtain ⟨hlam, hacc, hset, hmeas, herror, hdrive, hlagging, hover⟩ := htick.trans (hkept.tick id)
    refine ⟨fun hne => absurd rfl (hne straps image loops), fun _ _ _ => ?_,
      fun _ => ⟨hlam, hacc, hset, hmeas, herror, hdrive, hlagging, hover,
        fun _ _ => (hkept.integral id).trans hintegral⟩,
      fun _ _ hne => absurd rfl (hne straps image loops), fun _ _ _ => ?_,
      fun _ _ hne => absurd rfl (hne straps image loops), fun _ _ _ _ _ => (hkept.inputs id).trans hinputs,
      fun _ _ hne => absurd rfl (hne straps image loops), fun _ => (hkept.pressOk id).trans hpress,
      fun _ => (hkept.lockEngaged id).trans hlock, fun _ _ => (hkept.estopPin id).trans hestop, fun _ _ hsame => ?_,
      hkept.line.1.trans hpending, hage ▸ hkept.age⟩
    · have hkeep := hkept.table id
      rwa [hseq] at hkeep
    · have hkeep := hkept.peers id
      rwa [hpeers] at hkeep
    · rw [← hcmd]
      exact hkept.timeTag id (hsame.trans hage.symm)
  · obtain ⟨hconfig, htable, htick, hzero, hpeers, hloops⟩ := owned_of_kept hkept
    refine ⟨fun _ => hconfig, htable, fun hne => ?_, fun hscan hrun _ => hzero hscan hrun, hpeers,
      fun hscan hreading _ => hloops hscan hreading, (measured_of_kept hkept).1,
      fun hscan hrun _ => (measured_of_kept hkept).2.1 hscan hrun, (measured_of_kept hkept).2.2⟩
    obtain ⟨⟨hlam, hacc, hset, hmeas, herror, hdrive, hlagging, hover⟩, hintegral⟩ := htick hne
    exact ⟨hlam, hacc, hset, hmeas, herror, hdrive, hlagging, hover, hintegral⟩

end Sys2Proof.Machine

/-! The line unit's equations (chapter 1): what an opportunity offers (O7), what a telegram that does not complete
leaves (O8), and what the completion of each own telegram does (O9, O11). -/
namespace Sys2Proof.Machine

open Sys2Proof

-- One proof after the other: the threads of the check, which compiles the whole text at once, share one memory limit.
set_option Elab.async false

/-! ### The opportunity and the offer (R8 to R10) -/

theorem opportunity_of_free {s : State} (hsends : lineSends s = true) (hfree : s.line.tx = none) :
    opportunity s = match offeredClass s with
      | some c => offerClass c s
      | none => s := by
  simp only [opportunity, hsends, hfree, if_true] <;> rfl

theorem opportunity_of_offer {t : Transmission} {s : State} (hsends : lineSends s = true) (ht : s.line.tx = some t) :
    opportunity s = offering t.cls true t.bytes s := by
  simp [opportunity, hsends, ht, offering]

/-- Every class but STATUS is offered without being taken (R9). -/
theorem offerClass_of_other {c : TxClass} (h : c ≠ .status) (s : State) :
    offerClass c s = offering c false (headTelegram c s) s := by
  simp [offerClass, h, offering]

theorem offerClass_status (s : State) :
    offerClass .status s =
      { offering .status false (frame 4 (ownStation s) 0 0x05 (statusPayload s)) s with
        line.statusSlot := .taken s.line.events false
        line.afterTake := 0 } := by
  simp [offerClass, takeStatus, offering, headTelegram, classCode, statusTelegramCode]

/-- A STATUS slot that is not empty is what is offered where no class before it has a telegram (R8). -/
theorem opportunity_of_status {s : State} (hsends : lineSends s = true) (hfree : s.line.tx = none)
    (halarm : s.line.alarmQ = []) (hcharge : s.line.chargeSlot = none) (hshunt : s.line.shuntSlot = none)
    (hstatus : s.line.statusSlot ≠ .empty) :
    opportunity s =
      { offering .status false (frame 4 (ownStation s) 0 0x05 (statusPayload s)) s with
        line.statusSlot := .taken s.line.events false
        line.afterTake := 0 } := by
  have hclass : offeredClass s = some .status := by
    simp [offeredClass, halarm, hcharge, hshunt, statusWaits, hstatus]
  rw [opportunity_of_free hsends hfree, hclass]
  exact offerClass_status s

/-- Settles O7, the free line by the first queue that is not empty. -/
theorem opportunityOffersTheFirstClass : Obligations.OpportunityOffersTheFirstClass := by
  refine ⟨fun s hsends hfree => congrArg Host.Outcome.next ?_,
    fun t s hsends ht => congrArg Host.Outcome.next (opportunity_of_offer hsends ht),
    fun s hsends => congrArg Host.Outcome.next (by simp [opportunity, hsends])⟩
  cases halarm : s.line.alarmQ with
  | cons a rest =>
    rw [opportunity_of_free hsends hfree]
    simp [offeredClass, halarm, offerClass_of_other, headTelegram, classCode, alarmTelegramCode]
  | nil =>
  cases hcharge : s.line.chargeSlot with
  | some p =>
    rw [opportunity_of_free hsends hfree]
    simp [offeredClass, halarm, hcharge, offerClass_of_other, headTelegram, classCode, chargeTelegramCode, leBytes]
  | none =>
  cases hshunt : s.line.shuntSlot with
  | some g =>
    rw [opportunity_of_free hsends hfree]
    simp [offeredClass, halarm, hcharge, hshunt, offerClass_of_other, headTelegram, shuntBytes, classCode,
      claimTelegramCode, doneTelegramCode, leBytes]
  | none =>
  cases hstatus : s.line.statusSlot with
  | waiting => exact opportunity_of_status hsends hfree halarm hcharge hshunt (by simp [hstatus])
  | taken snapshot again => exact opportunity_of_status hsends hfree halarm hcharge hshunt (by simp [hstatus])
  | empty =>
  cases hreply : s.line.replyQ with
  | cons r rest =>
    rw [opportunity_of_free hsends hfree]
    simp [offeredClass, halarm, hcharge, hshunt, statusWaits, hstatus, hreply, offerClass_of_other, headTelegram,
      classCode, replyTelegramCode]
  | nil =>
  cases hdata : s.line.dataQ with
  | cons p rest =>
    rw [opportunity_of_free hsends hfree]
    simp [offeredClass, halarm, hcharge, hshunt, statusWaits, hstatus, hreply, hdata, offerClass_of_other,
      headTelegram, classCode, dataTelegramCode, dataPayload, leBytes]
  | nil =>
    rw [opportunity_of_free hsends hfree]
    simp [offeredClass, halarm, hcharge, hshunt, statusWaits, hstatus, hreply, hdata]

/-! ### Losses and abandons (R2, R3, R7) -/

theorem exec_withdrawn {c : Instr} {s : State} (hc : c = .arbitrationLoss ∨ c = .telegramAbandon)
    (hsends : lineSends s = true) : exec c s = .next (withdrawOffer s) := by
  rcases hc with rfl | rfl
  · exact congrArg Host.Outcome.next (if_pos hsends)
  · exact congrArg Host.Outcome.next (if_pos hsends)

/-- Settles O8, by the class of the telegram. -/
theorem withdrawnTelegramStaysQueued : Obligations.WithdrawnTelegramStaysQueued := by
  intro c t s hc hsends ht
  rw [exec_withdrawn hc hsends]
  simp only [withdrawOffer, ht]
  cases t.cls with
  | shunt => simp [releaseShuntSlot]
  | status => rfl
  | alarm => rfl
  | charge => rfl
  | reply => rfl
  | data => rfl

/-! ### Own completions (R6, R9, R11, R13, R14) -/

theorem onOffer_of_onOffer {c : TxClass} {s : State} (h : OnOffer c s) : onOffer c s = true := by
  obtain ⟨bytes, won, htx⟩ := h
  simp [onOffer, htx]

theorem ownCompletion_of_offer {c : TxClass} {f : State → State} {s : State} (hsends : lineSends s = true)
    (hoffer : OnOffer c s) : ownCompletion c f s = f (ownCompletes s) := by
  rw [ownCompletion, if_pos hsends, onOwnCompletion, if_pos (onOffer_of_onOffer hoffer)]

theorem ownCompletion_of_running {c : TxClass} {f : State → State} {s : State} (hphase : s.loader.phase = .running)
    (hoffer : OnOffer c s) : ownCompletion c f s = f (completed s) := by
  rw [ownCompletion_of_offer (by simp [lineSends, hphase]) hoffer, ownCompletes_of_running hphase]

/-- A station in CONFIG_FAULT has no cause to report gone (R15, R173). -/
theorem ownCompletion_of_configFault {c : TxClass} {f : State → State} {s : State}
    (hphase : s.loader.phase = .configFault) (hlo : 1 ≤ ownStation s) (hhi : ownStation s ≤ 27) (hoffer : OnOffer c s) :
    ownCompletion c f s =
      f { s with line.tx := none, line.ownCompleted := true, line.faultCount := 0, line.lineFault := false } := by
  have hsends : lineSends s = true := by
    simp only [lineSends, hphase, isFrameStation, decide_eq_true_eq]
    exact ⟨hlo, hhi⟩
  rw [ownCompletion_of_offer hsends hoffer]
  simp [ownCompletes, isRunning, hphase]

theorem statusCompletes_of_taken {snapshot : Half} {again : Bool} {s : State}
    (h : s.line.statusSlot = .taken snapshot again) :
    statusCompletes s =
      { s with
        line.statusSlot := if again then .waiting else .empty
        line.events := s.line.afterTake
        line.afterTake := 0 } := by
  unfold statusCompletes
  rw [h]
  cases again <;> rfl

/-! ### The own DATA part (R158, R159) -/

theorem partCompletes_of_head {p : DataPart} {rest : List DataPart} {d : Sending} {s : State}
    (hqueue : s.line.dataQ = p :: rest) (hsending : s.recs.sending = some d) :
    partCompletes s =
      if 4 * s.cfg.blockPages ≤ p.part + 1 then sendingEnds d.block { s with line.dataQ := rest }
      else placeParts { s with line.dataQ := rest } := by
  simp [partCompletes, hqueue, dataCompleted, hsending]

/-- The requests answered EMPTY in order: where the REPLY queue has room for all of them, that is their answers at its
tail. -/
theorem answerAllEmpty_of_room (requests : List FetchRequest) (s : State)
    (hroom : s.line.replyQ.length + requests.length ≤ 4) :
    answerAllEmpty requests s = { s with line.replyQ := s.line.replyQ ++ requests.map (fun q =>
      { dest := q.console, kindCode := 0x48, result := .empty, reason := .none, data := [] }) } := by
  induction requests generalizing s with
  | nil => simp [answerAllEmpty]
  | cons r rest ih =>
    have hfirst : s.line.replyQ.length < 4 := by rw [List.length_cons] at hroom; omega
    rw [answerAllEmpty, answerEmpty, placeLateReply_of_room hfirst, ih _ (by simp [placeReply] at hroom ⊢; omega)]
    simp [placeReply, fetchCode]

/-- With no request waiting the end of a sending is only that. -/
theorem expireAfterSending_of_none {s : State} (h : s.recs.fetchQ = []) : expireAfterSending s = s := by
  simp [expireAfterSending, h, answerAllEmpty]
  rw [← h]

/-- A request that has not reached its expiry goes on waiting, as if it had joined with none SENDING. -/
theorem expireAfterSending_of_unexpired {s : State} (h : ∀ q ∈ s.recs.fetchQ, s.age < q.expiry) :
    expireAfterSending s =
      { s with recs.fetchQ := s.recs.fetchQ.map (fun q => { q with joinedSending := false }) } := by
  have hlive : ∀ q ∈ s.recs.fetchQ, expiredBySending s.age q = false := fun q hq => by
    simp [expiredBySending, h q hq]
  have hnone : s.recs.fetchQ.filter (expiredBySending s.age) = [] :=
    List.filter_eq_nil_iff.mpr fun q hq => by simp [hlive q hq]
  have hall : s.recs.fetchQ.filter (fun r => !expiredBySending s.age r) = s.recs.fetchQ :=
    List.filter_eq_self.mpr fun q hq => by simp [hlive q hq]
  rw [expireAfterSending, hnone, hall]
  rfl

/-- Requests that all joined during the sending: those that have reached their expiry are answered EMPTY, the others
wait on (R158). -/
theorem expireAfterSending_of_joined {s : State} (h : ∀ q ∈ s.recs.fetchQ, q.joinedSending = true)
    (hroom : s.line.replyQ.length + s.recs.fetchQ.length ≤ 4) :
    expireAfterSending s =
      { s with
        line.replyQ := s.line.replyQ ++ (s.recs.fetchQ.filter (fun q => decide (q.expiry ≤ s.age))).map (fun q =>
          { dest := q.console, kindCode := 0x48, result := .empty, reason := .none, data := [] })
        recs.fetchQ := (s.recs.fetchQ.filter (fun q => decide (s.age < q.expiry))).map (fun q =>
          { q with joinedSending := false }) } := by
  have hexpired : s.recs.fetchQ.filter (expiredBySending s.age) =
      s.recs.fetchQ.filter (fun q => decide (q.expiry ≤ s.age)) :=
    List.filter_congr fun q hq => by simp [expiredBySending, h q hq]
  have hlive : s.recs.fetchQ.filter (fun r => !expiredBySending s.age r) =
      s.recs.fetchQ.filter (fun q => decide (s.age < q.expiry)) :=
    List.filter_congr fun q hq => by
      rw [expiredBySending, h q hq, Bool.true_and, ← decide_not, decide_eq_decide, not_le]
  have hlength := List.length_filter_le (fun q => decide (q.expiry ≤ s.age)) s.recs.fetchQ
  rw [expireAfterSending, hexpired, hlive, answerAllEmpty_of_room _ _ (by dsimp only; omega)]

/-- The last part has completed with a request waiting and a block SEALED: the oldest request is answered DONE and
sent the head of the sealed queue (R158, R159). -/
theorem sendingEnds_of_sealed {s : State} {block b : Nat} {queue : List Nat} {r : FetchRequest}
    {waiting : List FetchRequest} (hsealed : s.recs.sealedQ = b :: queue) (hfetch : s.recs.fetchQ = r :: waiting)
    (hlive : ∀ q ∈ waiting, s.age < q.expiry) (hroom : s.line.replyQ.length < 4) :
    sendingEnds block s = sendStarted b r.console
      { s with
        line.replyQ := s.line.replyQ ++
          [{ dest := r.console, kindCode := 0x48, result := .done, reason := .none, data := [] }]
        recs.sending := none
        recs.fetchQ := waiting.map (fun q => { q with joinedSending := false })
        recs.table := modifyAt (fun e => { e with state := .sent }) block s.recs.table } := by
  rw [sendingEnds, serveFetch_of_waiting (b := b) (queue := queue) (r := r) (rest := waiting) (by rfl)
      (by exact hsealed) (by exact hfetch),
    startSending_eq_sendStarted, placeLateReply_of_room (by exact hroom),
    expireAfterSending_of_unexpired (by exact hlive)]
  rfl

/-- Settles O9: each completion by the equation of its queue, the last part's by what the fetch queue and the sealed
queue hold. -/
theorem ownCompletionsEmptyTheirQueues : Obligations.OwnCompletionsEmptyTheirQueues := by
  refine ⟨⟨?faultStatus, ?faultReply⟩, ?status, ⟨?alarm, ?reply, ?replyHeld⟩, ⟨?part, ?lastIdle⟩, ?lastServed,
    ?lastNone⟩
  case faultStatus =>
    intro s snapshot again hphase hlo hhi hoffer hslot
    exact congrArg Host.Outcome.next
      ((ownCompletion_of_configFault hphase hlo hhi hoffer).trans (statusCompletes_of_taken hslot))
  case faultReply =>
    intro s r rest hphase hlo hhi hoffer hqueue
    refine congrArg Host.Outcome.next ((ownCompletion_of_configFault hphase hlo hhi hoffer).trans ?_)
    simp [replyCompletes, hqueue]
  case status =>
    intro s snapshot again hphase hoffer hslot
    exact congrArg Host.Outcome.next ((ownCompletion_of_running hphase hoffer).trans (statusCompletes_of_taken hslot))
  case alarm =>
    intro s a rest hphase hoffer hqueue
    refine congrArg Host.Outcome.next ((ownCompletion_of_running hphase hoffer).trans ?_)
    simp [alarmCompletes, completed, hqueue]
  case reply =>
    intro s r rest hphase hoffer hqueue hheld
    refine congrArg Host.Outcome.next ((ownCompletion_of_running hphase hoffer).trans ?_)
    simp [replyCompletes, completed, hqueue, hheld]
  case replyHeld =>
    intro s r h rest held hphase hoffer hqueue hheld
    refine congrArg Host.Outcome.next ((ownCompletion_of_running hphase hoffer).trans ?_)
    simp [replyCompletes, completed, hqueue, hheld]
  case part =>
    intro s p rest d hphase hoffer hqueue hsending hpart
    refine congrArg Host.Outcome.next ((ownCompletion_of_running hphase hoffer).trans ?_)
    rw [partCompletes_of_head (s := completed s) hqueue hsending, if_neg (by exact Nat.not_le.mpr hpart)]
    simp [placeParts, completed, hsending, dataPart, blockAt, Config.dataQueueSize]
  case lastIdle =>
    intro s p rest d hphase hoffer hqueue hsending hpart hfetch
    refine congrArg Host.Outcome.next ((ownCompletion_of_running hphase hoffer).trans ?_)
    rw [partCompletes_of_head (s := completed s) hqueue hsending, if_pos (by exact hpart), sendingEnds,
      serveFetch_of_idle (by exact .inr (.inr hfetch)), expireAfterSending_of_none (by exact hfetch)]
    rfl
  case lastServed =>
    intro s p rest d b queue r waiting hphase hoffer hqueue hsending hpart hsealed hfetch hlive hroom
    refine congrArg Host.Outcome.next ((ownCompletion_of_running hphase hoffer).trans ?_)
    rw [partCompletes_of_head (s := completed s) hqueue hsending, if_pos (by exact hpart),
      sendingEnds_of_sealed (by exact hsealed) (by exact hfetch) (by exact hlive) (by exact hroom)]
    rfl
  case lastNone =>
    intro s p rest d hphase hoffer hqueue hsending hpart hsealed hjoined hroom
    refine congrArg Host.Outcome.next ((ownCompletion_of_running hphase hoffer).trans ?_)
    rw [partCompletes_of_head (s := completed s) hqueue hsending, if_pos (by exact hpart), sendingEnds,
      serveFetch_of_idle (by exact .inr (.inl hsealed)),
      expireAfterSending_of_joined (by exact hjoined) (by exact hroom)]
    rfl

/-! ### Own SHUNT telegrams (R7, R108, R110, R111) -/

theorem shuntIsDone_of_slot {t : ShuntTelegram} {s : State} (h : s.line.shuntSlot = some t) :
    shuntIsDone s = t.isDone := by
  simp [shuntIsDone, h]

/-- An own SHUNT telegram has left its slot, with none behind it. -/
def shuntSent (s : State) : State :=
  { completed s with line.shuntSlot := none }

@[simp] theorem shuntSent_frame (s : State) :
    (shuntSent s).scan = s.scan ∧ (shuntSent s).cfg = s.cfg ∧ (shuntSent s).loader = s.loader ∧
      (shuntSent s).age = s.age ∧ ownStation (shuntSent s) = ownStation s ∧ (shuntSent s).line.shuntSlot = none :=
  ⟨rfl, rfl, rfl, rfl, rfl, rfl⟩

theorem exec_shuntClaimOwnCompletion {s : State} (hphase : s.loader.phase = .running) (hoffer : OnOffer .shunt s)
    (hslot : s.line.shuntSlot = some { isDone := false, group := s.cfg.excitation })
    (hbehind : s.line.shuntDoneBehind = false) :
    exec .shuntClaimOwnCompletion s =
      .next (noticeIfEmpty (ownClaimCompleted (claimNoted s.cfg.excitation (shuntSent s)))) := by
  have hnot : ¬ shuntIsDone s = true := by simp [shuntIsDone_of_slot hslot]
  refine congrArg Host.Outcome.next ((if_neg hnot).trans ((ownCompletion_of_running hphase hoffer).trans ?_))
  rw [ownClaimCompletes_of_claim (s := completed s) hslot rfl, releaseShuntSlot_of_alone (by exact hbehind)]
  rfl

theorem exec_shuntDoneOwnCompletion {s : State} (hphase : s.loader.phase = .running) (hoffer : OnOffer .shunt s)
    (hslot : s.line.shuntSlot = some { isDone := true, group := s.cfg.excitation })
    (hbehind : s.line.shuntDoneBehind = false) :
    exec .shuntDoneOwnCompletion s = .next (noticeIfEmpty (doneNoted s.cfg.excitation (shuntSent s))) := by
  have hyes : shuntIsDone s = true := by simp [shuntIsDone_of_slot hslot]
  refine congrArg Host.Outcome.next ((if_pos hyes).trans ((ownCompletion_of_running hphase hoffer).trans ?_))
  rw [ownDoneCompletes_of_done (s := completed s) hslot rfl, releaseShuntSlot_of_alone (by exact hbehind)]
  rfl

theorem ownGroup_excitation {s : State} (h : s.cfg.excitation ≠ 0) : ownGroup s.cfg.excitation s = true := by
  simp [ownGroup, h]

theorem claimNoted_of_free {group : Nat} {s : State} (hgroup : ownGroup group s = true) (hfree : s.scan.holder = none) :
    claimNoted group s = { s with scan.holder := some { station := ownStation s, age := s.age } } := by
  simp [claimNoted, hgroup, claimCompletes, hfree]

theorem claimNoted_of_held {s : State} {h : Holder} (hheld : s.scan.holder = some h) (group : Nat) :
    claimNoted group s = s := by
  simp [claimNoted, claimCompletes, hheld]

theorem doneNoted_own {group : Nat} {s : State} (hgroup : ownGroup group s = true) (hwait : s.scan.shunt ≠ .waiting) :
    doneNoted group s =
      { s with scan.holder :=
        match s.scan.holder with
        | some h => if h.station = ownStation s then none else some h
        | none => none } := by
  rw [doneNoted, if_pos hgroup, doneCompletes]
  cases hholder : s.scan.holder with
  | none =>
    rw [if_neg (by simp [isHolder, hholder])]
    simp [← hholder]
  | some h =>
    by_cases hown : h.station = ownStation s
    · rw [if_pos (by simp [isHolder, hholder, hown])]
      simp [holderReleased, hwait, hown]
    · rw [if_neg (by simp [isHolder, hholder, hown])]
      simp [hown, ← hholder]

/-- Settles O11: the claim by whether a station holds the group, the SHUNT_DONE by whether a claim is held for the
slot. -/
theorem ownShuntTelegramsReachTheHolder : Obligations.OwnShuntTelegramsReachTheHolder := by
  refine ⟨fun s hphase hoffer hgroup hslot hbehind hshunt hheld => ⟨fun hfree => ?_, fun h hholder hother => ?_⟩,
    fun s hphase hoffer hgroup hslot hbehind hwait => ?_⟩
  · rw [exec_shuntClaimOwnCompletion hphase hoffer hslot hbehind,
      claimNoted_of_free (s := shuntSent s) (by exact ownGroup_excitation hgroup) hfree, ownClaimCompleted,
      if_pos ⟨hshunt, hheld⟩,
      if_pos (by simp [isHolder, ownStation]), noticeIfEmpty_of_free (by exact hheld)]
    simp [enterBefore, mapFrom_const, shuntSent, completed, ownStation]
  · rw [exec_shuntClaimOwnCompletion hphase hoffer hslot hbehind,
      claimNoted_of_held (s := shuntSent s) hholder, ownClaimCompleted, if_pos ⟨hshunt, hheld⟩,
      if_neg (by simp [isHolder, hholder, hother]), noticeIfEmpty_of_free (by exact hheld)]
    rfl
  · rw [exec_shuntDoneOwnCompletion hphase hoffer hslot hbehind,
      doneNoted_own (s := shuntSent s) (by exact ownGroup_excitation hgroup) hwait]
    cases hheld : s.scan.claimHeld with
    | false =>
      rw [noticeIfEmpty_of_free (by exact hheld)]
      simp [shuntSent, completed, ownStation, ← hheld] <;> rfl
    | true =>
      rw [noticeIfEmpty_of_held rfl (by exact hheld)]
      simp [shuntSent, completed, ownStation] <;> rfl

end Sys2Proof.Machine

/-! The record memory's layer for seals and captures (sections 9.2 to 9.5): what a read of a block returns after a write
to it, what a seal leaves, and with it CUT, the end of a capture and the expiry of a request (O40). -/
namespace Sys2Proof.Machine

open Sys2Proof

-- One proof after the other: the threads of the check, which compiles the whole text at once, share one memory limit.
set_option Elab.async false

/-! ### A read after a write (R147) -/

/-- The byte `x` of a block. -/
def blockByte (pages : List Nat) (m : List Host.Cell) (x : Nat) : Byte :=
  match blockAddress pages x with
  | some a => poolRead m a
  | none => 0

/-- Pages that a block of `k` pages can hold: distinct, and of the pool. -/
structure PagesOf (k : Nat) (pages : List Nat) : Prop where
  length : pages.length = k
  nodup : pages.Nodup
  bound : ∀ p ∈ pages, p < 256

theorem blockRead_eq_map (pages : List Nat) (offset n : Nat) (m : List Host.Cell) :
    blockRead pages offset n m = (List.range n).map (fun i => blockByte pages m (offset + i)) := by
  induction n generalizing offset with
  | zero => rfl
  | succ n ih =>
    rw [blockRead, ih, List.range_succ_eq_map, List.map_cons, List.map_map]
    refine congrArg (List.cons _) (List.map_congr_left fun i _ => ?_)
    simp only [Function.comp_apply]
    congr 1
    omega

theorem blockAddress_of_lt {pages : List Nat} {k x : Nat} (h : PagesOf k pages) (hx : x < 256 * k) :
    ∃ p, pages[x / 256]? = some p ∧ blockAddress pages x = some (256 * p + x % 256) ∧ p < 256 := by
  have hlt : x / 256 < pages.length := by rw [h.length]; omega
  refine ⟨pages[x / 256], List.getElem?_eq_getElem hlt, ?_, h.bound _ (List.getElem_mem hlt)⟩
  simp [blockAddress, List.getElem?_eq_getElem hlt]

/-- No two bytes of a block share an address. -/
theorem blockAddress_injective {pages : List Nat} {k x y a : Nat} (h : PagesOf k pages) (hx : x < 256 * k)
    (hy : y < 256 * k) (hax : blockAddress pages x = some a) (hay : blockAddress pages y = some a) : x = y := by
  obtain ⟨p, hp, hpx, -⟩ := blockAddress_of_lt h hx
  obtain ⟨q, hq, hqy, -⟩ := blockAddress_of_lt h hy
  have hsame : 256 * p + x % 256 = 256 * q + y % 256 := by
    rw [← Option.some.injEq, ← hpx, ← hqy, hax, hay]
  have hpq : p = q := by omega
  have hindex : x / 256 = y / 256 := by
    refine (List.getElem?_inj (by rw [h.length]; omega) h.nodup).mp ?_
    rw [hp, hq, hpq]
  omega

/-- One byte written into a block. -/
theorem blockByte_write_one {pages : List Nat} {k o x a : Nat} {m : List Host.Cell} (h : PagesOf k pages)
    (hm : Memory.wf m = true) (ho : o < 256 * k) (ha : blockAddress pages o = some a) (v : Byte) :
    blockByte pages (if a < 65536 then poolWrite m a v else m) x = if x = o then v else blockByte pages m x := by
  obtain ⟨p, -, hpo, hp⟩ := blockAddress_of_lt h ho
  have hbound : a < 65536 := by
    have hsame : 256 * p + o % 256 = a := Option.some.inj (hpo.symm.trans ha)
    omega
  rw [if_pos hbound]
  by_cases hxo : x = o
  · rw [if_pos hxo, hxo, blockByte, ha]
    simp [poolRead_poolWrite a v a hm]
  · rw [if_neg hxo, blockByte, blockByte]
    split
    · rename_i b hb
      have hx : x < 256 * k := by
        by_contra hle
        have hnone : pages[x / 256]? = none := List.getElem?_eq_none (by rw [h.length]; omega)
        simp [blockAddress, hnone] at hb
      rw [poolRead_poolWrite a v b hm, if_neg]
      exact fun hba => hxo (blockAddress_injective h hx ho hb (hba ▸ ha))
    · rfl

/-- A byte of a block after a write that ends within the block: the byte written there, what stood there elsewhere. -/
theorem blockByte_blockWrite {pages : List Nat} {k o x : Nat} {bytes : List Byte} {m : List Host.Cell}
    (h : PagesOf k pages) (hm : Memory.wf m = true) (hfit : o + bytes.length ≤ 256 * k) :
    blockByte pages (blockWrite pages o bytes m) x =
      if o ≤ x ∧ x < o + bytes.length then bytes.getD (x - o) 0 else blockByte pages m x := by
  induction bytes generalizing o m with
  | nil => rw [if_neg (by simp)]; rfl
  | cons v r ih =>
    rw [List.length_cons] at hfit ⊢
    obtain ⟨p, -, haddress, -⟩ := blockAddress_of_lt h (show o < 256 * k by omega)
    have hwf : Memory.wf (if 256 * p + o % 256 < 65536 then poolWrite m (256 * p + o % 256) v else m) = true := by
      split
      · exact poolWrite_wf ‹_› hm
      · exact hm
    rw [blockWrite, haddress, ih hwf (by omega), blockByte_write_one h hm (by omega) haddress]
    by_cases hlt : x < o
    · rw [if_neg (by omega), if_neg (by omega), if_neg (by omega)]
    · by_cases heq : x = o
      · rw [if_neg (by omega), if_pos heq, if_pos (by omega), heq, Nat.sub_self]; rfl
      · by_cases hend : x < o + (r.length + 1)
        · rw [if_pos (by omega), if_pos (by omega), show x - o = (x - (o + 1)) + 1 by omega]; rfl
        · rw [if_neg (by omega), if_neg heq, if_neg (by omega)]

/-- What was written is what is read. -/
theorem blockRead_blockWrite {pages : List Nat} {k o n : Nat} {bytes : List Byte} {m : List Host.Cell}
    (h : PagesOf k pages) (hm : Memory.wf m = true) (hn : bytes.length = n) (hfit : o + n ≤ 256 * k) :
    blockRead pages o n (blockWrite pages o bytes m) = bytes := by
  subst hn
  refine List.ext_getElem (by simp [blockRead_eq_map]) fun i hi hlt => ?_
  simp only [blockRead_eq_map, List.getElem_map, List.getElem_range, blockByte_blockWrite h hm hfit]
  rw [if_pos (by omega), Nat.add_sub_cancel_left]
  simp [hlt]

/-- A write elsewhere in the block is not read. -/
theorem blockRead_blockWrite_of_apart {pages : List Nat} {k o x n : Nat} {bytes : List Byte} {m : List Host.Cell}
    (h : PagesOf k pages) (hm : Memory.wf m = true) (hfit : o + bytes.length ≤ 256 * k)
    (hapart : x + n ≤ o ∨ o + bytes.length ≤ x) :
    blockRead pages x n (blockWrite pages o bytes m) = blockRead pages x n m := by
  simp only [blockRead_eq_map, blockByte_blockWrite h hm hfit]
  refine List.map_congr_left fun i hi => if_neg ?_
  have hi : i < n := List.mem_range.mp hi
  omega

theorem pagesOf_block {n : Nat} {s : State} (h : PagesAddUp s) (hn : (blockAt n s).state ≠ .free) :
    PagesOf s.cfg.blockPages (blockAt n s).pages := by
  obtain ⟨-, hlength, hnodup, hbound, -⟩ := h
  have hlt := lt_of_blockAt_ne_free hn
  have hmem := blockAt_mem hlt
  refine ⟨by simpa [hn] using hlength _ hmem, ?_, fun p hp => hbound p (mem_heldPages_of_blockAt hp)⟩
  exact (List.nodup_flatMap.mp hnodup).1 _ hmem

/-! ### The FILLING block (R147) -/

theorem index_unique_of_countP {α : Type} {p : α → Bool} {l : List α} (hcount : l.countP p ≤ 1) {i j : Nat}
    (hi : i < l.length) (hj : j < l.length) (hpi : p l[i] = true) (hpj : p l[j] = true) : i = j := by
  induction l generalizing i j with
  | nil => exact absurd hi (Nat.not_lt_zero i)
  | cons x r ih =>
    rw [List.countP_cons] at hcount
    have hrest : p x = true → r.countP p = 0 := fun hx => by rw [if_pos hx] at hcount; omega
    cases i with
    | zero =>
      cases j with
      | zero => rfl
      | succ j =>
        have hnone := List.countP_eq_zero.mp (hrest hpi) _ (List.getElem_mem (Nat.lt_of_succ_lt_succ hj))
        exact absurd hpj hnone
    | succ i =>
      cases j with
      | zero =>
        have hnone := List.countP_eq_zero.mp (hrest hpj) _ (List.getElem_mem (Nat.lt_of_succ_lt_succ hi))
        exact absurd hpi hnone
      | succ j => exact congrArg (· + 1) (ih (by omega) _ _ hpi hpj)

theorem fillingBlock_eq_none_iff {s : State} : fillingBlock s = none ↔ ∀ n, (blockAt n s).state ≠ .filling := by
  constructor
  · intro h n hn
    have hlt := lt_of_blockAt_ne_free (n := n) (s := s) (by rw [hn]; decide)
    have hnot := List.findIdx?_eq_none_iff.mp h _ (blockAt_mem hlt)
    simp [hn] at hnot
  · intro h
    refine List.findIdx?_eq_none_iff.mpr fun e he => ?_
    obtain ⟨n, hn, rfl⟩ := List.getElem_of_mem he
    have hstate := h n
    rw [blockAt, List.getD_eq_getElem?_getD, List.getElem?_eq_getElem hn] at hstate
    simpa using hstate

theorem fillingBlock_of_state {n : Nat} {s : State}
    (hone : s.recs.table.countP (fun e => decide (e.state = .filling)) ≤ 1) (h : (blockAt n s).state = .filling) :
    fillingBlock s = some n := by
  cases hfound : fillingBlock s with
  | none => exact absurd h (fillingBlock_eq_none_iff.mp hfound n)
  | some m =>
    have hm := fillingBlock_state hfound
    have hlt {i : Nat} (hi : (blockAt i s).state = .filling) : i < s.recs.table.length :=
      lt_of_blockAt_ne_free (by rw [hi]; decide)
    have hget {i : Nat} (hi : (blockAt i s).state = .filling) : (s.recs.table[i]'(hlt hi)).state = .filling := by
      rwa [blockAt, List.getD_eq_getElem?_getD, List.getElem?_eq_getElem (hlt hi)] at hi
    exact congrArg some (index_unique_of_countP hone (hlt hm) (hlt h) (by simp [hget hm]) (by simp [hget h]))

theorem fillingBlock_of_pages {n : Nat} {s : State} (h : PagesAddUp s) (hn : (blockAt n s).state = .filling) :
    fillingBlock s = some n := by
  obtain ⟨-, -, -, -, -, hone, -⟩ := h
  exact fillingBlock_of_state hone hn

/-! ### A seal (R151) -/

/-- The code a seal writes for the alarm kind of its order. -/
def sealKindCode (kind : Option AlarmKind) : Nat :=
  match kind with
  | some k => kindCode k
  | none => 0

/-- The pool with the five fields of a seal written into the header (R151, Table 9-5). -/
def sealedPool (cause : SealCause) (kind : Option AlarmKind) (n : Nat) (s : State) : List Host.Cell :=
  let pages := (blockAt n s).pages
  blockWrite pages 28 (leBytes 2 (blockAt n s).lastOffset ++ leBytes 2 s.recs.freePages)
    (blockWrite pages 21 [BitVec.ofNat 8 (blockAt n s).samples]
      (blockWrite pages 19 [BitVec.ofNat 8 (sealKindCode kind)]
        (blockWrite pages 17 [BitVec.ofNat 8 (sealCode cause)] s.recs.pool)))

/-- The station with block `n` SEALED, BLOCK_SEALED set, before a waiting request is served. -/
def blockSealed (cause : SealCause) (kind : Option AlarmKind) (n : Nat) (s : State) : State :=
  setEvent .blockSealed
    { s with
      recs.pool := sealedPool cause kind n s
      recs.table := modifyAt (fun e => { e with state := .sealed }) n s.recs.table
      recs.sealedQ := s.recs.sealedQ ++ [n] }

@[simp] theorem blockSealed_frame (cause : SealCause) (kind : Option AlarmKind) (n : Nat) (s : State) :
    (blockSealed cause kind n s).recs.sealedQ = s.recs.sealedQ ++ [n] ∧
      (blockSealed cause kind n s).recs.fetchQ = s.recs.fetchQ ∧
      (blockSealed cause kind n s).recs.sending = s.recs.sending ∧
      (blockSealed cause kind n s).recs.pool = sealedPool cause kind n s ∧
      (blockSealed cause kind n s).line.replyQ = s.line.replyQ ∧
      (blockSealed cause kind n s).line.dataQ = s.line.dataQ ∧ (blockSealed cause kind n s).cfg = s.cfg ∧
      (blockSealed cause kind n s).recs.table = modifyAt (fun e => { e with state := .sealed }) n s.recs.table := by
  simp [blockSealed]

theorem sealBlock_of_filling {cause : SealCause} {kind : Option AlarmKind} {n : Nat} {s : State}
    (h : fillingBlock s = some n) : sealBlock cause kind s = serveFetch (blockSealed cause kind n s) := by
  simp only [sealBlock, h] <;> rfl

theorem sealBlock_of_quiet {cause : SealCause} {kind : Option AlarmKind} {n : Nat} {s : State}
    (h : fillingBlock s = some n) (hfetch : s.recs.fetchQ = []) :
    sealBlock cause kind s = blockSealed cause kind n s := by
  rw [sealBlock_of_filling h, serveFetch_of_idle (.inr (.inr (by simpa using hfetch)))]

theorem blockSealed_blockAt {cause : SealCause} {kind : Option AlarmKind} {n m : Nat} {s : State}
    (h : (blockAt n s).state = .filling) :
    blockAt m (blockSealed cause kind n s) =
      if n = m then { blockAt n s with state := .sealed } else blockAt m s := by
  have hlt := lt_of_blockAt_ne_free (n := n) (s := s) (by rw [h]; decide)
  rw [blockAt_of_modifyAt (s := s) (n := n) (f := fun e => { e with state := .sealed }) (by simp)]
  by_cases hm : n = m
  · subst hm; simp [hlt]
  · simp [hm]

/-- After a seal no block is FILLING. -/
theorem fillingBlock_blockSealed {cause : SealCause} {kind : Option AlarmKind} {n : Nat} {s : State}
    (h : fillingBlock s = some n) (hone : s.recs.table.countP (fun e => decide (e.state = .filling)) ≤ 1) :
    fillingBlock (blockSealed cause kind n s) = none := by
  refine fillingBlock_eq_none_iff.mpr fun m => ?_
  rw [blockSealed_blockAt (fillingBlock_state h)]
  split
  · simp
  · rename_i hm
    exact fun hfilling => hm (Option.some.inj (h.symm.trans (fillingBlock_of_state hone hfilling)))

theorem hasEvent_setEvent (e : Event) (s : State) : HasEvent (eventIndex e) (setEvent e s) := by
  have hbit : (eventBit e).getLsbD (eventIndex e) = true := by cases e <;> decide
  rw [HasEvent, setEvent_events, BitVec.getLsbD_or, hbit, Bool.or_true]

theorem blockSealed_event (cause : SealCause) (kind : Option AlarmKind) (n : Nat) (s : State) :
    HasEvent 0 (blockSealed cause kind n s) :=
  hasEvent_setEvent .blockSealed _

/-- The five fields that a seal writes into the header, and every other byte as it was (R151, Table 9-5). -/
theorem sealedPool_reads {cause : SealCause} {kind : Option AlarmKind} {n : Nat} {s : State} (hpages : PagesAddUp s)
    (hpool : PoolCanonical s) (hsize : 1 ≤ s.cfg.blockPages) (h : (blockAt n s).state = .filling) :
    let pages := (blockAt n s).pages
    let pool := sealedPool cause kind n s
    blockRead pages 17 1 pool = [BitVec.ofNat 8 (sealCode cause)] ∧
      blockRead pages 19 1 pool = [BitVec.ofNat 8 (sealKindCode kind)] ∧
      blockRead pages 21 1 pool = [BitVec.ofNat 8 (blockAt n s).samples] ∧
      blockRead pages 28 4 pool = leBytes 2 (blockAt n s).lastOffset ++ leBytes 2 s.recs.freePages ∧
      ∀ b k, b + k ≤ 17 ∨ 17 < b → b + k ≤ 19 ∨ 19 < b → b + k ≤ 21 ∨ 21 < b → b + k ≤ 28 ∨ 32 ≤ b →
        blockRead pages b k pool = blockRead pages b k s.recs.pool := by
  intro pages pool
  have hblock : PagesOf s.cfg.blockPages pages := pagesOf_block hpages (by rw [h]; decide)
  have w1 := blockWrite_wf pages 17 [BitVec.ofNat 8 (sealCode cause)] hpool
  have w2 := blockWrite_wf pages 19 [BitVec.ofNat 8 (sealKindCode kind)] w1
  have w3 := blockWrite_wf pages 21 [BitVec.ofNat 8 (blockAt n s).samples] w2
  have hfour : (leBytes 2 (blockAt n s).lastOffset ++ leBytes 2 s.recs.freePages).length = 4 := by simp [leBytes]
  have past4 (b k : Nat) (hb : b + k ≤ 28 ∨ 32 ≤ b) : blockRead pages b k pool = _ :=
    blockRead_blockWrite_of_apart hblock w3 (by rw [hfour]; omega) (by rw [hfour]; exact hb)
  have past3 (b k : Nat) (hb : b + k ≤ 21 ∨ 21 < b) :=
    blockRead_blockWrite_of_apart (x := b) (n := k) (o := 21) (bytes := [BitVec.ofNat 8 (blockAt n s).samples])
      hblock w2 (by rw [List.length_singleton]; omega) hb
  have past2 (b k : Nat) (hb : b + k ≤ 19 ∨ 19 < b) :=
    blockRead_blockWrite_of_apart (x := b) (n := k) (o := 19) (bytes := [BitVec.ofNat 8 (sealKindCode kind)]) hblock w1
      (by rw [List.length_singleton]; omega) hb
  have past1 (b k : Nat) (hb : b + k ≤ 17 ∨ 17 < b) :=
    blockRead_blockWrite_of_apart (x := b) (n := k) (o := 17) (bytes := [BitVec.ofNat 8 (sealCode cause)])
      hblock hpool (by rw [List.length_singleton]; omega) hb
  refine ⟨?_, ?_, ?_, ?_, fun b k h17 h19 h21 h28 => ?_⟩
  · rw [past4 17 1 (by omega), past3 17 1 (by omega), past2 17 1 (by omega)]
    exact blockRead_blockWrite hblock hpool rfl (by omega)
  · rw [past4 19 1 (by omega), past3 19 1 (by omega)]
    exact blockRead_blockWrite hblock w1 rfl (by omega)
  · rw [past4 21 1 (by omega)]
    exact blockRead_blockWrite hblock w2 rfl (by omega)
  · exact blockRead_blockWrite hblock w3 hfour (by omega)
  · rw [past4 b k h28, past3 b k h21, past2 b k h19, past1 b k h17]

theorem blockRead_append (pages : List Nat) (o a b : Nat) (m : List Host.Cell) :
    blockRead pages o (a + b) m = blockRead pages o a m ++ blockRead pages (o + a) b m := by
  simp only [blockRead_eq_map, List.range_add, List.map_append, List.map_map]
  refine congrArg _ (List.map_congr_left fun i _ => ?_)
  simp only [Function.comp_apply, Nat.add_assoc]

@[simp] theorem blockRead_length (pages : List Nat) (o n : Nat) (m : List Host.Cell) :
    (blockRead pages o n m).length = n := by
  simp [blockRead_eq_map]

/-! ### CUT and its requests (R158, R161) -/

theorem exec_cut {head : CommandHead} {s : State} (h : Taken head 0 s) :
    exec (.cut head) s = .next (cutRequest head s) :=
  congrArg _ (takeCommand_of_taken h rfl)

theorem cutRequest_of_filling {head : CommandHead} {n : Nat} {s : State} (h : fillingBlock s = some n) :
    cutRequest head s = sealBlock .cut none (replied head 0x4A .done .none [] s) := by
  rw [cutRequest, h, if_pos Option.isSome_some]
  rfl

theorem cutRequest_of_none {head : CommandHead} {s : State} (h : fillingBlock s = none) :
    cutRequest head s = replied head 0x4A .refused .state [] s := by
  rw [cutRequest, h, if_neg (by simp)]
  rfl

theorem serveFetch_of_request {b : Nat} {queue : List Nat} {r : FetchRequest} {rest : List FetchRequest}
    {s : State} (hidle : s.recs.sending = none) (hsealed : s.recs.sealedQ = b :: queue)
    (hfetch : s.recs.fetchQ = r :: rest) (hroom : s.line.replyQ.length < 4) :
    serveFetch s = sendStarted b r.console
      { s with
        recs.fetchQ := rest
        line.replyQ := s.line.replyQ ++
          [{ dest := r.console, kindCode := 0x48, result := .done, reason := .none, data := [] }] } := by
  rw [serveFetch_of_waiting hidle hsealed hfetch, startSending_eq_sendStarted,
    placeLateReply_of_room (by exact hroom)]
  rfl

/-! ### The expiry of a request (R158) -/

/-- The earlier of the best request so far and the next one, the best where they expire together. -/
def earlier (best : Option FetchRequest) (r : FetchRequest) : Option FetchRequest :=
  match best with
  | none => some r
  | some b => if r.expiry < b.expiry then some r else some b

theorem nextExpiry_eq (s : State) :
    nextExpiry s = (s.recs.fetchQ.filter (fun r => !withheld s r)).foldl earlier none := rfl

/-- A request stays the best through those that expire no earlier. -/
theorem foldl_earlier_of_later {r : FetchRequest} (l : List FetchRequest) (h : ∀ q ∈ l, r.expiry ≤ q.expiry) :
    l.foldl earlier (some r) = some r := by
  induction l with
  | nil => rfl
  | cons q rest ih =>
    have hq := h q List.mem_cons_self
    rw [List.foldl_cons, earlier, if_neg (by omega)]
    exact ih fun p hp => h p (List.mem_cons_of_mem q hp)

/-- Any best that stands before `r`, each later than it, makes room for it. -/
theorem foldl_earlier_of_before {r : FetchRequest} (l : List FetchRequest) (best : Option FetchRequest)
    (hbest : ∀ b ∈ best, r.expiry < b.expiry) (h : ∀ q ∈ l, r.expiry < q.expiry) :
    earlier (l.foldl earlier best) r = some r := by
  induction l generalizing best with
  | nil =>
    cases best with
    | none => rfl
    | some b => exact if_pos (hbest b rfl)
  | cons q rest ih =>
    have hq := h q List.mem_cons_self
    refine ih _ (fun b hb => ?_) fun p hp => h p (List.mem_cons_of_mem q hp)
    cases best with
    | none => cases hb; exact hq
    | some c =>
      unfold earlier at hb
      dsimp only at hb
      split at hb
      · cases hb; exact hq
      · cases hb; exact hbest _ rfl

theorem foldl_earlier_mem {r : FetchRequest} (l : List FetchRequest) (best : Option FetchRequest)
    (h : l.foldl earlier best = some r) : r ∈ best ∨ r ∈ l := by
  induction l generalizing best with
  | nil => exact .inl h
  | cons q rest ih =>
    rcases ih _ h with hbest | hrest
    · cases best with
      | none => cases hbest; exact .inr List.mem_cons_self
      | some b =>
        unfold earlier at hbest
        dsimp only at hbest
        split at hbest
        · cases hbest; exact .inr List.mem_cons_self
        · exact .inl hbest
    · exact .inr (List.mem_cons_of_mem q hrest)

theorem nextExpiry_mem {r : FetchRequest} {s : State} (h : nextExpiry s = some r) :
    r ∈ s.recs.fetchQ ∧ withheld s r = false := by
  rcases foldl_earlier_mem _ none (nextExpiry_eq s ▸ h) with hnone | hmem
  · cases hnone
  · simpa using List.mem_filter.mp hmem

/-- The request that expires first: none before it that counts expires as early, none behind it earlier. -/
theorem nextExpiry_of_first {before after : List FetchRequest} {r : FetchRequest} {s : State}
    (hqueue : s.recs.fetchQ = before ++ r :: after) (hcounts : withheld s r = false)
    (hbefore : ∀ q ∈ before, r.expiry < q.expiry ∨ withheld s q = true)
    (hafter : ∀ q ∈ after, r.expiry ≤ q.expiry ∨ withheld s q = true) : nextExpiry s = some r := by
  have counted {l : List FetchRequest} {p : FetchRequest → Prop} (h : ∀ q ∈ l, p q ∨ withheld s q = true) :
      ∀ q ∈ l.filter (fun q => !withheld s q), p q := fun q hq => by
    obtain ⟨hmem, hcount⟩ := List.mem_filter.mp hq
    exact (h q hmem).resolve_right (by simpa using hcount)
  rw [nextExpiry_eq, hqueue, List.filter_append, List.filter_cons, hcounts, Bool.not_false, if_pos rfl,
    List.foldl_append, List.foldl_cons, foldl_earlier_of_before _ none (by simp) (counted hbefore),
    foldl_earlier_of_later _ (counted hafter)]

theorem exec_fetchRequestExpiry {s : State} (h : s.loader.phase = .running) :
    exec .fetchRequestExpiry s = .next (fetchExpiry s) :=
  congrArg Host.Outcome.next (if_pos (by simp [isRunning, h]))

theorem withheld_iff {s : State} {q : FetchRequest} :
    withheld s q = true ↔ s.recs.sending ≠ none ∧ q.joinedSending = true := by
  rw [withheld, Bool.and_eq_true, Option.isSome_iff_ne_none, and_comm]

/-- A request whose age has come leaves the queue and is answered EMPTY. -/
theorem fetchExpiry_of_first {before after : List FetchRequest} {r : FetchRequest} {s : State}
    (hqueue : s.recs.fetchQ = before ++ r :: after) (hfirst : nextExpiry s = some r) (hnot : r ∉ before)
    (hdue : r.expiry ≤ s.age) (hroom : s.line.replyQ.length < 4) :
    fetchExpiry s =
      { s with
        recs.fetchQ := before ++ after
        line.replyQ := s.line.replyQ ++
          [{ dest := r.console, kindCode := 0x48, result := .empty, reason := .none, data := [] }] } := by
  have hleft : (before ++ r :: after).erase r = before ++ after := by
    rw [List.erase_append_right _ hnot, List.erase_cons_head]
  have hnotyet : ¬ (s.recs.sending.isSome ∧ s.age < r.expiry) := fun h => absurd h.2 (by omega)
  simp only [fetchExpiry, hfirst]
  rw [if_neg hnotyet, advanceTo_of_le hdue, expireRequest, hqueue, hleft, answerEmpty,
    placeLateReply_of_room (by exact hroom)]
  rfl

/-! ### O40 -/

/-- A seal of CUT in a record memory with no request waiting, as the bytes of its header show. -/
theorem cut_reads {head : CommandHead} {n : Nat} {s : State} (hpages : PagesAddUp s) (hpool : PoolCanonical s)
    (hsize : 1 ≤ s.cfg.blockPages) (h : (blockAt n s).state = .filling) :
    let pages := (blockAt n s).pages
    let pool := sealedPool .cut none n (replied head 0x4A .done .none [] s)
    blockRead pages 17 1 pool = [4] ∧ blockRead pages 19 1 pool = [0] ∧
      blockRead pages 21 1 pool = leBytes 1 (blockAt n s).samples ∧
      blockRead pages 28 2 pool = leBytes 2 (blockAt n s).lastOffset ∧
      blockRead pages 30 2 pool = leBytes 2 s.recs.freePages ∧
      ∀ b, b < 256 * pages.length → b ≠ 17 → b ≠ 19 → b ≠ 21 → ¬ (28 ≤ b ∧ b ≤ 31) →
        blockRead pages b 1 pool = blockRead pages b 1 s.recs.pool := by
  obtain ⟨hcause, hkind, hcount, hfour, hrest⟩ :=
    sealedPool_reads (cause := .cut) (kind := none) (s := replied head 0x4A .done .none [] s) hpages hpool hsize h
  obtain ⟨hoffset, hfree⟩ := List.append_inj ((blockRead_append _ 28 2 2 _).symm.trans hfour) (by simp [leBytes])
  exact ⟨hcause, hkind, hcount, hoffset, hfree, fun b _ h17 h19 h21 h28 =>
    hrest b 1 (by omega) (by omega) (by omega) (by omega)⟩

/-- The seal of CUT with a request waiting and none SENDING: the head of the sealed queue is sent (R158). -/
theorem cut_serves {head : CommandHead} {n b : Nat} {r : FetchRequest} {waiting : List FetchRequest} {s : State}
    (hfilling : fillingBlock s = some n) (hfetch : s.recs.fetchQ = r :: waiting) (hidle : s.recs.sending = none)
    (hhead : (s.recs.sealedQ ++ [n]).head? = some b) (hroom : s.line.replyQ.length < 3) :
    cutRequest head s = sendStarted b r.console
      { blockSealed .cut none n (replied head 0x4A .done .none [] s) with
        recs.fetchQ := waiting
        line.replyQ := s.line.replyQ ++
          [{ dest := head.sender, kindCode := 0x4A, result := .done, reason := .none, data := [] },
            { dest := r.console, kindCode := 0x48, result := .done, reason := .none, data := [] }] } := by
  obtain ⟨queue, hqueue⟩ := List.head?_eq_some_iff.mp hhead
  rw [cutRequest_of_filling hfilling, sealBlock_of_filling (by exact hfilling),
    serveFetch_of_request (b := b) (queue := queue) (by simpa [replied] using hidle) (by simpa [replied] using hqueue)
      (by simpa [replied] using hfetch) (by simp [replied]; omega)]
  simp [replied]

theorem sendStarted_state {b console : Nat} {s : State} (h : (blockAt b s).state ≠ .free) :
    (blockAt b (sendStarted b console s)).state = .sending := by
  rw [blockAt_of_modifyAt (s := s) (n := b) (f := fun e => { e with state := .sending }) rfl,
    if_pos ⟨rfl, lt_of_blockAt_ne_free h⟩]

/-- The block that CUT's seal puts at the head of the sealed queue is not FREE, and has the pages it had. -/
theorem cut_head {head : CommandHead} {n b : Nat} {s : State} (hmatch : BlocksMatch s)
    (hn : (blockAt n s).state = .filling) (hhead : (s.recs.sealedQ ++ [n]).head? = some b) :
    (blockAt b (blockSealed .cut none n (replied head 0x4A .done .none [] s))).state ≠ .free ∧
      (blockAt b (blockSealed .cut none n (replied head 0x4A .done .none [] s))).pages = (blockAt b s).pages := by
  obtain ⟨-, hsealed, hlt, -⟩ := hmatch
  rw [blockSealed_blockAt (by exact hn)]
  split
  · rename_i hb
    subst hb
    exact ⟨nofun, rfl⟩
  · rename_i hb
    refine ⟨?_, rfl⟩
    rcases List.mem_append.mp (List.mem_of_mem_head? (Option.mem_def.mpr hhead)) with hmem | hmem
    · rw [show blockAt b (replied head 0x4A .done .none [] s) = blockAt b s from rfl, (hsealed b (hlt b hmem)).mp hmem]
      decide
    · exact absurd (List.mem_singleton.mp hmem).symm hb

/-- Settles O40: CUT by what is FILLING and who waits, the end of a capture by its arm, the expiry of a request by
which one expires first. -/
theorem cutSealsAndCapturesEnd : Obligations.CutSealsAndCapturesEnd := by
  refine ⟨⟨?none, ?cut⟩, ?waiting, ?captureEnd, ?withheld, ?expired⟩
  case none =>
    intro head s taken hnone
    rw [exec_cut taken, cutRequest_of_none (List.findIdx?_eq_none_iff.mpr fun e he => by simp [hnone e he])]
  case cut =>
    intro head n s taken hpages hpool hsize hn hfetch
    have hfilling := fillingBlock_of_pages hpages hn
    refine ⟨blockSealed .cut none n (replied head 0x4A .done .none [] s), ?_, ?_, fun m hm => ?_,
      by simp [replied], blockSealed_event _ _ _ _, by simp [replied], ?_⟩
    · rw [exec_cut taken, cutRequest_of_filling hfilling, sealBlock_of_quiet (by exact hfilling) (by exact hfetch)]
    · rw [blockSealed_blockAt (by exact hn), if_pos rfl]; rfl
    · rw [blockSealed_blockAt (by exact hn), if_neg (Ne.symm hm)]; rfl
    · simpa using cut_reads (head := head) hpages hpool hsize hn
  case waiting =>
    intro head n b r waiting s taken hpages hmatch hn hfetch
    have hfilling := fillingBlock_of_pages hpages hn
    refine ⟨fun hidle hhead hroom => ?_, fun hsending => ?_⟩
    · obtain ⟨hstate, hblock⟩ := cut_head (head := head) hmatch hn hhead
      refine ⟨_, by rw [exec_cut taken, cut_serves hfilling hfetch hidle hhead hroom], rfl,
        sendStarted_state (by exact hstate), ?_, ?_, ?_, rfl⟩
      · simp [sendStarted, replied]
      · simp [sendStarted, replied]
      · rw [← hblock]; rfl
    · refine ⟨blockSealed .cut none n (replied head 0x4A .done .none [] s), ?_, ?_, ?_, ?_, ?_, ?_⟩
      · rw [exec_cut taken, cutRequest_of_filling hfilling, sealBlock_of_filling (by exact hfilling),
          serveFetch_of_idle (.inl (by simpa [replied] using hsending))]
      all_goals simp [replied]
  case captureEnd =>
    intro s hphase hcapture
    exact congrArg Host.Outcome.next ((if_pos (by simp [isRunning, hphase])).trans (if_pos hcapture))
  case withheld =>
    intro s hphase hsending hall
    rw [exec_fetchRequestExpiry hphase]
    refine congrArg Host.Outcome.next ?_
    cases hnext : nextExpiry s with
    | none => simp [fetchExpiry, hnext]
    | some r =>
      obtain ⟨hmem, hcounts⟩ := nextExpiry_mem hnext
      have hlater : s.age < r.expiry := (hall r hmem).resolve_left fun hjoined => by
        rw [withheld_iff.mpr ⟨hsending, hjoined⟩] at hcounts
        cases hcounts
      simp [fetchExpiry, hnext, hlater, Option.isSome_iff_ne_none, hsending]
  case expired =>
    intro s before after r hphase hqueue hcounts hbefore hafter hdue hroom
    have hr : withheld s r = false := by
      rw [← Bool.not_eq_true, withheld_iff]
      rintro ⟨hsending, hjoined⟩
      rcases hcounts with hnone | hnot
      · exact hsending hnone
      · rw [hjoined] at hnot; cases hnot
    have hnot : r ∉ before := fun hmem => by
      rcases hbefore r hmem with hlt | hheld
      · exact absurd hlt (Nat.lt_irrefl _)
      · rw [withheld_iff.mpr hheld] at hr; cases hr
    have hfirst := nextExpiry_of_first hqueue hr (fun q hq => (hbefore q hq).imp_right withheld_iff.mpr)
      fun q hq => (hafter q hq).imp_right withheld_iff.mpr
    rw [exec_fetchRequestExpiry hphase, fetchExpiry_of_first hqueue hfirst hnot hdue hroom]

end Sys2Proof.Machine

/-! What a raise leaves (sections 8.2 to 8.6, 9.5): the list, the ALARM telegram, the capture order, which neither the
hand-on of the latch nor the commands that then start undo. With it the status timer (O12) and heard ALARMs (O18). -/
namespace Sys2Proof.Machine

open Sys2Proof

-- One proof after the other: the threads of the check, which compiles the whole text at once, share one memory limit.
set_option Elab.async false

/-! ### Seals find nothing where no block is FILLING (R151, R152) -/

/-- The record memory stays as it is where no block is FILLING. -/
def RecsRest (s t : State) : Prop :=
  fillingBlock s = none → t.recs = s.recs

theorem RecsRest.of_eq {s t : State} (h : t.recs = s.recs) : RecsRest s t := fun _ => h

theorem RecsRest.refl (s : State) : RecsRest s s := fun _ => rfl

theorem fillingBlock_congr {s t : State} (h : t.recs = s.recs) : fillingBlock t = fillingBlock s := by
  rw [fillingBlock, h, fillingBlock]

theorem RecsRest.trans {s t u : State} (h : RecsRest s t) (k : RecsRest t u) : RecsRest s u := fun hnone =>
  (k ((fillingBlock_congr (h hnone)).trans hnone)).trans (h hnone)

theorem RecsRest.ite {p : Prop} [Decidable p] {s t : State} (h : RecsRest s t) : RecsRest s (if p then t else s) := by
  split
  · exact h
  · exact .refl s

theorem setSequencer_rest (q : Sequencer) (s : State) : RecsRest s (setSequencer q s) := fun h => by
  unfold setSequencer
  split
  · rfl
  · rw [sealBlock_of_none (by exact h)]

theorem leaveDwellIf_rest (was : Bool) (s : State) : RecsRest s (leaveDwellIf was s) := .of_eq (by simp)

theorem enterHeld_rest (s : State) : RecsRest s (enterHeld s) :=
  (setSequencer_rest _ s).trans (leaveDwellIf_rest _ _)

theorem enterUnloading_rest (s : State) : RecsRest s (enterUnloading s) :=
  (setSequencer_rest _ s).trans (leaveDwellIf_rest _ _)

theorem enterTripped_rest (reason : Reason) (s : State) : RecsRest s (enterTripped reason s) := by
  have told (u : State) : RecsRest u (tripIdle u) :=
    (setSequencer_rest _ u).trans ((leaveDwellIf_rest _ _).trans (.of_eq rfl))
  exact (RecsRest.of_eq (by simp)).trans (told _)

theorem sequencerOnLatch_rest (new : Latch) (s : State) : RecsRest s (sequencerOnLatch new s) := by
  unfold sequencerOnLatch
  dsimp only
  split
  case h_1 =>
    split
    · exact enterUnloading_rest s
    · exact (enterHeld_rest s).ite
  case h_4 => exact .refl s
  all_goals exact (enterUnloading_rest s).ite

theorem scannerOnLatch_recs (new : Latch) (s : State) : (scannerOnLatch new s).recs = s.recs := by simp

theorem handLatch_rest (new : Latch) (s : State) : RecsRest s (handLatch new s) :=
  ((enterTripped_rest .action s).ite).trans
    ((sequencerOnLatch_rest new _).trans (.of_eq (scannerOnLatch_recs new _)))

/-! ### The commands that start leave the record memory alone (R152, R165) -/

/-- HELD keeps step and reported phase, so that no block is sealed (R35, R152). -/
theorem enterHeld_recs {s : State} (h : s.seq.state = .run) : (enterHeld s).recs = s.recs := by
  have hsame : reportedPhase { s.seq with state := .held, hold := pauseTimer s.age s.seq.hold
                                          extension := pauseTimer s.age s.seq.extension, mismatch := none } =
      reportedPhase s.seq := by
    simp [reportedPhase, h]
  simp [enterHeld, setSequencer, hsame]

/-- Only an entry into LIVE can change what a block reports. -/
theorem enterState_recs {st : ActState} {iso dump lockCmd : Bool} (hst : st ≠ .live) (s : State) :
    (enterState st iso dump lockCmd s).recs = s.recs := by
  unfold enterState sequencerOnActuator
  rw [if_neg (by simpa using hst)]
  split
  · rename_i h
    exact enterHeld_recs h.2
  · rfl

theorem enterState_lineGrows (st : ActState) (iso dump lockCmd : Bool) (s : State) :
    LineGrows s (enterState st iso dump lockCmd s) := by
  have set : LineGrows s (setActuator st iso dump lockCmd s) := .of_line_eq rfl
  unfold enterState sequencerOnActuator
  split
  · exact set.trans (enterUnloading_lineGrows _).of_ite
  · exact set.trans (enterHeld_lineGrows _).of_ite

/-- What a command that starts leaves: the record memory as it is, the events and the REPLYs that were there. -/
structure StartQuiet (s t : State) : Prop where
  recs : t.recs = s.recs
  line : LineGrows s t

namespace StartQuiet

variable {s t u : State}

theorem of_frame (hrecs : t.recs = s.recs) (hevents : t.line.events = s.line.events)
    (hreplies : t.line.replyQ = s.line.replyQ) : StartQuiet s t :=
  ⟨hrecs, fun _ h => by rwa [HasEvent, hevents], by rw [hreplies]⟩

theorem refl (s : State) : StartQuiet s s := of_frame rfl rfl rfl

theorem trans (h : StartQuiet s t) (k : StartQuiet t u) : StartQuiet s u :=
  ⟨k.recs.trans h.recs, h.line.trans k.line⟩

theorem of_same {s' : State} (h : StartQuiet s' t) (hrecs : s'.recs = s.recs) (hline : s'.line = s.line) :
    StartQuiet s t :=
  ⟨h.recs.trans hrecs, h.line.of_same_line hline⟩

theorem endCommand (result : ReplyResult) (reason : Reason) (s : State) : StartQuiet s (endCommand result reason s) :=
  ⟨by simp, endCommand_lineGrows result reason s⟩

theorem endCommandOf (kind : QueuedKind) (result : ReplyResult) (reason : Reason) (s : State) :
    StartQuiet s (endCommandOf kind result reason s) :=
  ⟨by simp, endCommandOf_lineGrows kind result reason s⟩

theorem enterState {st : ActState} {iso dump lockCmd : Bool} (hst : st ≠ .live) (s : State) :
    StartQuiet s (enterState st iso dump lockCmd s) :=
  ⟨enterState_recs hst s, enterState_lineGrows st iso dump lockCmd s⟩

theorem judgeWait (s : State) : StartQuiet s (judgeWait s) := of_frame (by simp) (by simp) (by simp)

theorem enterWait (p : ChargePurpose) (s : State) : StartQuiet s (enterWait p s) :=
  have entered : StartQuiet s
      (Machine.enterState .waitWindow s.pins.iso s.pins.dump s.pins.lockCmd { s with act.purpose := some p }) :=
    (enterState (by decide) _).of_same rfl rfl
  entered.trans (judgeWait _)

theorem lockSeats (s : State) : StartQuiet s (lockSeats s) := by
  have entered : StartQuiet s (Machine.enterState .locked false false true
      { s with act.lockTimer := none, act.lockRef := some s.servo.fMeas, act.lockRefDue := false }) :=
    (enterState (by decide) _).of_same rfl rfl
  have loaded (u : State) : StartQuiet u (loadLockCheck u) := of_frame rfl rfl rfl
  exact (entered.trans (loaded _)).trans (endCommandOf .lock .done .none _)

theorem enterLocking (s : State) : StartQuiet s (enterLocking s) := by
  have entered : StartQuiet s (Machine.enterState .locking true false true s) := enterState (by decide) s
  unfold Machine.enterLocking
  dsimp only
  split
  · exact entered.trans (lockSeats _)
  · exact entered.trans (of_frame rfl rfl rfl)

theorem judgeQueued (kind : QueuedKind) (s : State) : StartQuiet s (judgeQueued kind s) := by
  have refused (reason : Reason) : StartQuiet s (Machine.endCommand .refused reason s) := endCommand _ _ s
  have vented : StartQuiet s (Machine.endCommand .done .none (enterVented s)) :=
    (enterState (by decide) s).trans (endCommand _ _ _)
  cases kind with
  | charge =>
    unfold Machine.judgeQueued judgeCharge
    split_ifs
    · exact refused _
    · exact refused _
    · exact refused _
    · exact enterWait _ s
  | vent =>
    unfold Machine.judgeQueued judgeVent
    split_ifs
    · exact refused _
    · exact refused _
    · exact refused _
    · exact vented
  | lock =>
    unfold Machine.judgeQueued judgeLock
    split_ifs
    · exact refused _
    · exact refused _
    · exact refused _
    · exact enterLocking s
  | unlock =>
    unfold Machine.judgeQueued judgeUnlock
    split_ifs
    · exact refused _
    · exact refused _
    · exact refused _
    · exact refused _
    · exact enterWait _ s
  | cleartrip =>
    unfold Machine.judgeQueued judgeCleartrip
    split_ifs
    · exact refused _
    · exact refused _
    · exact vented
  | zero =>
    unfold Machine.judgeQueued judgeZero
    split_ifs
    · exact of_frame (by simp) (by simp) (by simp)
    · exact refused _
  | shunt =>
    unfold Machine.judgeQueued judgeShunt
    split_ifs
    · exact of_frame rfl rfl rfl
    · exact of_frame (by simp) (by simp) (by simp)
    · exact refused _

theorem startWaiting (n : Nat) (s : State) : StartQuiet s (startWaiting n s) := by
  induction n generalizing s with
  | zero => exact refl s
  | succ n ih =>
    unfold Machine.startWaiting
    split
    · rename_i q rest _ _
      have started : StartQuiet s { s with cmd.queue := rest, cmd.current := some q } := of_frame rfl rfl rfl
      exact (started.trans (judgeQueued q.kind _)).trans (ih _)
    · exact refl s

theorem startCommands (s : State) : StartQuiet s (startCommands s) := by
  unfold Machine.startCommands
  split
  · exact startWaiting _ s
  · exact refl s

end StartQuiet

/-! ### The cut and capture of a raise (R139, R151, R155) -/

/-- What a state shows of the capture order is what its record memory and its events show. -/
theorem CaptureOrdered.of_after {kind : AlarmKind} {s t u : State} (h : CaptureOrdered kind s t)
    (hrecs : u.recs = t.recs) (hevents : HasEvent 0 t → HasEvent 0 u) : CaptureOrdered kind s u := by
  obtain ⟨hbegun, hnone, hsealed⟩ := h
  refine ⟨by rw [hrecs]; exact hbegun, by rw [hrecs]; exact hnone, fun n hn hpages hpool hsize hfetch => ?_⟩
  obtain ⟨hblock, hqueue, hevent, hcause, hkind⟩ := hsealed n hn hpages hpool hsize hfetch
  rw [blockAt, hrecs]
  exact ⟨hblock, hqueue, hevents hevent, hcause, hkind⟩

/-- The order depends on the settings, the record memory and the phase of the state before, and no more. -/
theorem CaptureOrdered.of_base {kind : AlarmKind} {s s' t : State} (h : CaptureOrdered kind s' t)
    (hcfg : s'.cfg = s.cfg) (hrecs : s'.recs = s.recs) (hloader : s'.loader = s.loader) : CaptureOrdered kind s t := by
  unfold CaptureOrdered PagesAddUp PoolCanonical blockAt heldPages at h ⊢
  rwa [hcfg, hrecs, hloader] at h

theorem sealBlock_alarm_captures {kind : AlarmKind} {n : Nat} {s : State} (hn : (blockAt n s).state = .filling)
    (hpages : PagesAddUp s) (hpool : PoolCanonical s) (hsize : 1 ≤ s.cfg.blockPages) (hfetch : s.recs.fetchQ = []) :
    let t := sealBlock .alarm (some kind) s
    blockAt n t = { blockAt n s with state := .sealed } ∧ t.recs.sealedQ = s.recs.sealedQ ++ [n] ∧ HasEvent 0 t ∧
      blockRead (blockAt n s).pages 17 1 t.recs.pool = [3] ∧
      blockRead (blockAt n s).pages 19 1 t.recs.pool = leBytes 1 (kindCode kind) := by
  obtain ⟨hcause, hkind, -⟩ := sealedPool_reads (cause := .alarm) (kind := some kind) hpages hpool hsize hn
  intro t
  rw [show t = blockSealed .alarm (some kind) n s from sealBlock_of_quiet (fillingBlock_of_pages hpages hn) hfetch]
  exact ⟨by rw [blockSealed_blockAt hn, if_pos rfl], by simp, blockSealed_event _ _ _ _, hcause, hkind⟩

theorem cutAndCapture_orders (kind : AlarmKind) (s : State) : CaptureOrdered kind s (cutAndCapture kind s) := by
  unfold cutAndCapture
  dsimp only
  rw [show (sealBlock .alarm (some kind) s).cfg = s.cfg by simp]
  split
  · rename_i hlength
    exact ⟨fun _ => ⟨rfl, rfl, rfl⟩, fun h => absurd h (by omega), fun n hn hpages hpool hsize hfetch =>
      sealBlock_alarm_captures hn hpages hpool hsize hfetch⟩
  · rename_i hlength
    exact ⟨fun h => absurd h hlength, fun _ => by simp, fun n hn hpages hpool hsize hfetch =>
      sealBlock_alarm_captures hn hpages hpool hsize hfetch⟩

/-- A state in which an order has been carried out and nothing has since undone it: no block is FILLING where the
record memory added up. -/
theorem fillingBlock_cutAndCapture {kind : AlarmKind} {s : State} (hpages : PagesAddUp s)
    (hfetch : s.recs.fetchQ = []) : fillingBlock (cutAndCapture kind s) = none := by
  have hseal : fillingBlock (sealBlock .alarm (some kind) s) = none := by
    cases hfilling : fillingBlock s with
    | none => rw [sealBlock_of_none hfilling, hfilling]
    | some n =>
      obtain ⟨-, -, -, -, -, hone, -⟩ := hpages
      rw [sealBlock_of_quiet hfilling hfetch, fillingBlock_blockSealed hfilling hone]
  unfold cutAndCapture
  dsimp only
  split
  · exact hseal
  · exact hseal

/-- What comes behind a cut and capture leaves it carried out, where it seals only what is FILLING. -/
theorem CaptureOrdered.of_behind {kind : AlarmKind} {s u : State} (hrest : RecsRest (cutAndCapture kind s) u)
    (hline : LineGrows (cutAndCapture kind s) u)
    (hcapture : u.recs.capture = (cutAndCapture kind s).recs.capture ∧
      u.recs.scansLeft = (cutAndCapture kind s).recs.scansLeft ∧
      u.recs.captureKind = (cutAndCapture kind s).recs.captureKind) : CaptureOrdered kind s u := by
  obtain ⟨hbegun, hnone, hsealed⟩ := cutAndCapture_orders kind s
  obtain ⟨hcap, hleft, hkind⟩ := hcapture
  refine ⟨by rw [hcap, hleft, hkind]; exact hbegun, by rw [hcap, hleft, hkind]; exact hnone,
    fun n hn hpages hpool hsize hfetch => ?_⟩
  have hrecs := hrest (fillingBlock_cutAndCapture hpages hfetch)
  obtain ⟨hblock, hqueue, hevent, hcause, hkind⟩ := hsealed n hn hpages hpool hsize hfetch
  rw [blockAt, hrecs]
  exact ⟨hblock, hqueue, hline.events 0 hevent, hcause, hkind⟩

/-- The station when a raise reaches the cut and capture. -/
def raiseNoted (r : Raise) (s : State) : State :=
  let s1 := setEvent .alarmRaised
    { s with alarm := { storeRaise r s.alarm with latch := latchMax s.alarm.latch r.action } }
  if sendsTelegram r s then placeAlarm (alarmTelegramOf r s) s1 else s1

@[simp] theorem raiseNoted_frame (r : Raise) (s : State) :
    (raiseNoted r s).cfg = s.cfg ∧ (raiseNoted r s).recs = s.recs ∧ (raiseNoted r s).loader = s.loader ∧
      (raiseNoted r s).line.replyQ = s.line.replyQ ∧ (raiseNoted r s).line.heldReplies = s.line.heldReplies := by
  unfold raiseNoted
  dsimp only
  split <;> simp

theorem raiseRecorded_of_note {r : Raise} (s : State) (h : latchAtLeast r.action .hold = false) :
    raiseRecorded r s = raiseNoted r s := by
  simp [raiseRecorded, raiseNoted, h]

theorem raiseRecorded_of_hold {r : Raise} (s : State) (h : latchAtLeast r.action .hold = true) :
    raiseRecorded r s = cutAndCapture r.kind (raiseNoted r s) := by
  simp [raiseRecorded, raiseNoted, h]

/-- A raise is recorded and, where it raises the latch, handed on. -/
theorem raiseAlarm_rest (r : Raise) (s : State) : RecsRest (raiseRecorded r s) (raiseAlarm r s) := by
  rw [raiseAlarm_eq]
  split
  · exact .refl _
  · exact handLatch_rest _ _

theorem raiseAlarm_grows (r : Raise) (s : State) : LineGrows (raiseRecorded r s) (raiseAlarm r s) := by
  rw [raiseAlarm_eq]
  split
  · exact .refl _
  · exact handLatch_lineGrows _ _

theorem raiseAlarm_capture (r : Raise) (s : State) :
    (raiseAlarm r s).recs.capture = (raiseRecorded r s).recs.capture ∧
      (raiseAlarm r s).recs.scansLeft = (raiseRecorded r s).recs.scansLeft ∧
      (raiseAlarm r s).recs.captureKind = (raiseRecorded r s).recs.captureKind := by
  rw [raiseAlarm_eq]
  split <;> simp

/-- A raise of HOLD or above orders a cut and capture, which what follows its event leaves carried out. -/
theorem raiseAlarm_captures {r : Raise} {s u : State} (h : latchAtLeast r.action .hold = true)
    (hrest : RecsRest (raiseAlarm r s) u) (hline : LineGrows (raiseAlarm r s) u)
    (hcapture : u.recs.capture = (raiseAlarm r s).recs.capture ∧
      u.recs.scansLeft = (raiseAlarm r s).recs.scansLeft ∧
      u.recs.captureKind = (raiseAlarm r s).recs.captureKind) : CaptureOrdered r.kind s u := by
  have hrest := (raiseAlarm_rest r s).trans hrest
  have hline := (raiseAlarm_grows r s).trans hline
  obtain ⟨hcap, hleft, hkind⟩ := hcapture
  obtain ⟨rcap, rleft, rkind⟩ := raiseAlarm_capture r s
  rw [rcap] at hcap
  rw [rleft] at hleft
  rw [rkind] at hkind
  rw [raiseRecorded_of_hold s h] at hrest hline hcap hleft hkind
  exact (CaptureOrdered.of_behind hrest hline ⟨hcap, hleft, hkind⟩).of_base (by simp) (by simp) (by simp)

/-- A raise of NOTE seals nothing and captures nothing (R139). -/
theorem raiseAlarm_recs_of_note {r : Raise} {s : State} (h : latchAtLeast r.action .hold = false)
    (hnone : r.action ≠ .none) : (raiseAlarm r s).recs = s.recs := by
  have hnote : r.action = .note := by
    revert h hnone
    cases r.action <;> decide
  rw [raiseAlarm_eq, raiseRecorded_of_note s h]
  split
  · simp
  · rename_i hrise
    have hlatch : latchMax s.alarm.latch r.action = .note := by
      revert hrise
      unfold latchMax
      split
      · exact fun _ => hnote
      · exact fun h => absurd rfl h
    rw [hlatch, handLatch_note]
    simp

/-- ALARM_RAISED is among the events after a raise (R134). -/
theorem raiseAlarm_event (r : Raise) (s : State) : HasEvent 5 (raiseAlarm r s) :=
  (raiseAlarm_grows r s).events 5 (raiseRecorded_grows r s).2

theorem raiseAlarm_records (r : Raise) (s : State) :
    (raiseAlarm r s).alarm = { storeRaise r s.alarm with latch := latchMax s.alarm.latch r.action } := by
  rw [raiseAlarm_eq]
  split <;> simp

theorem raiseAlarm_lists {r : Raise} {s : State} (h : s.alarm.records.length < 24) :
    ∃ a ∈ (raiseAlarm r s).alarm.records, keyOf a = (r.source, r.kind, r.channel) ∧ a.acked = false := by
  rw [raiseAlarm_records]
  exact storeRaise_lists h

/-- The ALARM queue after a raise (R12, R136). -/
theorem raiseAlarm_alarmQ (r : Raise) (s : State) :
    (raiseAlarm r s).line.alarmQ =
      if sendsTelegram r s then withTelegram (alarmTelegramOf r s) s else s.line.alarmQ := by
  have hrecorded : (raiseRecorded r s).line.alarmQ =
      if sendsTelegram r s then withTelegram (alarmTelegramOf r s) s else s.line.alarmQ := by
    unfold raiseRecorded
    dsimp only
    have hplaced : (if latchAtLeast r.action .hold = true then
        cutAndCapture r.kind (raiseNoted r s) else raiseNoted r s).line.alarmQ = (raiseNoted r s).line.alarmQ := by
      split <;> simp
    refine hplaced.trans ?_
    unfold raiseNoted
    dsimp only
    split
    · simp only [placeAlarm, withTelegram, Config.alarmQueueSize, setEvent_frame]
      exact apply_ite (fun u : State => u.line.alarmQ) _ _ _
    · simp
  rw [raiseAlarm_eq]
  split <;> simp [hrecorded]

/-! ### Raises of the own station -/

theorem raiseOwn_captures {kind : AlarmKind} {channel : Nat} {action : Latch} {s u : State}
    (h : latchAtLeast action .hold = true) (hrest : RecsRest (raiseOwn kind channel action s) u)
    (hline : LineGrows (raiseOwn kind channel action s) u)
    (hcapture : u.recs.capture = (raiseOwn kind channel action s).recs.capture ∧
      u.recs.scansLeft = (raiseOwn kind channel action s).recs.scansLeft ∧
      u.recs.captureKind = (raiseOwn kind channel action s).recs.captureKind) : CaptureOrdered kind s u :=
  raiseAlarm_captures (r := ownRaise kind channel action s) h hrest hline hcapture

/-- The ALARM telegram of the own station carries the values of the moment (R136). -/
theorem raiseOwn_alarmQ_of_hold {kind : AlarmKind} {channel : Nat} {action : Latch} {s : State}
    (h : latchAtLeast action .hold = true) (hkind : kind ≠ .peerAction) :
    (raiseOwn kind channel action s).line.alarmQ = withTelegram
      { kind := kind, channel := channel, action := action, lam := s.servo.lam, step := s.seq.step
        fMeas := s.servo.fMeas, timeTag := s.cmd.timeTag } s := by
  have hsends : sendsTelegram (ownRaise kind channel action s) s = true := by
    simp [sendsTelegram, ownRaise, h, hkind]
  rw [raiseOwn, raiseAlarm_alarmQ, hsends, if_pos rfl]
  rfl

theorem raiseOwn_event (kind : AlarmKind) (channel : Nat) (action : Latch) (s : State) :
    HasEvent 5 (raiseOwn kind channel action s) :=
  raiseAlarm_event _ _

theorem raiseOwn_lists {kind : AlarmKind} {channel : Nat} {action : Latch} {s : State} (h : RoomFor 1 s) :
    Listed kind channel s (raiseOwn kind channel action s) :=
  raiseAlarm_lists (r := ownRaise kind channel action s) h

/-! ### The status timer and the line-fault watch (R9, R14, R15) -/

theorem statusWaits_iff {s : State} : statusWaits s = true ↔ s.line.statusSlot ≠ .empty := by
  simp [statusWaits]

theorem telegramPending_iff {s : State} : telegramPending s = true ↔ TelegramPending s := by
  have class_ : (offeredClass s).isSome = true ↔ s.line.alarmQ ≠ [] ∨ s.line.chargeSlot ≠ none ∨
      s.line.shuntSlot ≠ none ∨ s.line.statusSlot ≠ .empty ∨ s.line.replyQ ≠ [] ∨ s.line.dataQ ≠ [] := by
    unfold offeredClass
    split_ifs with halarm hcharge hshunt hstatus hreply hdata
    · simp_all
    · simp_all [Option.isSome_iff_ne_none]
    · simp_all [Option.isSome_iff_ne_none]
    · simp_all [statusWaits_iff]
    · simp_all
    · simp_all
    · simp_all [statusWaits]
  rw [telegramPending, Bool.or_eq_true, class_, Option.isSome_iff_ne_none]
  simp only [TelegramPending, or_assoc]

theorem watchCount_eq (s : State) :
    watchCount s =
      if TelegramPending s ∧ s.line.ownCompleted = false then min (s.line.faultCount + 1) 5 else 0 := by
  unfold watchCount
  by_cases h : TelegramPending s ∧ s.line.ownCompleted = false
  · rw [if_pos h, if_pos (by simp [telegramPending_iff.mpr h.1, h.2])]
  · rw [if_neg h, if_neg]
    rw [Bool.and_eq_true, Bool.not_eq_true', telegramPending_iff]
    exact h

/-- The count is at its end exactly at the fifth period of a kind (R14). -/
theorem watchCount_eq_five_iff {s : State} :
    watchCount s = 5 ↔ TelegramPending s ∧ s.line.ownCompleted = false ∧ 4 ≤ s.line.faultCount := by
  rw [watchCount_eq]
  split
  · rename_i h
    exact ⟨fun hc => ⟨h.1, h.2, by omega⟩, fun hc => by omega⟩
  · rename_i h
    exact ⟨fun hc => by omega, fun hc => absurd ⟨hc.1, hc.2.1⟩ h⟩

/-- The station at an expiry of its status timer, the timer reloaded and the period counted. -/
def periodCounted (s : State) : State :=
  { s with
    line.statusTimer := some (s.age + 10 * s.line.statusPeriod)
    line.faultCount := watchCount s
    line.ownCompleted := false }

theorem statusTimerExpires_eq (s : State) :
    statusTimerExpires s =
      placeStatus (if watchCount s = 5 ∧ s.line.lineFault = false then setLineFault (periodCounted s)
        else periodCounted s) := rfl

theorem exec_statusTimerExpiry {s : State} {due : Nat} (hsends : lineSends s = true)
    (htimer : s.line.statusTimer = some due) (hdue : due ≤ s.age) :
    exec .statusTimerExpiry s = .next (statusTimerExpires s) := by
  refine congrArg Host.Outcome.next ((if_pos hsends).trans ?_)
  simp [onExpiry, htimer, advanceTo_of_le hdue]

theorem placeStatus_slot (s : State) : (placeStatus s).line.statusSlot ≠ .empty := by
  cases h : s.line.statusSlot <;> simp [placeStatus, h]

theorem placeStatus_eq (s : State) :
    placeStatus s =
      { s with line.statusSlot :=
          match s.line.statusSlot with
          | .empty => .waiting
          | .waiting => .waiting
          | .taken snapshot _ => .taken snapshot true } := by
  unfold placeStatus
  cases h : s.line.statusSlot <;> rfl

/-- The fifth period without a completion: LINE_FAULT is set (R14). -/
theorem statusTimerExpires_of_fault {s : State} (hpending : TelegramPending s) (hown : s.line.ownCompleted = false)
    (hcount : 4 ≤ s.line.faultCount) (hfault : s.line.lineFault = false) :
    statusTimerExpires s = placeStatus (setLineFault (periodCounted s)) := by
  rw [statusTimerExpires_eq, if_pos ⟨watchCount_eq_five_iff.mpr ⟨hpending, hown, hcount⟩, hfault⟩]

theorem setLineFault_of_running {s : State} (h : s.loader.phase = .running) :
    setLineFault s = causeOn .lineFault (raiseOwn .lineFault 0 .hold { s with line.lineFault := true }) := by
  simp [setLineFault, isRunning, h]

theorem lineGrows_of_frame {s t : State} (hevents : t.line.events = s.line.events)
    (hreplies : t.line.replyQ = s.line.replyQ) : LineGrows s t :=
  ⟨fun _ h => by rwa [HasEvent, hevents], by rw [hreplies]⟩

@[simp] theorem placeStatus_frame (s : State) :
    (placeStatus s).alarm = s.alarm ∧ (placeStatus s).recs = s.recs ∧ (placeStatus s).line.events = s.line.events ∧
      (placeStatus s).line.replyQ = s.line.replyQ ∧ (placeStatus s).line.alarmQ = s.line.alarmQ ∧
      (placeStatus s).line.faultCount = s.line.faultCount ∧ (placeStatus s).line.lineFault = s.line.lineFault ∧
      (placeStatus s).line.statusTimer = s.line.statusTimer :=
  ⟨rfl, rfl, rfl, rfl, rfl, rfl, rfl, rfl⟩

/-- The raise of LINE_FAULT in a running station, before the cause is reported and the STATUS placed. -/
def lineFaultRaised (s : State) : State :=
  raiseOwn .lineFault 0 .hold { periodCounted s with line.lineFault := true }

/-- Settles O12: the three clauses are the three ways in which the expiry ends, the last an own raise. -/
theorem statusTimerPlacesAndWatches : Obligations.StatusTimerPlacesAndWatches := by
  refine ⟨fun s due hsends htimer hdue hcalm => ?_,
    fun s due hphase hlo hhi htimer hdue hpending hown hcount hfault => ?_,
    fun s due hphase htimer hdue hpending hown hcount hfault => ?_⟩
  · have hnot : ¬ (watchCount s = 5 ∧ s.line.lineFault = false) := by
      rw [watchCount_eq_five_iff]
      rintro ⟨⟨hpending, hown, hcount⟩, hfault⟩
      rcases hcalm with h | h | h | h
      · exact h hpending
      · rw [hown] at h; cases h
      · omega
      · rw [hfault] at h; cases h
    rw [exec_statusTimerExpiry hsends htimer hdue, statusTimerExpires_eq, if_neg hnot, placeStatus_eq, periodCounted,
      watchCount_eq] <;> rfl
  · have hsends : lineSends s = true := by
      simp only [lineSends, hphase, isFrameStation, decide_eq_true_eq]
      exact ⟨hlo, hhi⟩
    have hset : setLineFault (periodCounted s) = { periodCounted s with line.lineFault := true } := by
      simp [setLineFault, isRunning, periodCounted, hphase]
    rw [exec_statusTimerExpiry hsends htimer hdue, statusTimerExpires_of_fault hpending hown hcount hfault, hset]
    exact ⟨_, rfl, watchCount_eq_five_iff.mpr ⟨hpending, hown, hcount⟩, rfl, rfl, rfl, placeStatus_slot _⟩
  · have hfive : watchCount s = 5 := watchCount_eq_five_iff.mpr ⟨hpending, hown, hcount⟩
    have hgrows : LineGrows (lineFaultRaised s) (placeStatus (causeOn .lineFault (lineFaultRaised s))) :=
      lineGrows_of_frame (by simp) (by simp)
    have hevent : HasEvent 5 (lineFaultRaised s) := raiseOwn_event _ _ _ _
    rw [exec_statusTimerExpiry (by simp [lineSends, hphase]) htimer hdue,
      statusTimerExpires_of_fault hpending hown hcount hfault, setLineFault_of_running (by exact hphase)]
    refine ⟨placeStatus (causeOn .lineFault (lineFaultRaised s)), rfl, ?_, ?_, ?_, ?_,
      hgrows.events 5 hevent, ?_, placeStatus_slot _, ?_, ?_⟩
    · simp [lineFaultRaised, periodCounted, hfive]
    · simp [lineFaultRaised]
    · simp [mem_causeOn]
    · simp [lineFaultRaised, periodCounted]
    · simp [lineFaultRaised, periodCounted]
    · have hqueue : (lineFaultRaised s).line.alarmQ = _ := raiseOwn_alarmQ_of_hold (by decide) (by decide)
      exact Eq.trans (by simp) hqueue
    · exact (raiseOwn_captures (by decide) (.of_eq (by simp [lineFaultRaised])) hgrows
        (by simp [lineFaultRaised])).of_base rfl rfl rfl

end Sys2Proof.Machine

/-! News of other stations: heard ALARMs (O18), and the expiry of a peer record (O17). -/
namespace Sys2Proof.Machine

open Sys2Proof

-- One proof after the other: the threads of the check, which compiles the whole text at once, share one memory limit.
set_option Elab.async false

/-! ### A running station hears another -/

theorem fromPeer_of_hears {n : Nat} {f : State → State} {s : State} (h : Hears n s) : fromPeer n f s = f s := by
  obtain ⟨hphase, hlo, hhi, hother⟩ := h
  exact if_pos ⟨by simp [isRunning, hphase], by simp [isFrameStation, hlo, hhi], hother⟩

/-! ### Heard ALARMs (R133, R137) -/

theorem sameKey_iff {r : Raise} {a : AlarmRecord} : sameKey r a = true ↔ keyOf a = (r.source, r.kind, r.channel) := by
  simp [sameKey, keyOf]

theorem storeRaise_of_evicted {r : Raise} {u : AlarmUnit} {before after : List AlarmRecord} {b : AlarmRecord}
    (hnew : u.records.any (sameKey r) = false) (hfull : 24 ≤ u.records.length)
    (hrecords : u.records = before ++ b :: after) (hbefore : ∀ x ∈ before, x.acked = false) (hb : b.acked = true) :
    storeRaise r u = { u with records := before ++ after ++ [firstRecord r], overfull := false } := by
  have hany : u.records.any (fun a => a.acked) = true := by rw [hrecords]; simp [hb]
  have herase : u.records.eraseP (fun a => a.acked) = before ++ after := by
    rw [hrecords, List.eraseP_append_right _ (fun x hx => by simp [hbefore x hx]), List.eraseP_cons_of_pos hb]
  rw [storeRaise, hnew, if_neg (by simp), if_neg (by simp [Config.alarmListSize, hfull]), if_pos hany, herase]

theorem storeRaise_of_overfull {r : Raise} {u : AlarmUnit} (hnew : u.records.any (sameKey r) = false)
    (hfull : 24 ≤ u.records.length) (hnone : ∀ x ∈ u.records, x.acked = false) :
    storeRaise r u = { u with overfull := true } := by
  have hany : u.records.any (fun a => a.acked) = false :=
    List.any_eq_false.mpr fun x hx => by simp [hnone x hx]
  rw [storeRaise, hnew, if_neg (by simp), if_neg (by simp [Config.alarmListSize, hfull]), hany, if_neg (by simp)]

theorem alarmHeard_of_tables {n : Nat} {r : AlarmReport} {k : AlarmKind} {a : Latch} {s : State}
    (hkind : kindOfCode r.kindCode = some k) (haction : actionOfCode r.actionCode = some a)
    (hmember : isMember n s = true) : alarmHeard n r s = raiseAlarm (heardRaise n k a r) s := by
  simp [alarmHeard, hkind, haction, hmember]

theorem alarmHeard_of_other {n : Nat} {r : AlarmReport} {s : State}
    (h : isMember n s = false ∨ kindOfCode r.kindCode = none ∨ actionOfCode r.actionCode = none) :
    alarmHeard n r s = s := by
  unfold alarmHeard
  split
  · rename_i k a hkind haction
    rw [if_neg]
    rcases h with h | h | h
    · simp [h]
    · rw [hkind] at h; cases h
    · rw [haction] at h; cases h
  · rfl

theorem exec_alarmHeard {n : Nat} {r : AlarmReport} {s : State} (h : Hears n s) :
    exec (.alarmHeard n r) s = .next (startCommands (alarmHeard n r s)) :=
  congrArg (fun t => Host.Outcome.next (startCommands t)) (fromPeer_of_hears h)

theorem actionOfCode_ne_none {c : Nat} {a : Latch} (h : actionOfCode c = some a) : a ≠ .none := by
  intro ha
  subst ha
  unfold actionOfCode at h
  split at h
  · cases h
  · rename_i hc
    unfold latchOfCode at h
    split at h
    · exact hc rfl
    all_goals cases h

/-- Settles O18: the record memory by the order of a raise, the list by the branches of `storeRaise`. -/
theorem heardAlarmIsRaisedOrDiscarded : Obligations.HeardAlarmIsRaisedOrDiscarded := by
  refine ⟨fun n r s k a hears hmember hkind haction => ?_, fun n r s hears hother => ?_⟩
  · have quiet := StartQuiet.startCommands (raiseAlarm (heardRaise n k a r) s)
    have hunsent : sendsTelegram (heardRaise n k a r) s = false := by
      obtain ⟨-, -, -, hne⟩ := hears
      simp [sendsTelegram, heardRaise, hne]
    have hlist : (startCommands (raiseAlarm (heardRaise n k a r) s)).alarm =
        { storeRaise (heardRaise n k a r) s.alarm with latch := latchMax s.alarm.latch a } := by
      simpa [heardRaise] using raiseAlarm_records (heardRaise n k a r) s
    refine ⟨startCommands (raiseAlarm (heardRaise n k a r) s),
      by rw [exec_alarmHeard hears, alarmHeard_of_tables hkind haction hmember], by rw [hlist],
      quiet.line.events 5 (raiseAlarm_event _ s), by simp, ?_, fun hroom => ?_, fun hheld => ?_, fun hnew => ?_,
      fun hhold => ?_, fun hnote => ?_⟩
    · simp [raiseAlarm_alarmQ, hunsent]
    · rw [hlist]
      exact storeRaise_lists (r := heardRaise n k a r) hroom
    · obtain ⟨b, hb, hkey⟩ := hheld
      have hany : s.alarm.records.any (sameKey (heardRaise n k a r)) = true :=
        List.any_eq_true.mpr ⟨b, hb, sameKey_iff.mpr hkey⟩
      rw [hlist, storeRaise_of_held hany]
      refine ⟨rfl, List.map_congr_left fun c _ => ?_⟩
      simp only [sameKey_iff]
      rfl
    · have hany : s.alarm.records.any (sameKey (heardRaise n k a r)) = false :=
        List.any_eq_false.mpr fun b hb hkey => hnew b hb (sameKey_iff.mp hkey)
      rw [hlist]
      refine ⟨fun hroom => ?_, fun before b after hfull hrecords hbefore hb => ?_, fun hfull hnone => ?_⟩
      · rw [storeRaise_of_new hany hroom]
        exact ⟨rfl, rfl⟩
      · rw [storeRaise_of_evicted hany hfull hrecords hbefore hb]
        exact ⟨rfl, rfl⟩
      · rw [storeRaise_of_overfull hany hfull hnone]
        exact ⟨rfl, rfl⟩
    · exact raiseAlarm_captures (r := heardRaise n k a r) hhold (.of_eq quiet.recs) quiet.line
        (by rw [quiet.recs]; exact ⟨rfl, rfl, rfl⟩)
    · exact quiet.recs.trans
        (raiseAlarm_recs_of_note (r := heardRaise n k a r) hnote (actionOfCode_ne_none haction))
  · rw [exec_alarmHeard hears, alarmHeard_of_other hother]

/-! ### The sequencer's response to a raise of HOLD (R46, R135) -/

theorem enterHeld_seq (s : State) : (enterHeld s).seq = heldOf s := by
  have stopped (timer : HoldTimer) : pauseTimer s.age timer = stoppedWithRest s.age timer := by cases timer <;> rfl
  simp [enterHeld, heldOf, stopped]

@[simp] theorem raiseRecorded_slots (r : Raise) (s : State) :
    (raiseRecorded r s).line.shuntSlot = s.line.shuntSlot ∧
      (raiseRecorded r s).line.shuntDoneBehind = s.line.shuntDoneBehind := by
  unfold raiseRecorded
  dsimp only
  split <;> split <;> simp

theorem raiseOwn_hold_of_latched {kind : AlarmKind} {channel : Nat} {s : State}
    (h : latchAtLeast s.alarm.latch .hold = true) :
    raiseOwn kind channel .hold s = raiseRecorded (ownRaise kind channel .hold s) s := by
  rw [raiseOwn, raiseAlarm_eq, if_pos (by exact latchMax_eq_left h)]

theorem raiseOwn_hold_of_below {kind : AlarmKind} {channel : Nat} {s : State}
    (h : latchAtLeast s.alarm.latch .hold = false) :
    raiseOwn kind channel .hold s =
      if s.seq.state = .run then enterHeld (raiseRecorded (ownRaise kind channel .hold s) s)
      else raiseRecorded (ownRaise kind channel .hold s) s := by
  have hmax : latchMax s.alarm.latch (ownRaise kind channel .hold s).action = .hold := latchMax_eq_right h
  have hrise : Latch.hold ≠ s.alarm.latch := fun heq => by rw [← heq] at h; cases h
  rw [raiseOwn, raiseAlarm_eq, hmax, if_neg hrise, handLatch_hold]
  simp

/-- A raise of HOLD moves nothing but a sequencer in RUN; neither shunt nor SHUNT slot. -/
theorem raiseOwn_hold_still (kind : AlarmKind) (channel : Nat) (s : State) :
    (raiseOwn kind channel .hold s).scan.shunt = s.scan.shunt ∧
      (raiseOwn kind channel .hold s).line.shuntSlot = s.line.shuntSlot ∧
      (s.seq.state ≠ .run → (raiseOwn kind channel .hold s).seq = s.seq) ∧
      (s.seq.state = .run → latchAtLeast s.alarm.latch .hold = false →
        (raiseOwn kind channel .hold s).seq = heldOf s) := by
  cases h : latchAtLeast s.alarm.latch .hold with
  | true =>
    rw [raiseOwn_hold_of_latched h]
    refine ⟨by simp, by simp, by simp, nofun⟩
  | false =>
    rw [raiseOwn_hold_of_below h]
    split
    · rename_i hrun
      refine ⟨by simp, by simp, fun hn => absurd hrun hn, fun _ _ => ?_⟩
      rw [enterHeld_seq]
      simp [heldOf]
    · rename_i hrun
      exact ⟨by simp, by simp, by simp, fun hn => absurd hn hrun⟩

/-! ### The peer records (R18 to R22, R24) -/

theorem peerAt_of_records {m : Nat} {s t : State} (h : t.peers.records = s.peers.records) :
    peerAt m t = peerAt m s := by
  rw [peerAt, h, peerAt]

theorem peerAt_updatePeer {f : PeerRecord → PeerRecord} {n : Nat} {s : State} (hlo : 1 ≤ n)
    (hlen : n ≤ s.peers.records.length) (m : Nat) :
    peerAt m (updatePeer f n s) = if m = n then f (peerAt n s) else peerAt m s := by
  have hn : n ≠ 0 := by omega
  unfold updatePeer peerAt
  rw [if_neg hn, if_neg hn]
  dsimp only
  rw [modifyAt_getD]
  by_cases hmn : m = n
  · subst hmn
    rw [if_neg hn, if_pos ⟨rfl, by omega⟩, if_pos rfl]
  · rw [if_neg hmn]
    by_cases hm : m = 0
    · rw [if_pos hm, if_pos hm]
    · rw [if_neg hm, if_neg hm, if_neg (by omega)]

@[simp] theorem updatePeer_length (f : PeerRecord → PeerRecord) (n : Nat) (s : State) :
    (updatePeer f n s).peers.records.length = s.peers.records.length := by
  unfold updatePeer
  split <;> simp

theorem someMemberAbsent_iff {s : State} :
    someMemberAbsent s = true ↔
      ∃ m, 1 ≤ m ∧ m ≤ 27 ∧ m ≠ ownStation s ∧ isMember m s = true ∧ (peerAt m s).present = false := by
  have range (m : Nat) (h : isMember m s = true) : 1 ≤ m ∧ m ≤ 27 := by
    simp only [isMember, isFrameStation, Bool.and_eq_true, decide_eq_true_eq] at h
    exact h.1
  simp only [someMemberAbsent, List.any_eq_true, mem_otherMembers, Bool.not_eq_true']
  constructor
  · rintro ⟨m, ⟨hmember, hother⟩, habsent⟩
    exact ⟨m, (range m hmember).1, (range m hmember).2, hother, hmember, habsent⟩
  · rintro ⟨m, -, -, hother, hmember, habsent⟩
    exact ⟨m, ⟨hmember, hother⟩, habsent⟩

theorem digestAnswer_not_iff {s : State} :
    (!digestAnswer s) = true ↔
      ∃ m, 1 ≤ m ∧ m ≤ 27 ∧ m ≠ ownStation s ∧ isMember m s = true ∧ (peerAt m s).present = true ∧
        (peerAt m s).digest ≠ s.seq.digest := by
  rw [Bool.not_eq_true', digestAnswer_eq_false_iff]
  constructor
  · rintro ⟨p, hp, hdiffer⟩
    obtain ⟨m, hmember, hother, hpresent, rfl⟩ := mem_presentPeers.mp hp
    obtain ⟨hlo, hhi, -⟩ := presentMember_iff.mpr ⟨hmember, hother, hpresent⟩
    exact ⟨m, hlo, hhi, hother, hmember, hpresent, hdiffer⟩
  · rintro ⟨m, -, -, hother, hmember, hpresent, hdiffer⟩
    exact ⟨peerAt m s, mem_presentPeers.mpr ⟨m, hmember, hother, hpresent, rfl⟩, hdiffer⟩

/-! ### The release of the claim holder (R109, R111) -/

theorem holderReleased_released (s : State) : HolderReleased s (holderReleased s) := by
  unfold holderReleased
  dsimp only
  split
  · rename_i hwait
    refine ⟨by simp, fun _ hempty => ?_, fun hn => absurd hwait hn⟩
    rw [placeShuntClaim_of_empty (by exact hempty)]
    exact ⟨rfl, rfl⟩
  · rename_i hwait
    exact ⟨rfl, fun hn => absurd hn hwait, fun _ => ⟨rfl, rfl⟩⟩

theorem HolderReleased.of_base {s s' t : State} (h : HolderReleased s' t) (hshunt : s'.scan.shunt = s.scan.shunt)
    (hslot : s'.line.shuntSlot = s.line.shuntSlot) (hcfg : s'.cfg = s.cfg) : HolderReleased s t := by
  unfold HolderReleased at h ⊢
  rwa [hshunt, hslot, hcfg] at h

theorem HolderReleased.of_after {s t u : State} (h : HolderReleased s t) (hscan : u.scan = t.scan)
    (hslot : u.line.shuntSlot = t.line.shuntSlot) : HolderReleased s u := by
  unfold HolderReleased at h ⊢
  rwa [hscan, hslot]

theorem isHolder_iff {n : Nat} {s : State} : isHolder n s = true ↔ ∃ h, s.scan.holder = some h ∧ h.station = n := by
  cases hh : s.scan.holder <;> simp [isHolder, hh]

theorem AsksInDone.of_after {c : Nat} {g : Segment} {s t u : State} (h : AsksInDone c g s t) (hseq : u.seq = t.seq)
    (hpeers : u.peers = t.peers) (hcfg : u.cfg = t.cfg) (hloader : u.loader = t.loader) : AsksInDone c g s u := by
  unfold AsksInDone GateOpen PresentMember peerAt isMember ownStation at h ⊢
  rwa [hseq, hpeers, hcfg, hloader]

/-! ### The expiry of a peer record (R19 to R21, R109) -/

/-- The record of `n` absent, the flags of a member's absence judged. -/
def recordAbsent (n : Nat) (s : State) : State :=
  let s1 := updatePeer (fun p => { p with present := false, expiry := none }) n s
  if isMember n s1 then updatePeerFlags s1 else s1

@[simp] theorem recordAbsent_frame (n : Nat) (s : State) :
    (recordAbsent n s).seq = s.seq ∧ (recordAbsent n s).scan = s.scan ∧ (recordAbsent n s).alarm = s.alarm ∧
      (recordAbsent n s).line = s.line ∧ (recordAbsent n s).cfg = s.cfg ∧ (recordAbsent n s).loader = s.loader ∧
      (recordAbsent n s).age = s.age ∧ (recordAbsent n s).cmd = s.cmd ∧
      (recordAbsent n s).peers.records =
        (updatePeer (fun p => { p with present := false, expiry := none }) n s).peers.records := by
  unfold recordAbsent
  dsimp only
  split <;> simp

theorem recordAbsent_records (n : Nat) (s : State) : (recordAbsent n s).peers.records =
    (updatePeer (fun p => { p with present := false, expiry := none }) n s).peers.records := by
  simp

theorem peerExpires_eq (n : Nat) (s : State) :
    peerExpires n s =
      if isMember n s then askGate (holderAbsent n (decideLost n (recordAbsent n s)))
      else holderAbsent n (decideLost n (recordAbsent n s)) := by
  have hmember : isMember n (holderAbsent n (decideLost n (recordAbsent n s))) = isMember n s := by simp [isMember]
  rw [← hmember]
  rfl

theorem exec_peerRecordExpiry {n due : Nat} {s : State} (hears : Hears n s) (hexpiry : (peerAt n s).expiry = some due)
    (hdue : due ≤ s.age) : exec (.peerRecordExpiry n) s = .next (peerExpires n s) := by
  obtain ⟨hphase, -, -, hother⟩ := hears
  refine congrArg Host.Outcome.next ((if_neg hother).trans ?_)
  simp [timerEvent, whenRunning, isRunning, hphase, onExpiry, hexpiry, advanceTo_of_le hdue]

theorem loadApplied_iff {s : State} :
    loadApplied s = true ↔ s.seq.state = .run ∨ s.seq.state = .held ∨ s.seq.state = .unloading := by
  unfold loadApplied
  cases s.seq.state <;> simp

theorem decideLost_of_loaded {n : Nat} {s : State} (hmember : isMember n s = true)
    (hload : s.seq.state = .run ∨ s.seq.state = .held ∨ s.seq.state = .unloading) :
    decideLost n s =
      causeOn (.peerLost n) (raiseOwn .peerLost n .hold (updatePeer (fun p => { p with lost := true }) n s)) :=
  if_pos ⟨hmember, loadApplied_iff.mpr hload⟩

theorem decideLost_of_other {n : Nat} {s : State}
    (h : isMember n s = false ∨ ¬ (s.seq.state = .run ∨ s.seq.state = .held ∨ s.seq.state = .unloading)) :
    decideLost n s = s := by
  refine if_neg fun ⟨hmember, hload⟩ => ?_
  rcases h with h | h
  · rw [h] at hmember; cases hmember
  · exact h (loadApplied_iff.mp hload)

/-- Neither the decision on a lost member nor the release of the holder moves the other's state. -/
theorem decideLost_still (n : Nat) (s : State) :
    (decideLost n s).scan.shunt = s.scan.shunt ∧ (decideLost n s).line.shuntSlot = s.line.shuntSlot := by
  unfold decideLost
  split
  · obtain ⟨hshunt, hslot, -⟩ :=
      raiseOwn_hold_still .peerLost n (updatePeer (fun p => { p with lost := true }) n s)
    exact ⟨by simpa using hshunt, by simpa using hslot⟩
  · exact ⟨rfl, rfl⟩

/-- The record of `n` after the decision on a lost member. -/
theorem peerAt_decideLost {n : Nat} {s : State} (hlo : 1 ≤ n) (hlen : n ≤ s.peers.records.length) (m : Nat) :
    peerAt m (decideLost n s) =
      if m = n then
        { peerAt n s with lost := (peerAt n s).lost ||
          (isMember n s && decide (s.seq.state = .run ∨ s.seq.state = .held ∨ s.seq.state = .unloading)) }
      else peerAt m s := by
  by_cases h : isMember n s = true ∧ (s.seq.state = .run ∨ s.seq.state = .held ∨ s.seq.state = .unloading)
  · obtain ⟨hmember, hload⟩ := h
    have hrecords := peerAt_of_records (m := m) (s := updatePeer (fun p => { p with lost := true }) n s)
      (t := decideLost n s) (by rw [decideLost_of_loaded hmember hload]; simp)
    rw [hrecords, peerAt_updatePeer hlo hlen]
    simp [hmember, hload]
  · have hnot : isMember n s = false ∨ ¬ (s.seq.state = .run ∨ s.seq.state = .held ∨ s.seq.state = .unloading) := by
      rcases Bool.eq_false_or_eq_true (isMember n s) with hmember | hmember
      · exact .inr fun hload => h ⟨hmember, hload⟩
      · exact .inl hmember
    have hflag : (isMember n s && decide (s.seq.state = .run ∨ s.seq.state = .held ∨ s.seq.state = .unloading)) =
        false := by
      rw [Bool.and_eq_false_iff]
      exact hnot.imp_right fun hn => by simpa using hn
    rw [decideLost_of_other hnot, hflag, Bool.or_false]
    split
    · rename_i hm
      rw [hm]
    · rfl

/-- What the expiry of a record leaves is decided before the claim holder is judged and the gate asked again. -/
theorem peerExpires_parts (n : Nat) (s : State) :
    (peerExpires n s).alarm = (decideLost n (recordAbsent n s)).alarm ∧
      (peerExpires n s).peers = (decideLost n (recordAbsent n s)).peers ∧
      (peerExpires n s).scan = (holderAbsent n (decideLost n (recordAbsent n s))).scan ∧
      (peerExpires n s).line.shuntSlot = (holderAbsent n (decideLost n (recordAbsent n s))).line.shuntSlot ∧
      (¬ ((decideLost n (recordAbsent n s)).seq.state = .run ∧ isMember n s = true) →
        (peerExpires n s).seq = (decideLost n (recordAbsent n s)).seq) := by
  rw [peerExpires_eq]
  split
  · rename_i hmember
    refine ⟨by simp, by simp, by simp, by simp, fun hnot => ?_⟩
    rw [askGate_of_not_done]
    · simp
    · rintro ⟨hrun, -⟩
      exact hnot ⟨by simpa using hrun, hmember⟩
  · exact ⟨by simp, by simp, rfl, rfl, fun _ => by simp⟩

theorem memberAbsent_recordAbsent {n : Nat} {s : State} (hears : Hears n s) (hlen : s.peers.records.length = 27)
    (hmember : isMember n s = true) : (recordAbsent n s).peers.memberAbsent = true := by
  obtain ⟨-, hlo, hhi, hother⟩ := hears
  have hrecord : isMember n (updatePeer (fun p => { p with present := false, expiry := none }) n s) = true := by
    simpa [isMember] using hmember
  unfold recordAbsent
  dsimp only
  rw [if_pos hrecord, updatePeerFlags_memberAbsent, someMemberAbsent_iff]
  refine ⟨n, hlo, hhi, by simpa [ownStation] using hother, hrecord, ?_⟩
  rw [peerAt_updatePeer hlo (by omega), if_pos rfl]

theorem decideLost_seq_of_run {n : Nat} {s : State} (hmember : isMember n s = true) (hrun : s.seq.state = .run)
    (hbelow : latchAtLeast s.alarm.latch .hold = false) : (decideLost n s).seq = heldOf s := by
  obtain ⟨-, -, -, hheld⟩ := raiseOwn_hold_still .peerLost n (updatePeer (fun p => { p with lost := true }) n s)
  have hsame (c : Cause) (u : State) : (causeOn c u).seq = u.seq := by simp
  rw [decideLost_of_loaded hmember (.inl hrun), hsame, hheld (by simpa using hrun) (by simpa using hbelow)]
  simp [heldOf]

theorem decideLost_seq_of_rest {n : Nat} {s : State} (h : isMember n s = false ∨ s.seq.state ≠ .run) :
    (decideLost n s).seq = s.seq := by
  unfold decideLost
  split
  · rename_i hlost
    have hnotrun := h.resolve_left (by simp [hlost.1])
    obtain ⟨-, -, hstill, -⟩ := raiseOwn_hold_still .peerLost n (updatePeer (fun p => { p with lost := true }) n s)
    simpa using hstill (by simpa using hnotrun)
  · rfl

theorem decideLost_memberAbsent (n : Nat) (s : State) :
    (decideLost n s).peers.memberAbsent = s.peers.memberAbsent := by
  unfold decideLost
  split <;> simp

theorem isMember_recordAbsent (m n : Nat) (s : State) : isMember m (recordAbsent n s) = isMember m s := by
  simp [isMember]

/-- Settles O17: the record by `peerAt_decideLost`, the raise by what a raise of HOLD moves, the claim holder by
`holderReleased_released`. -/
theorem expiredRecordIsAbsent : Obligations.ExpiredRecordIsAbsent := by
  intro n due s hears hlen hexpiry hdue
  obtain ⟨-, hlo, hhi, -⟩ := id hears
  obtain ⟨halarm, hpeers, hscan, hslot, hseq⟩ := peerExpires_parts n s
  have hlenAbsent : n ≤ (recordAbsent n s).peers.records.length := by simp [hlen, hhi]
  have habsent (m : Nat) : peerAt m (recordAbsent n s) =
      if m = n then { peerAt n s with present := false, expiry := none } else peerAt m s := by
    rw [peerAt_of_records (recordAbsent_records n s), peerAt_updatePeer hlo (by omega)]
  have hpeer (m : Nat) := (peerAt_of_records (m := m) (congrArg PeerTable.records hpeers)).trans
    (peerAt_decideLost hlo hlenAbsent m)
  have hmemberAbsent := isMember_recordAbsent n n s
  obtain ⟨hshuntStill, hslotStill⟩ := decideLost_still n (recordAbsent n s)
  refine ⟨peerExpires n s, exec_peerRecordExpiry hears hexpiry hdue, ?_, fun m hm => ?_, fun hmember => ?_,
    fun hmember hload => ?_, fun hcalm => ?_, fun hmember hrun hbelow => ?_, fun hcalm => ?_, fun h hholder hn => ?_,
    fun hnone => ?_⟩
  · rw [hpeer, if_pos rfl, habsent, if_pos rfl, hmemberAbsent]
    simp
  · rw [hpeer, if_neg hm, habsent, if_neg hm]
  · rw [hpeers, decideLost_memberAbsent]
    exact memberAbsent_recordAbsent hears hlen hmember
  · have hlost := decideLost_of_loaded (s := recordAbsent n s) (hmemberAbsent.trans hmember) (by simpa using hload)
    rw [Listed, halarm, hlost]
    refine ⟨by simp [mem_causeOn], by simp, fun room => ?_⟩
    have hroom : RoomFor 1 (updatePeer (fun p => { p with lost := true }) n (recordAbsent n s)) := by
      simpa [RoomFor] using room
    simpa [Listed, ownStation] using raiseOwn_lists (kind := .peerLost) (channel := n) (action := .hold) hroom
  · rw [halarm, decideLost_of_other]
    · simp
    · refine hcalm.imp hmemberAbsent.trans fun h => ?_
      rcases h with h | h <;> simp [h]
  · have hheld : (decideLost n (recordAbsent n s)).seq = heldOf s := by
      rw [decideLost_seq_of_run (hmemberAbsent.trans hmember) (by simpa using hrun) (by simpa using hbelow)]
      simp [heldOf]
    rw [hseq (by simp [hheld, heldOf]), hheld]
  · have hsame : (decideLost n (recordAbsent n s)).seq = s.seq := by
      rw [decideLost_seq_of_rest (hcalm.imp hmemberAbsent.trans fun h => by simpa using h)]
      simp
    rw [hseq, hsame]
    rw [hsame]
    rintro ⟨hrun, hmember⟩
    rcases hcalm with h | h
    · rw [h] at hmember; cases hmember
    · exact h hrun
  · have hholds : isHolder n (decideLost n (recordAbsent n s)) = true :=
      isHolder_iff.mpr ⟨h, by simpa using hholder, hn⟩
    refine HolderReleased.of_after (t := holderReleased (decideLost n (recordAbsent n s))) ?_
      (by rw [hscan, holderAbsent, if_pos hholds]) (by rw [hslot, holderAbsent, if_pos hholds])
    exact (holderReleased_released _).of_base (by rw [hshuntStill]; simp) (by rw [hslotStill]; simp) (by simp)
  · have hnot : ¬ isHolder n (decideLost n (recordAbsent n s)) = true := fun hholds => by
      obtain ⟨h, hholder, hn⟩ := isHolder_iff.mp hholds
      exact hnone h (by simpa using hholder) hn
    rw [hscan, hslot, holderAbsent, if_neg hnot, hshuntStill, hslotStill]
    simp

end Sys2Proof.Machine

/-! The STATUS of a peer: its record, the action edge that it may be, and what the sequencer and the claim holder make of
it (O15, O16). -/
namespace Sys2Proof.Machine

open Sys2Proof

-- One proof after the other: the threads of the check, which compiles the whole text at once, share one memory limit.
set_option Elab.async false

/-! ### The order of a STATUS (R18) -/

/-- The record of `n` as a STATUS leaves it: the edge taken, the record refilled, a lost mark cleared. -/
def recordRefilled (n : Nat) (r : StatusReport) (s : State) : State :=
  let s1 := actionEdge n r.latch s
  clearLost n (updatePeer (refilled r s1.age (s1.age + peerTimeout s1)) n s1)

theorem takePeerStatus_eq (n : Nat) (r : StatusReport) (s : State) :
    takePeerStatus n r s =
      holderQuiet n (r.flags.getLsbD 3) (memberNews n (recordRefilled n r s)) := rfl

theorem exec_statusReceived {n : Nat} {r : StatusReport} {s : State} (h : Hears n s) :
    exec (.statusReceived n r) s =
      .next (startCommands (holderQuiet n (r.flags.getLsbD 3) (memberNews n (recordRefilled n r s)))) :=
  congrArg (fun t => Host.Outcome.next (startCommands t)) (fromPeer_of_hears h)

@[simp] theorem recordRefilled_frame (n : Nat) (r : StatusReport) (s : State) :
    (recordRefilled n r s).cfg = s.cfg ∧ (recordRefilled n r s).loader = s.loader ∧
      (recordRefilled n r s).age = s.age ∧ (recordRefilled n r s).scan.holder = s.scan.holder ∧
      (recordRefilled n r s).seq.digest = s.seq.digest ∧
      (recordRefilled n r s).line.statusPeriod = s.line.statusPeriod := by
  simp [recordRefilled]

/-- The step that may raise, the record aside: `actionEdge` before it notes the reported latch. -/
def edgeRaised (n : Nat) (reported : Latch) (s : State) : State :=
  if isMember n s = true ∧ latchCode (peerAt n s).lastSeen < latchCode reported then
    raiseOwn .peerAction n reported s
  else s

theorem actionEdge_eq (n : Nat) (reported : Latch) (s : State) :
    actionEdge n reported s = updatePeer (fun p => { p with lastSeen := reported }) n (edgeRaised n reported s) := by
  simp only [actionEdge, edgeRaised, decide_eq_true_eq]

@[simp] theorem edgeRaised_peers (n : Nat) (reported : Latch) (s : State) :
    (edgeRaised n reported s).peers = s.peers := by
  unfold edgeRaised
  split <;> simp

theorem clearLost_peerAt {n : Nat} {s : State} (hlo : 1 ≤ n) (hlen : n ≤ s.peers.records.length) (m : Nat) :
    peerAt m (clearLost n s) = if m = n then { peerAt n s with lost := false } else peerAt m s := by
  unfold clearLost
  split
  · rw [peerAt_of_records (s := updatePeer (fun p => { p with lost := false }) n s) (by simp),
      peerAt_updatePeer hlo hlen]
  · rename_i hlost
    split
    · rename_i hm
      rw [hm, ← Bool.eq_false_of_not_eq_true hlost]
    · rfl

/-- The record that a STATUS heard now leaves (R18, R19, R22, R24). -/
def reportedRecord (r : StatusReport) (s : State) : PeerRecord :=
  { present := true, lastHeard := some s.age
    expiry := some (s.age + 10 * (s.cfg.peerTimeout * s.line.statusPeriod)), loadGroup := r.loadGroup
    seqState := r.seqState, phase := r.phase, step := r.step, segment := r.segment, lam := r.lam, fMeas := r.fMeas
    actuator := r.actuator, latch := r.latch, flags := r.flags, digest := r.digest, lastSeen := r.latch
    lost := false }

theorem recordRefilled_peerAt {n : Nat} {r : StatusReport} {s : State} (hlo : 1 ≤ n) (hlen : n ≤ s.peers.records.length)
    (m : Nat) : peerAt m (recordRefilled n r s) = if m = n then reportedRecord r s else peerAt m s := by
  have hedge (k : Nat) : peerAt k (actionEdge n r.latch s) =
      if k = n then { peerAt n s with lastSeen := r.latch } else peerAt k s := by
    have hsame (j : Nat) := peerAt_of_records (m := j) (congrArg PeerTable.records (edgeRaised_peers n r.latch s))
    rw [actionEdge_eq, peerAt_updatePeer hlo (by simpa using hlen), hsame, hsame]
  have hlenEdge : n ≤ (actionEdge n r.latch s).peers.records.length := by
    rw [actionEdge_eq]
    simpa using hlen
  unfold recordRefilled
  dsimp only
  rw [clearLost_peerAt hlo (by simpa using hlenEdge), peerAt_updatePeer hlo hlenEdge,
    peerAt_updatePeer hlo hlenEdge, hedge, hedge, if_pos rfl, if_pos rfl]
  by_cases hm : m = n
  · simp [hm, refilled, reportedRecord, peerTimeout, ms, Config.perMs]
  · simp [hm]

theorem recordRefilled_lost {n : Nat} {r : StatusReport} {s : State} (hlo : 1 ≤ n)
    (hlen : n ≤ s.peers.records.length) :
    (recordRefilled n r s).alarm.causes =
      if (peerAt n s).lost then s.alarm.causes.filter (fun c => decide (c ≠ .peerLost n)) else s.alarm.causes := by
  have hedge : (edgeRaised n r.latch s).alarm.causes = s.alarm.causes := by
    unfold edgeRaised
    split <;> simp
  have hlenEdge : n ≤ (edgeRaised n r.latch s).peers.records.length := by simpa using hlen
  have hsame := peerAt_of_records (m := n) (congrArg PeerTable.records (edgeRaised_peers n r.latch s))
  unfold recordRefilled clearLost
  dsimp only
  rw [actionEdge_eq, peerAt_updatePeer hlo (by simpa using hlenEdge), if_pos rfl, peerAt_updatePeer hlo hlenEdge,
    if_pos rfl, hsame]
  dsimp only [refilled]
  cases hlost : (peerAt n s).lost with
  | true => simp [hedge]
  | false => simp [hedge]

/-- What a STATUS does to the station outside the record is the raise of its edge. -/
theorem recordRefilled_rest (n : Nat) (r : StatusReport) (s : State) :
    (recordRefilled n r s).recs = (edgeRaised n r.latch s).recs ∧
      (recordRefilled n r s).line = (edgeRaised n r.latch s).line ∧
      (recordRefilled n r s).alarm.latch = (edgeRaised n r.latch s).alarm.latch ∧
      (recordRefilled n r s).alarm.records = (edgeRaised n r.latch s).alarm.records ∧
      (recordRefilled n r s).seq = (edgeRaised n r.latch s).seq ∧
      (recordRefilled n r s).scan = (edgeRaised n r.latch s).scan ∧
      (recordRefilled n r s).cmd = (edgeRaised n r.latch s).cmd := by
  simp [recordRefilled, actionEdge_eq]

theorem edgeRaised_of_edge {n : Nat} {reported : Latch} {s : State} (hmember : isMember n s = true)
    (hrise : latchCode (peerAt n s).lastSeen < latchCode reported) :
    edgeRaised n reported s = raiseOwn .peerAction n reported s :=
  if_pos ⟨hmember, hrise⟩

theorem edgeRaised_of_none {n : Nat} {reported : Latch} {s : State}
    (h : isMember n s = false ∨ latchCode reported ≤ latchCode (peerAt n s).lastSeen) :
    edgeRaised n reported s = s := by
  refine if_neg fun ⟨hmember, hrise⟩ => ?_
  rcases h with h | h
  · rw [h] at hmember; cases hmember
  · omega

/-! ### What follows the record: the flags, the sequencer, the claim holder, the commands that start -/

theorem enterSegment_rest (i : Nat) (s : State) : RecsRest s (enterSegment i s) := by
  unfold enterSegment
  split
  · exact .refl s
  · split
    · exact setSequencer_rest _ s
    · exact setSequencer_rest _ s

theorem askGate_rest (s : State) : RecsRest s (askGate s) := by
  unfold askGate
  split
  · split
    · exact .refl s
    · dsimp only
      split
      · exact (RecsRest.of_eq (by simp)).trans (enterSegment_rest _ _)
      · exact .of_eq (by simp)
  · exact .refl s

theorem memberNews_rest (n : Nat) (s : State) : RecsRest s (memberNews n s) := by
  unfold memberNews
  split
  · exact (RecsRest.of_eq (by simp)).trans (askGate_rest _)
  · exact .refl s

theorem memberNews_lineGrows (n : Nat) (s : State) : LineGrows s (memberNews n s) := by
  unfold memberNews
  split
  · exact (LineGrows.of_line_eq (by simp)).trans (askGate_lineGrows _)
  · exact .refl s

/-- The news behind the record of a STATUS, up to the end of its event. -/
def newsTaken (n : Nat) (active : Bool) (s : State) : State :=
  startCommands (holderQuiet n active (memberNews n s))

theorem newsTaken_rest (n : Nat) (active : Bool) (s : State) :
    RecsRest s (newsTaken n active s) ∧ LineGrows s (newsTaken n active s) := by
  have started := StartQuiet.startCommands (holderQuiet n active (memberNews n s))
  have told : LineGrows (memberNews n s) (holderQuiet n active (memberNews n s)) :=
    lineGrows_of_frame (by simp) (by simp)
  exact ⟨((memberNews_rest n s).trans (.of_eq (by simp))).trans (.of_eq started.recs),
    ((memberNews_lineGrows n s).trans told).trans started.line⟩

@[simp] theorem newsTaken_frame (n : Nat) (active : Bool) (s : State) :
    (newsTaken n active s).alarm = s.alarm ∧ (newsTaken n active s).line.alarmQ = s.line.alarmQ ∧
      (newsTaken n active s).recs.capture = s.recs.capture ∧
      (newsTaken n active s).recs.scansLeft = s.recs.scansLeft ∧
      (newsTaken n active s).recs.captureKind = s.recs.captureKind ∧ (newsTaken n active s).cfg = s.cfg ∧
      (newsTaken n active s).loader = s.loader ∧ (newsTaken n active s).peers.records = s.peers.records ∧
      (newsTaken n active s).seq.digest = s.seq.digest := by
  unfold newsTaken memberNews
  split <;> simp

/-- Settles O16: the edge as the raise it is, and what follows it by `newsTaken_rest`. -/
theorem latchRiseOfAMemberIsAnEdge : Obligations.LatchRiseOfAMemberIsAnEdge := by
  refine ⟨fun n r s hears hlen hmember hrise => ?_, fun n r s hears hlen hcalm => ?_⟩
  · obtain ⟨-, hlo, hhi, -⟩ := id hears
    obtain ⟨hrecs, hline, hlatch, hrecords, -⟩ := recordRefilled_rest n r s
    rw [edgeRaised_of_edge hmember hrise] at hrecs hline hlatch hrecords
    obtain ⟨hrest, hgrows⟩ := newsTaken_rest n (r.flags.getLsbD 3) (recordRefilled n r s)
    have hgrows := hgrows.of_same_line hline
    refine ⟨newsTaken n (r.flags.getLsbD 3) (recordRefilled n r s), exec_statusReceived hears, ?_,
      hgrows.events 5 (raiseOwn_event _ _ _ _), ?_, ?_, fun hhold => ?_, fun hnote => ?_, fun hroom => ?_⟩
    · simp [hlatch]
    · have hunsent : sendsTelegram (ownRaise .peerAction n r.latch s) s = false := by simp [sendsTelegram, ownRaise]
      have hqueue : (raiseOwn .peerAction n r.latch s).line.alarmQ = _ :=
        raiseAlarm_alarmQ (ownRaise .peerAction n r.latch s) s
      rw [hunsent, if_neg (by simp)] at hqueue
      simpa [hline] using hqueue
    · rw [peerAt_of_records (s := recordRefilled n r s) (by simp), recordRefilled_peerAt hlo (by omega), if_pos rfl]
      rfl
    · exact raiseOwn_captures hhold ((RecsRest.of_eq hrecs).trans hrest) hgrows (by simp [hrecs])
    · have hnote : (raiseOwn .peerAction n r.latch s).recs = s.recs :=
        raiseAlarm_recs_of_note (r := ownRaise .peerAction n r.latch s) hnote fun hnone => by
          have hnone : r.latch = .none := hnone
          rw [hnone] at hrise
          exact absurd hrise (Nat.not_lt_zero _)
      simp [hrecs, hnote]
    · have hlisted : Listed .peerAction n s (raiseOwn .peerAction n r.latch s) := raiseOwn_lists hroom
      simpa [Listed, hrecords] using hlisted
  · obtain ⟨-, hlo, hhi, -⟩ := id hears
    obtain ⟨-, hline, hlatch, hrecords, -⟩ := recordRefilled_rest n r s
    rw [edgeRaised_of_none hcalm] at hline hlatch hrecords
    refine ⟨newsTaken n (r.flags.getLsbD 3) (recordRefilled n r s), exec_statusReceived hears, by simp [hlatch],
      by simp [hrecords], by simp [hline], ?_⟩
    rw [peerAt_of_records (s := recordRefilled n r s) (by simp), recordRefilled_peerAt hlo (by omega), if_pos rfl]
    rfl

/-! ### A STATUS that brings no edge (R20, R26, R27, R42, R109) -/

theorem newsTaken_peers {n : Nat} {active : Bool} {s : State} (hmember : isMember n s = true) :
    (newsTaken n active s).peers = (updatePeerFlags s).peers := by
  simp [newsTaken, memberNews, hmember]

/-- A STATUS without an edge leaves everything but peer table and causes to the news. -/
theorem recordRefilled_calm {n : Nat} {r : StatusReport} {s : State}
    (hcalm : isMember n s = false ∨ latchCode r.latch ≤ latchCode (peerAt n s).lastSeen) :
    (recordRefilled n r s).seq = s.seq ∧ (recordRefilled n r s).scan = s.scan ∧
      (recordRefilled n r s).line = s.line ∧ (recordRefilled n r s).cmd = s.cmd := by
  obtain ⟨-, hline, -, -, hseq, hscan, hcmd⟩ := recordRefilled_rest n r s
  rw [edgeRaised_of_none hcalm] at hline hseq hscan hcmd
  exact ⟨hseq, hscan, hline, hcmd⟩

@[simp] theorem memberNews_still (n : Nat) (s : State) :
    (memberNews n s).cmd = s.cmd ∧ (memberNews n s).scan = s.scan ∧ (memberNews n s).cfg = s.cfg ∧
      (memberNews n s).line.shuntSlot = s.line.shuntSlot := by
  unfold memberNews
  split <;> simp

/-- No command starts behind a STATUS without an edge (R165). -/
theorem newsTaken_of_calm {n : Nat} {r : StatusReport} {active : Bool} {s : State}
    (hcalm : isMember n s = false ∨ latchCode r.latch ≤ latchCode (peerAt n s).lastSeen) (hflow : CommandsFlow s) :
    newsTaken n active (recordRefilled n r s) = holderQuiet n active (memberNews n (recordRefilled n r s)) := by
  obtain ⟨-, -, -, hcmd⟩ := recordRefilled_calm hcalm
  exact startCommands_of_flow hflow (by simpa using hcmd)

/-- Settles O15: the record by `recordRefilled_peerAt`, the sequencer by `askGate_asks`, the claim holder by
`holderReleased_released`. -/
theorem statusFillsThePeerRecord : Obligations.StatusFillsThePeerRecord := by
  intro n r s hears hlen
  obtain ⟨-, hlo, hhi, -⟩ := id hears
  have hpeer (m : Nat) : peerAt m (newsTaken n (r.flags.getLsbD 3) (recordRefilled n r s)) =
      if m = n then reportedRecord r s else peerAt m s := by
    rw [peerAt_of_records (s := recordRefilled n r s) (by simp), recordRefilled_peerAt hlo (by omega)]
  refine ⟨newsTaken n (r.flags.getLsbD 3) (recordRefilled n r s), exec_statusReceived hears,
    by rw [hpeer, if_pos rfl]; rfl, fun m hm => by rw [hpeer, if_neg hm], ?_, fun hmember => ?_,
    fun hcalm hflow => ?_⟩
  · rw [(newsTaken_frame _ _ _).1, recordRefilled_lost hlo (by omega)]
  · have hmember : isMember n (recordRefilled n r s) = true := by simpa [isMember] using hmember
    have hsame (m : Nat) : peerAt m (newsTaken n (r.flags.getLsbD 3) (recordRefilled n r s)) =
        peerAt m (recordRefilled n r s) := peerAt_of_records (by simp)
    have hown : ownStation (recordRefilled n r s) = ownStation s := by simp [ownStation]
    have hset (m : Nat) : isMember m (recordRefilled n r s) = isMember m s := by simp [isMember]
    simp only [newsTaken_peers hmember, updatePeerFlags_memberAbsent, updatePeerFlags_digestMismatch,
      someMemberAbsent_iff, digestAnswer_not_iff, hsame, hown, hset, newsTaken_frame, and_self]
  · obtain ⟨hseq, hscan, hline, -⟩ := recordRefilled_calm hcalm
    rw [newsTaken_of_calm hcalm hflow]
    refine ⟨fun hmember hrun hdone c g hchoice hg => ?_, fun hrest => ?_, fun h hholder hn hactive => ?_,
      fun hquiet => ?_⟩
    · have hnews : memberNews n (recordRefilled n r s) = askGate (updatePeerFlags (recordRefilled n r s)) :=
        if_pos (by simpa [isMember] using hmember)
      have hasks := askGate_asks (s := updatePeerFlags (recordRefilled n r s)) (c := c) (g := g)
        (by simpa [hseq] using hrun) (by simpa [hseq] using hdone) (by simpa [hseq] using hchoice)
        (by simpa [hseq] using hg)
      rw [hnews]
      exact (hasks.of_base (by simp [hseq]) (by simp) (by simp)).of_after (by simp) (by simp) (by simp) (by simp)
    · have hnews : (memberNews n (recordRefilled n r s)).seq = s.seq := by
        unfold memberNews
        split
        · rename_i hmember
          have hmember : isMember n s = true := by simpa [isMember] using hmember
          have hnot := hrest.resolve_left (by simp [hmember])
          rw [askGate_of_not_done (by simpa [hseq] using hnot)]
          simpa using hseq
        · exact hseq
      simpa using hnews
    · have hholds : isHolder n (memberNews n (recordRefilled n r s)) = true :=
        isHolder_iff.mpr ⟨h, by simpa [hscan] using hholder, hn⟩
      rw [holderQuiet, if_pos ⟨hholds, hactive⟩]
      exact (holderReleased_released _).of_base (by simp [hscan]) (by simp [hline]) (by simp)
    · have hnot : ¬ (isHolder n (memberNews n (recordRefilled n r s)) = true ∧ r.flags.getLsbD 3 = false) := by
        rintro ⟨hholds, hactive⟩
        obtain ⟨h, hholder, hn⟩ := isHolder_iff.mp hholds
        rcases hquiet with hset | hnone
        · rw [hset] at hactive; cases hactive
        · exact hnone h (by simpa [hscan] using hholder) hn
      rw [holderQuiet, if_neg hnot]
      simp [hscan, hline]

end Sys2Proof.Machine

/-! The charge list and the claim holder (O19, O20), a latch that rises with what it hands on, and with it the alarms of
the trip count, the dwell timers and the mismatch timer (O25 to O27) and the console's HOLD and UNLOAD (O44). -/
namespace Sys2Proof.Machine

open Sys2Proof

-- One proof after the other: the threads of the check, which compiles the whole text at once, share one memory limit.
set_option Elab.async false

/-! ### Timers that are due -/

theorem whenRunning_of_running {f : State → State} {s : State} (h : s.loader.phase = .running) :
    whenRunning f s = f s :=
  if_pos (decide_eq_true h)

theorem timerEvent_of_due {due : Option Nat} {t : Nat} {f : State → State} {s : State}
    (hphase : s.loader.phase = .running) (hdue : due = some t) (ht : t ≤ s.age) : timerEvent due f s = f s := by
  rw [timerEvent, whenRunning_of_running hphase, hdue, onExpiry, advanceTo_of_le ht]

/-! ### The charge list (R88, R89) -/

theorem exec_windowTimerExpiry {s : State} {e : ChargeEntry} {rest : List ChargeEntry}
    (hphase : s.loader.phase = .running) (hlist : s.act.chargeList = e :: rest)
    (hdue : e.age + 10 * s.cfg.wPump ≤ s.age) : exec .windowTimerExpiry s = .next (judgeWait s) :=
  congrArg Host.Outcome.next
    (timerEvent_of_due (t := e.age + 10 * s.cfg.wPump) hphase (by simp [windowDue, hlist, ms, Config.perMs]) hdue)

theorem ownCharge_eq_false_iff {s : State} : ownCharge s = false ↔ NoOwnCharge s := by
  simp [ownCharge, NoOwnCharge]

theorem judgeWait_of_room {s : State} {p : ChargePurpose} (hstate : s.act.state = .waitWindow) (hnone : NoOwnCharge s)
    (hpurpose : s.act.purpose = some p) (hslot : s.line.chargeSlot = none) (hfew : (inWindow s).length < 4) :
    judgeWait s = { s with act.chargeList := inWindow s, line.chargeSlot := some p, act.ownPlaced := some true } := by
  rw [judgeWait, consultList_eq]
  refine (if_pos ⟨hstate, ownCharge_eq_false_iff.mpr hnone, hfew⟩).trans ?_
  simp [placeCharge, hpurpose, hslot]

theorem judgeWait_of_rest {s : State} (h : s.act.state ≠ .waitWindow ∨ ¬ NoOwnCharge s ∨ 4 ≤ (inWindow s).length) :
    judgeWait s = { s with act.chargeList := inWindow s } := by
  rw [judgeWait, consultList_eq]
  refine if_neg fun ⟨hstate, hown, hfew⟩ => ?_
  rcases h with h | h | h
  · exact h hstate
  · exact h (ownCharge_eq_false_iff.mp hown)
  · exact absurd hfew (Nat.not_lt.mpr h)

/-- Settles O19: the appending, and the judgement of the wait where the window timer has emptied the list. -/
theorem chargeListHoldsTheWindow : Obligations.ChargeListHoldsTheWindow := by
  refine ⟨fun n purpose s hears => congrArg Host.Outcome.next ((fromPeer_of_hears hears).trans rfl),
    fun s e rest p hphase hlist hdue hstate hnone hpurpose hslot hfew => ?_, fun s e rest hphase hlist hdue hrest => ?_⟩
  · rw [exec_windowTimerExpiry hphase hlist hdue, judgeWait_of_room hstate hnone hpurpose hslot hfew]
  · rw [exec_windowTimerExpiry hphase hlist hdue, judgeWait_of_rest hrest]

/-! ### The claim holder (R108, R111) -/

theorem exec_shuntClaimHeard {n group : Nat} {s : State} (h : Hears n s) :
    exec (.shuntClaimHeard n group) s = .next (if ownGroup group s then claimCompletes n s else s) :=
  congrArg Host.Outcome.next (fromPeer_of_hears h)

theorem exec_shuntDoneHeard {n group : Nat} {s : State} (h : Hears n s) :
    exec (.shuntDoneHeard n group) s = .next (if ownGroup group s then doneCompletes n s else s) :=
  congrArg Host.Outcome.next (fromPeer_of_hears h)

theorem doneCompletes_of_other {n : Nat} {s : State} (h : ∀ k, s.scan.holder = some k → k.station ≠ n) :
    doneCompletes n s = s :=
  if_neg fun hyes => by
    obtain ⟨k, hk, hn⟩ := isHolder_iff.mp hyes
    exact h k hk hn

theorem doneCompletes_of_holder {n : Nat} {h : Holder} {s : State} (hholder : s.scan.holder = some h)
    (hn : h.station = n) : doneCompletes n s = holderReleased s :=
  if_pos (isHolder_iff.mpr ⟨h, hholder, hn⟩)

theorem holderReleased_of_waiting {s : State} (hwait : s.scan.shunt = .waiting) (hslot : s.line.shuntSlot = none) :
    holderReleased s =
      { s with
        scan.holder := none
        scan.shunt := .claiming
        scan.claimHeld := false
        line.shuntSlot := some { isDone := false, group := s.cfg.excitation } } := by
  refine (if_pos (by exact hwait)).trans ?_
  rw [placeShuntClaim_of_empty (by exact hslot)]

/-- Settles O20: the table of R108 by the group of the telegram, the holder and the state of the scanner. -/
theorem claimHolderFollowsTheTelegrams : Obligations.ClaimHolderFollowsTheTelegrams := by
  refine ⟨fun n group s hears hother => ?_, fun n s hears hgroup hfree => ?_,
    fun n s h hears hgroup hholder => ⟨?_, fun hn => ?_, fun hn hwait => ?_, fun hn hwait hslot => ?_⟩⟩
  · have hno : ownGroup group s = false := by
      rcases hother with h | h <;> simp [ownGroup, h]
    rw [exec_shuntClaimHeard hears, exec_shuntDoneHeard hears, hno]
    exact ⟨rfl, rfl⟩
  · rw [exec_shuntClaimHeard hears, exec_shuntDoneHeard hears, ownGroup_excitation hgroup, if_pos rfl, if_pos rfl,
      doneCompletes_of_other (by simp [hfree])]
    simp [claimCompletes, hfree]
  · rw [exec_shuntClaimHeard hears, ownGroup_excitation hgroup, if_pos rfl]
    simp [claimCompletes, hholder]
  · rw [exec_shuntDoneHeard hears, ownGroup_excitation hgroup, if_pos rfl,
      doneCompletes_of_other (by simp [hholder, hn])]
  · rw [exec_shuntDoneHeard hears, ownGroup_excitation hgroup, if_pos rfl, doneCompletes_of_holder hholder hn]
    exact congrArg Host.Outcome.next (if_neg (by exact hwait))
  · rw [exec_shuntDoneHeard hears, ownGroup_excitation hgroup, if_pos rfl, doneCompletes_of_holder hholder hn,
      holderReleased_of_waiting hwait hslot]

/-! ### A rise of the latch (R134, R135) -/

theorem raiseAlarm_of_risen {r : Raise} {s : State} (h : latchCode s.alarm.latch < latchCode r.action) :
    raiseAlarm r s = handLatch r.action (raiseRecorded r s) := by
  have hmax : latchMax s.alarm.latch r.action = r.action := if_pos h
  have hnew : r.action ≠ s.alarm.latch := fun heq => by rw [heq] at h; exact lt_irrefl _ h
  rw [raiseAlarm_eq, hmax, if_neg hnew]

/-- A NOTE goes to the list and to no unit (R134, R135). -/
theorem raiseAlarm_of_note {r : Raise} {s : State} (h : r.action = .note) : raiseAlarm r s = raiseRecorded r s := by
  rw [raiseAlarm_eq, h]
  cases s.alarm.latch with
  | none => exact (if_neg nofun).trans (handLatch_note _)
  | _ => exact if_pos rfl

/-- The sequencer as a trip leaves it (R49). -/
def idleOf (q : Sequencer) : Sequencer :=
  { q with
    state := .idle, phase := none, step := 0, segment := 0, work := none, counters := List.replicate 32 0
    hold := .stopped, extension := .stopped, extensionUsed := false, mismatch := none, choice := none }

/-- The sequencer as an entry into UNLOADING leaves it (R47). -/
def unloadingOf (q : Sequencer) : Sequencer :=
  { q with
    state := .unloading, phase := none, hold := .stopped, extension := .stopped, mismatch := none, choice := none }

theorem enterUnloading_seq (s : State) : (enterUnloading s).seq = unloadingOf s.seq := by
  simp [enterUnloading, unloadingOf]

/-- What a trip leaves of the sequencer, the servo, the actuator and its lines (R49, R57, R86). -/
structure Trips (s t : State) : Prop where
  seq : t.seq = idleOf s.seq
  servo : t.servo = { s.servo with clearOrder := true }
  state : t.act.state = .tripped
  lines : valveLines t = (false, true, false)
  drive : t.pins.drive = 0
  event : HasEvent 10 t
  settled : inDwell s = true → t.scan.settled = false ∧ t.scan.settleTimer = none

/-- The station as a trip has set the actuator, its command ended and TRIP told; the sequencer is told last (R86). -/
def unitTripped (reason : Reason) (s : State) : State :=
  setEvent .trip (endActuatorCommand .refused reason
    { setActuator .tripped false true false s with
      act.purpose := none
      act.chargeTimer := none
      act.lockTimer := none
      act.deadline := none
      act.acquisition := none
      act.releasing := false
      act.lockCheck := none
      act.ownPlaced := s.act.ownPlaced.map (fun _ => false)
      act.ownHeld := false
      act.state := .tripped })

theorem enterTripped_eq (reason : Reason) (s : State) : enterTripped reason s = tripIdle (unitTripped reason s) := rfl

theorem enterTripped_trips (reason : Reason) (s : State) : Trips s (enterTripped reason s) where
  seq := by simp [enterTripped, tripIdle, idleOf, setActuator]
  servo := by simp [enterTripped, tripIdle, setActuator]
  state := by simp
  lines := by simp [valveLines]
  drive := by simp
  event := (tripIdle_lineGrows _).events _ (hasEvent_setEvent .trip _)
  settled h := by
    obtain ⟨-, hsettled, htimer, -⟩ := enterTripped_of_dwell (reason := reason) h
    exact ⟨hsettled, htimer⟩

/-- The scanner, which ends an own shunt at DUMP, changes nothing that the trip has left (R115). -/
theorem Trips.scannerOnLatch {s t : State} (h : Trips s t) (new : Latch) : Trips s (scannerOnLatch new t) where
  seq := by simpa using h.seq
  servo := by simpa using h.servo
  state := by simpa using h.state
  lines := by simpa [valveLines] using h.lines
  drive := by simpa using h.drive
  event := (scannerOnLatch_lineGrows new t).events _ h.event
  settled hd := by simpa using h.settled hd

/-- A DUMP trips every state but LOCKED and TRIPPED (R84). -/
theorem handLatch_dump_trips {s : State} (hlocked : s.act.state ≠ .locked) (htripped : s.act.state ≠ .tripped) :
    Trips s (handLatch .dump s) := by
  rw [handLatch, actuatorOnLatch_dump hlocked htripped, sequencerOnLatch_of_rest (.inl (by simp))]
  exact (enterTripped_trips .action s).scannerOnLatch .dump

/-- Another start of the same sequencer, servo and scanner. -/
theorem Trips.of_base {s s' t : State} (h : Trips s' t) (hseq : s'.seq = s.seq) (hservo : s'.servo = s.servo) :
    Trips s t where
  seq := by rw [h.seq, hseq]
  servo := by rw [h.servo, hservo]
  state := h.state
  lines := h.lines
  drive := h.drive
  event := h.event
  settled hd := h.settled (by rwa [inDwell, hseq])

/-- A raise of DUMP from a latch below it trips the station (R84, R134). -/
theorem raiseOwn_dump_trips {kind : AlarmKind} {channel : Nat} {s : State} (hlatch : s.alarm.latch ≠ .dump)
    (hlocked : s.act.state ≠ .locked) (htripped : s.act.state ≠ .tripped) :
    Trips s (raiseOwn kind channel .dump s) := by
  have risen : latchCode s.alarm.latch < latchCode .dump := by
    revert hlatch
    cases s.alarm.latch <;> decide
  rw [raiseOwn, raiseAlarm_of_risen (r := ownRaise kind channel .dump s) risen]
  exact (handLatch_dump_trips (by simpa using hlocked) (by simpa using htripped)).of_base (by simp) (by simp)

/-! ### The trip count, the reacquire timer and the mismatch timer -/

theorem exec_tripCountReached {s : State} (hphase : s.loader.phase = .running)
    (hstate : s.act.state = .live ∧ s.servo.reacquire = none ∨ s.act.state = .locking)
    (hcount : 0 < s.servo.tripCount) :
    exec .tripCountReached s = .next (startCommands (tripCountReached s)) := by
  have kept : tripCountKept s = true := by
    rcases hstate with ⟨h, hr⟩ | h
    · simp [tripCountKept, bandsChecked, h, hr, hcount]
    · simp [tripCountKept, h, hcount]
  exact congrArg (fun u => Host.Outcome.next (startCommands u))
    ((whenRunning_of_running hphase).trans (if_pos kept))

/-- Settles O25: the trip of `raiseOwn_dump_trips`, the timer stopped, and the raise of HOLD in RUN. -/
theorem tripReacquireAndMismatchExpire : Obligations.TripReacquireAndMismatchExpire := by
  refine ⟨fun s hphase hstate hcount _ hlatch => ?_, fun s due hphase hdue hage => ?_,
    fun s due hphase hdue hage hrun hdone hbelow => ?_⟩
  · have hlocked : s.act.state ≠ .locked ∧ s.act.state ≠ .tripped := by
      rcases hstate with ⟨h, -⟩ | h <;> simp [h]
    have trips : Trips { s with servo.tripCount := 0 } (tripCountReached s) :=
      raiseOwn_dump_trips (by exact hlatch) (by exact hlocked.1) (by exact hlocked.2)
    have latched : (tripCountReached s).alarm.latch = latchMax s.alarm.latch .dump := by simp [tripCountReached]
    refine ⟨tripCountReached s, exec_tripCountReached hphase hstate hcount, by rw [trips.servo], ?_, trips.state,
      trips.lines, trips.drive, by rw [trips.seq]; rfl, by rw [trips.seq]; rfl, by rw [trips.seq]; rfl,
      by rw [trips.servo], by rw [trips.servo], trips.event, raiseOwn_event .trackingLoss 0 .dump _, fun room => ?_⟩
    · rw [latched]
      cases s.alarm.latch <;> rfl
    · exact raiseOwn_lists (s := { s with servo.tripCount := 0 }) room
  · exact congrArg Host.Outcome.next (timerEvent_of_due hphase hdue hage)
  · obtain ⟨-, -, -, held⟩ := raiseOwn_hold_still .programMismatch 0 { s with seq.mismatch := none }
    refine ⟨mismatchExpires s, congrArg Host.Outcome.next (timerEvent_of_due hphase hdue hage), ?_, ?_, ?_,
      raiseOwn_event .programMismatch 0 .hold _, fun room => ?_⟩
    · simpa [mismatchExpires] using latchMax_eq_right hbelow
    · exact held hrun hbelow
    · rw [mismatchExpires, raiseOwn_hold_of_below (by exact hbelow)]
      split <;> simp
    · exact raiseOwn_lists (s := { s with seq.mismatch := none }) room

/-! ### The dwell timers (R39, R40) -/

theorem inDwell_of_dwell {s : State} (hstate : s.seq.state = .run) (hphase : s.seq.phase = some .dwell) :
    inDwell s = true := by
  simp [inDwell, hstate, hphase]

theorem dwellExpiry_of_due {timer : HoldTimer} {due : Nat} {f : State → State} {s : State}
    (hrunning : s.loader.phase = .running) (hdwell : inDwell s = true) (htimer : timer = .running due)
    (hdue : due ≤ s.age) : dwellExpiry timer f s = f s :=
  (if_pos hdwell).trans (timerEvent_of_due hrunning (by rw [htimer]; rfl) hdue)

/-- The raise of NO_SETTLE by its action: a NOTE is followed by DONE, any other is handed on (R40). -/
theorem extensionExpired_of_note {s : State} (h : s.cfg.noSettleAction = .note) :
    extensionExpired s = becomeDone (noSettleRecorded s) := by
  have raised : raiseOwn .noSettle 0 s.cfg.noSettleAction { s with seq.extension := .stopped } = noSettleRecorded s :=
    raiseAlarm_of_note (r := ownRaise .noSettle 0 s.cfg.noSettleAction { s with seq.extension := .stopped }) h
  rw [extensionExpired, raised]
  exact if_pos h

theorem extensionExpired_of_risen {s : State} (hnote : s.cfg.noSettleAction ≠ .note)
    (h : latchCode s.alarm.latch < latchCode s.cfg.noSettleAction) :
    extensionExpired s = handLatch s.cfg.noSettleAction (noSettleRecorded s) :=
  (if_neg hnote).trans
    (raiseAlarm_of_risen (r := ownRaise .noSettle 0 s.cfg.noSettleAction { s with seq.extension := .stopped }) h)

theorem becomeDone_alarm (s : State) : (becomeDone s).alarm = s.alarm := by simp

theorem extensionExpired_listed {s : State} (room : RoomFor 1 s) : Listed .noSettle 0 s (extensionExpired s) := by
  obtain ⟨a, ha, hkey⟩ := raiseOwn_lists (kind := .noSettle) (channel := 0) (action := s.cfg.noSettleAction)
    (s := { s with seq.extension := .stopped }) room
  refine ⟨a, ?_, hkey⟩
  unfold extensionExpired
  dsimp only
  split
  · rwa [becomeDone_alarm]
  · exact ha

theorem extensionExpired_event (s : State) : HasEvent 5 (extensionExpired s) := by
  have raised := raiseOwn_event .noSettle 0 s.cfg.noSettleAction { s with seq.extension := .stopped }
  unfold extensionExpired
  dsimp only
  split
  · exact (becomeDone_lineGrows _).events _ raised
  · exact raised

/-- The expiry of an extension in DWELL under a latch that its action exceeds, a NOTE aside (R40): one case for each
action. -/
theorem extensionExpired_raises_of_risen {s : State} (hstate : s.seq.state = .run) (hphase : s.seq.phase = some .dwell)
    (hlive : s.cfg.noSettleAction = .unload ∨ s.cfg.noSettleAction = .dump → s.act.state = .live)
    (haction : s.cfg.noSettleAction ≠ .none)
    (hrisen : s.cfg.noSettleAction = .note ∨ latchCode s.alarm.latch < latchCode s.cfg.noSettleAction) :
    NoSettleRaised { s.seq with extension := .stopped } s (extensionExpired s) := by
  have dwell : inDwell (noSettleRecorded s) = true := by simp [inDwell, hstate, hphase]
  have running : (noSettleRecorded s).seq.state = .run := by simpa using hstate
  refine ⟨extensionExpired_event s, extensionExpired_listed, ?_⟩
  cases h : s.cfg.noSettleAction with
  | none => exact absurd h haction
  | note =>
    have done := (becomeDone_reaches running).of_base (s' := s) (by simp) (by simp)
    rw [extensionExpired_of_note h]
    refine ⟨by simp, by simp, fun _ => ⟨?_, by simp⟩, nofun, nofun, nofun⟩
    simpa using done
  | hold =>
    obtain ⟨hseq, hsettled, htimer⟩ := enterHeld_of_dwell dwell
    rw [extensionExpired_of_risen (by simp [h]) (hrisen.resolve_left (by simp [h])), h, handLatch_hold, if_pos running]
    refine ⟨hsettled, htimer, nofun, fun _ => ⟨by simp, ?_⟩, nofun, nofun⟩
    simp [hseq, heldOf, stoppedWithRest]
  | unload =>
    obtain ⟨hseq, hsettled, htimer⟩ := enterUnloading_of_dwell dwell
    have live : (noSettleRecorded s).act.state = .live := by simpa using hlive (.inl h)
    rw [extensionExpired_of_risen (by simp [h]) (hrisen.resolve_left (by simp [h])), h,
      handLatch_unload_of_live running live]
    refine ⟨hsettled, htimer, nofun, nofun, fun _ => ⟨by simp, ?_⟩, nofun⟩
    simp [hseq]
  | dump =>
    have hact := hlive (.inr h)
    have trips := handLatch_dump_trips (s := noSettleRecorded s) (by simp [hact]) (by simp [hact])
    obtain ⟨hsettled, htimer⟩ := trips.settled dwell
    rw [extensionExpired_of_risen (by simp [h]) (hrisen.resolve_left (by simp [h])), h]
    refine ⟨hsettled, htimer, nofun, nofun, nofun, fun _ => ⟨trips.state, trips.lines, trips.drive, trips.event,
      by rw [trips.servo], ?_⟩⟩
    rw [trips.seq]
    simp [idleOf]

theorem exec_holdTimerExpiry {due : Nat} {s : State} (hrunning : s.loader.phase = .running)
    (hstate : s.seq.state = .run) (hphase : s.seq.phase = some .dwell) (hhold : s.seq.hold = .running due)
    (hdue : due ≤ s.age) : exec .holdTimerExpiry s = .next (startCommands (judgeSettle s)) :=
  congrArg (fun u => Host.Outcome.next (startCommands u))
    (dwellExpiry_of_due hrunning (inDwell_of_dwell hstate hphase) hhold hdue)

theorem judgeSettle_of_unsettled {s : State} {w : WorkingCopy} (hwork : s.seq.work = some w) (hw : w.settle = true)
    (hsettled : s.scan.settled = false) :
    judgeSettle s = startExtension (1000 * w.extension) { s with seq.hold := .stopped, seq.extensionUsed := true } := by
  have steps : ms (100 * w.extension) = 1000 * w.extension := by
    rw [ms, Config.perMs]; omega
  simp [judgeSettle, settleRequired, extensionTime, hwork, hw, hsettled, steps]

theorem judgeSettle_of_met {s : State} {w : WorkingCopy} (hwork : s.seq.work = some w)
    (hmet : w.settle = false ∨ s.scan.settled = true) :
    judgeSettle s = becomeDone { s with seq.hold := .stopped } := by
  rcases hmet with h | h <;> simp [judgeSettle, settleRequired, hwork, h]

/-- Settles O26: the extension begun, NO_SETTLE with no extension time, and DONE. -/
theorem holdExpiryJudgesSettle : Obligations.HoldExpiryJudgesSettle := by
  refine ⟨fun s due w hrunning hstate hphase hhold hdue hwork hw hsettled => ?_,
    fun s due w hrunning hstate hphase hhold hdue hwork hmet => ?_⟩
  · rw [exec_holdTimerExpiry hrunning hstate hphase hhold hdue, judgeSettle_of_unsettled hwork hw hsettled]
    refine ⟨fun htime => ?_, fun hzero haction hlive hrisen => ?_⟩
    · rw [startExtension, if_neg (by omega)]
    · rw [hzero, startExtension_of_zero]
      refine ⟨_, rfl, by simp, ?_⟩
      exact (extensionExpired_raises_of_risen (s := { s with seq.hold := .stopped, seq.extensionUsed := true })
        hstate hphase hlive haction hrisen).of_base rfl rfl rfl rfl rfl le_rfl
  · rw [exec_holdTimerExpiry hrunning hstate hphase hhold hdue, judgeSettle_of_met hwork hmet]
    exact ⟨_, rfl, (becomeDone_reaches (s := { s with seq.hold := .stopped }) hstate).of_base rfl rfl, by simp,
      by simp, by simp⟩

/-- Settles O27: each action's raise at the end of an extension. -/
theorem extensionExpiryRaisesNoSettle : Obligations.ExtensionExpiryRaisesNoSettle := by
  intro s due hrunning hstate hphase hextension hdue haction hlive hrisen
  have expired := dwellExpiry_of_due (f := extensionExpired) hrunning (inDwell_of_dwell hstate hphase) hextension hdue
  exact ⟨extensionExpired s, congrArg (fun u => Host.Outcome.next (startCommands u)) expired, by simp,
    extensionExpired_raises_of_risen hstate hphase hlive haction hrisen⟩

/-! ### HOLD and UNLOAD (R142) -/

theorem exec_hold {head : CommandHead} {s : State} (h : Taken head 0 s) :
    exec (.hold head) s = .next (consoleLatch .hold (replied head 0x43 .done .none [] s)) :=
  congrArg _ (takeCommand_of_taken h rfl)

theorem exec_unload {head : CommandHead} {s : State} (h : Taken head 0 s) :
    exec (.unload head) s = .next (consoleLatch .unload (replied head 0x45 .done .none [] s)) :=
  congrArg _ (takeCommand_of_taken h rfl)

theorem consoleLatch_of_latched {action : Latch} {s : State} (h : latchAtLeast s.alarm.latch action = true) :
    consoleLatch action s = s :=
  if_pos (latchMax_eq_left h)

theorem consoleLatch_of_below {action : Latch} {s : State} (h : latchAtLeast s.alarm.latch action = false) :
    consoleLatch action s = handLatch action { s with alarm.latch := action } := by
  have hmax := latchMax_eq_right h
  have hnew : action ≠ s.alarm.latch := fun heq => by simp [← heq, latchAtLeast] at h
  rw [consoleLatch, hmax]
  exact if_neg hnew

/-- The reported phase stays through an entry into HELD from RUN, so that no block is sealed (R35, R46, R152). -/
theorem enterHeld_of_run {s : State} (h : s.seq.state = .run) :
    enterHeld s = leaveDwellIf (inDwell s) { s with seq := heldOf s } := by
  have stopped (timer : HoldTimer) : pauseTimer s.age timer = stoppedWithRest s.age timer := by cases timer <;> rfl
  rw [enterHeld, stopped, stopped, setSequencer, if_pos ⟨by simp [reportedPhase, h], rfl⟩]
  rfl

/-- A seal tells BLOCK_SEALED and no other event (R151). -/
theorem sealBlock_events {cause : SealCause} {kind : Option AlarmKind} {s : State} {bit : Nat} (h : bit ≠ 0) :
    (sealBlock cause kind s).line.events.getLsbD bit = s.line.events.getLsbD bit := by
  have sealed : (eventBit .blockSealed).getLsbD bit = false := by
    have : eventBit .blockSealed = 1#16 := rfl
    rw [this, BitVec.getLsbD_one]
    simp [h]
  unfold sealBlock
  split
  · rfl
  · simp [setEvent_events, sealed]

theorem setSequencer_events {q : Sequencer} {s : State} {bit : Nat} (h : bit ≠ 0) :
    (setSequencer q s).line.events.getLsbD bit = s.line.events.getLsbD bit := by
  unfold setSequencer
  split
  · rfl
  · exact sealBlock_events h

theorem enterUnloading_events {s : State} {bit : Nat} (h : bit ≠ 0) :
    (enterUnloading s).line.events.getLsbD bit = s.line.events.getLsbD bit := by
  simp only [enterUnloading, leaveDwellIf_frame]
  exact setSequencer_events h

/-- UNLOAD reaches the sequencer only (R47, R84). -/
theorem handLatch_unload (s : State) :
    handLatch .unload s =
      if s.act.state = .live ∧ (s.seq.state = .run ∨ s.seq.state = .held ∨ s.seq.state = .ended) then enterUnloading s
      else if s.seq.state = .run then enterHeld s else s := by
  rw [handLatch, actuatorOnLatch_of_below (new := .unload) (by decide), scannerOnLatch_of_below (by decide),
    sequencerOnLatch]
  cases hstate : s.seq.state <;> by_cases hlive : s.act.state = .live <;> simp [hlive, latchAtLeast, latchCode]

theorem handLatch_unload_seq (s : State) :
    (handLatch .unload s).seq =
      if s.act.state = .live ∧ (s.seq.state = .run ∨ s.seq.state = .held ∨ s.seq.state = .ended) then unloadingOf s.seq
      else if s.seq.state = .run then heldOf s else s.seq := by
  rw [handLatch_unload]
  split
  · exact enterUnloading_seq s
  · split
    · exact enterHeld_seq s
    · rfl

theorem handLatch_unload_still (s : State) :
    (handLatch .unload s).act = s.act ∧ (handLatch .unload s).servo = s.servo ∧
      (handLatch .unload s).line.events.getLsbD 5 = s.line.events.getLsbD 5 := by
  rw [handLatch_unload]
  split
  · exact ⟨by simp, by simp, enterUnloading_events (by decide)⟩
  · split
    · rename_i hrun
      rw [enterHeld_of_run hrun]
      simp
    · exact ⟨rfl, rfl, rfl⟩

/-- Settles O44: the latch that stands already, and the responses of `handLatch_hold` and `handLatch_unload`. -/
theorem consoleRaisesTheLatch : Obligations.ConsoleRaisesTheLatch := by
  refine ⟨fun head s taken hlatch => ?_, fun head s taken hlatch => ?_, fun head s taken hbelow => ?_,
    fun head s taken hbelow => ?_⟩
  · rw [exec_hold taken, consoleLatch_of_latched (by exact hlatch)]
  · rw [exec_unload taken, consoleLatch_of_latched (by exact hlatch)]
  · rw [exec_hold taken, consoleLatch_of_below (by exact hbelow), handLatch_hold]
    by_cases hrun : s.seq.state = .run
    · rw [if_pos (by exact hrun), enterHeld_of_run (by exact hrun)]
      refine ⟨_, rfl, by simp [replied], fun _ => ⟨by simp [replied, heldOf], ?_⟩, fun hn => absurd hrun hn,
        by simp [replied], by simp [replied], by simp [replied], by simp [replied], by simp [replied], [],
        by simp [replied]⟩
      by_cases hd : s.seq.phase = some .dwell <;> simp [leaveDwellIf, inDwell, replied, hrun, hd, dwellLeft]
    · rw [if_neg (by exact hrun)]
      exact ⟨_, rfl, rfl, fun h => absurd h hrun, fun _ => rfl, rfl, rfl, rfl, rfl, rfl, [], by simp [replied]⟩
  · rw [exec_unload taken, consoleLatch_of_below (by exact hbelow)]
    obtain ⟨hact, hservo, hevents⟩ := handLatch_unload_still
      { replied head 0x45 .done .none [] s with alarm.latch := .unload }
    obtain ⟨more, hmore⟩ := (handLatch_lineGrows .unload
      { replied head 0x45 .done .none [] s with alarm.latch := .unload }).replies
    refine ⟨_, rfl, by simp [replied], handLatch_unload_seq _, by simp [replied], hact, hservo, by simp [replied],
      hevents, more, ?_⟩
    rw [← hmore]
    simp [replied]

end Sys2Proof.Machine

/-! ESTOP, and the shunt that a DUMP ends (O29). -/
namespace Sys2Proof.Machine

open Sys2Proof

-- One proof after the other: the threads of the check, which compiles the whole text at once, share one memory limit.
set_option Elab.async false

/-! ### What leaves the telegram on offer and, with no request waiting, the replies (R13, R158) -/

/-- From `s` to `t` the telegram on offer stays, and with no request waiting no reply is placed. -/
structure Unanswered (s t : State) : Prop where
  tx : t.line.tx = s.line.tx
  fetchQ : s.recs.fetchQ = [] → t.recs.fetchQ = []
  replies : s.recs.fetchQ = [] → t.line.replyQ = s.line.replyQ ∧ t.line.heldReplies = s.line.heldReplies

namespace Unanswered

variable {s t u : State}

theorem refl (s : State) : Unanswered s s := ⟨rfl, id, fun _ => ⟨rfl, rfl⟩⟩

theorem of_frame (htx : t.line.tx = s.line.tx) (hfetch : t.recs.fetchQ = s.recs.fetchQ)
    (hreply : t.line.replyQ = s.line.replyQ) (hheld : t.line.heldReplies = s.line.heldReplies) : Unanswered s t :=
  ⟨htx, fun h => hfetch.trans h, fun _ => ⟨hreply, hheld⟩⟩

theorem trans (h : Unanswered s t) (k : Unanswered t u) : Unanswered s u where
  tx := k.tx.trans h.tx
  fetchQ hnone := k.fetchQ (h.fetchQ hnone)
  replies hnone := by
    obtain ⟨hreply, hheld⟩ := h.replies hnone
    obtain ⟨kreply, kheld⟩ := k.replies (h.fetchQ hnone)
    exact ⟨kreply.trans hreply, kheld.trans hheld⟩

theorem ite {p : Prop} [Decidable p] (h : Unanswered s t) : Unanswered s (if p then t else s) := by
  split
  · exact h
  · exact .refl s

theorem sealBlock (cause : SealCause) (kind : Option AlarmKind) (s : State) :
    Unanswered s (sealBlock cause kind s) where
  tx := by simp
  fetchQ hnone := by
    unfold Machine.sealBlock
    split
    · exact hnone
    · dsimp only
      rw [serveFetch_of_idle (.inr (.inr (by simpa using hnone)))]
      simpa using hnone
  replies := sealBlock_replies

theorem setSequencer (q : Sequencer) (s : State) : Unanswered s (setSequencer q s) := by
  unfold Machine.setSequencer
  split
  · exact of_frame rfl rfl rfl rfl
  · exact (of_frame rfl rfl rfl rfl : Unanswered s { s with seq := q }).trans (sealBlock .phase none _)

theorem leaveDwellIf (was : Bool) (s : State) : Unanswered s (leaveDwellIf was s) :=
  of_frame (by simp) (by simp) (by simp) (by simp)

theorem enterHeld (s : State) : Unanswered s (enterHeld s) :=
  (setSequencer _ s).trans (leaveDwellIf _ _)

theorem enterUnloading (s : State) : Unanswered s (enterUnloading s) :=
  (setSequencer _ s).trans (leaveDwellIf _ _)

theorem sequencerOnLatch (new : Latch) (s : State) : Unanswered s (sequencerOnLatch new s) := by
  unfold Machine.sequencerOnLatch
  dsimp only
  split
  case h_1 =>
    split
    · exact enterUnloading s
    · exact (enterHeld s).ite
  case h_4 => exact .refl s
  all_goals exact (enterUnloading s).ite

theorem cutAndCapture (kind : AlarmKind) (s : State) : Unanswered s (cutAndCapture kind s) := by
  have cut := sealBlock .alarm (some kind) s
  unfold Machine.cutAndCapture
  dsimp only
  split
  · exact cut.trans (of_frame rfl rfl rfl rfl)
  · exact cut

theorem raiseRecorded (r : Raise) (s : State) : Unanswered s (raiseRecorded r s) := by
  have noted : Unanswered s (raiseNoted r s) := by
    unfold raiseNoted
    dsimp only
    split <;> exact of_frame (by simp) (by simp) (by simp) (by simp)
  cases h : latchAtLeast r.action .hold with
  | true =>
    rw [raiseRecorded_of_hold s h]
    exact noted.trans (cutAndCapture _ _)
  | false =>
    rw [raiseRecorded_of_note s h]
    exact noted

theorem raiseOwn_hold (kind : AlarmKind) (channel : Nat) (s : State) :
    Unanswered s (raiseOwn kind channel .hold s) := by
  cases h : latchAtLeast s.alarm.latch .hold with
  | true =>
    rw [raiseOwn_hold_of_latched h]
    exact raiseRecorded _ s
  | false =>
    rw [raiseOwn_hold_of_below h]
    split
    · exact (raiseRecorded _ s).trans (enterHeld _)
    · exact raiseRecorded _ s

theorem enterState (st : ActState) (iso dump lockCmd : Bool) (s : State) :
    Unanswered s (enterState st iso dump lockCmd s) := by
  have set : Unanswered s (setActuator st iso dump lockCmd s) := of_frame rfl rfl rfl rfl
  unfold Machine.enterState sequencerOnActuator
  split
  · exact set.trans (enterUnloading _).ite
  · exact set.trans (enterHeld _).ite

end Unanswered

/-! ### Raises in the states that no trip leaves (R84) -/

theorem handLatch_of_safe {new : Latch} {s : State} (h : s.act.state = .locked ∨ s.act.state = .tripped) :
    handLatch new s = scannerOnLatch new (sequencerOnLatch new s) := by
  rw [handLatch, actuatorOnLatch_of_safe h]

theorem raiseAlarm_of_safe {r : Raise} {s : State} (h : s.act.state = .locked ∨ s.act.state = .tripped) :
    (raiseAlarm r s).act = s.act ∧ valveLines (raiseAlarm r s) = valveLines s ∧
      (raiseAlarm r s).pins.drive = s.pins.drive := by
  rw [raiseAlarm_eq]
  split
  · simp [valveLines]
  · rw [handLatch_of_safe (by simpa using h)]
    simp [valveLines]

theorem raiseOwn_of_safe {kind : AlarmKind} {channel : Nat} {action : Latch} {s : State}
    (h : s.act.state = .locked ∨ s.act.state = .tripped) :
    (raiseOwn kind channel action s).act = s.act ∧ valveLines (raiseOwn kind channel action s) = valveLines s ∧
      (raiseOwn kind channel action s).pins.drive = s.pins.drive :=
  raiseAlarm_of_safe (r := ownRaise kind channel action s) h

theorem endCommandOf_of_none {kind : QueuedKind} {result : ReplyResult} {reason : Reason} {s : State}
    (h : s.cmd.current = none) : endCommandOf kind result reason s = s := by
  simp [endCommandOf, h]

theorem scannerOnLatch_current {new : Latch} {s : State} (h : s.cmd.current = none) :
    (scannerOnLatch new s).cmd.current = none := by
  unfold scannerOnLatch
  split
  · rw [abortShunt, endCommandOf_of_none (by simpa using h)]
    simpa using h
  · exact h

/-- A raise of DUMP finds a tripped station with the sequencer at rest as the trip has left it (R49, R84). -/
theorem raiseOwn_dump_of_idle {kind : AlarmKind} {channel : Nat} {s : State} (hsafe : s.act.state = .tripped)
    (hidle : s.seq.state = .idle) :
    (raiseOwn kind channel .dump s).seq = s.seq ∧ (raiseOwn kind channel .dump s).servo = s.servo ∧
      (s.cmd.current = none → (raiseOwn kind channel .dump s).cmd.current = none) := by
  rw [raiseOwn, raiseAlarm_eq]
  split
  · exact ⟨by simp, by simp, fun h => by simpa using h⟩
  · rw [handLatch_of_safe (.inr (by simpa using hsafe)), sequencerOnLatch_of_rest (.inl (by simpa using hidle))]
    exact ⟨by simp, by simp, fun h => scannerOnLatch_current (by simpa using h)⟩

theorem latchMax_dump (a : Latch) : latchMax a .dump = .dump := by
  cases a <;> rfl

/-! ### ESTOP (R85, R86, R94) -/

theorem causeOn_line (c : Cause) (s : State) : (causeOn c s).line = s.line := by simp

/-- What a running station tells the alarm unit of ESTOP, and another does not (R94). -/
theorem raiseEstop_of_idle {s : State} (hsafe : s.act.state = .tripped) (hidle : s.seq.state = .idle) :
    (whenRunning raiseEstop s).act = s.act ∧ valveLines (whenRunning raiseEstop s) = valveLines s ∧
      (whenRunning raiseEstop s).pins.drive = s.pins.drive ∧ (whenRunning raiseEstop s).seq = s.seq ∧
      (whenRunning raiseEstop s).servo = s.servo ∧ LineGrows s (whenRunning raiseEstop s) ∧
      (s.cmd.current = none → (whenRunning raiseEstop s).cmd.current = none) := by
  by_cases hrunning : s.loader.phase = .running
  · obtain ⟨hact, hlines, hdrive⟩ := raiseOwn_of_safe (kind := .estop) (channel := 0) (action := .dump) (.inr hsafe)
    obtain ⟨hseq, hservo, hcurrent⟩ := raiseOwn_dump_of_idle (kind := .estop) (channel := 0) hsafe hidle
    rw [whenRunning_of_running hrunning, raiseEstop]
    exact ⟨by simpa using hact, by simpa [valveLines] using hlines, by simpa using hdrive, by simpa using hseq,
      by simpa using hservo,
      (raiseAlarm_lineGrows (ownRaise .estop 0 .dump s) s).trans (.of_line_eq (causeOn_line _ _)), fun h => by simpa using hcurrent h⟩
  · rw [whenRunning, if_neg (by simpa [isRunning] using hrunning)]
    exact ⟨rfl, rfl, rfl, rfl, rfl, .refl s, id⟩

@[simp] theorem raiseEstop_estop (s : State) : (whenRunning raiseEstop s).pins.estop = s.pins.estop := by
  unfold whenRunning
  split <;> simp [raiseEstop]

theorem raiseEstop_latches (s : State) :
    (raiseEstop s).alarm.latch = .dump ∧ Cause.estop ∈ (raiseEstop s).alarm.causes := by
  refine ⟨?_, (mem_causeOn _ _ _).mpr (.inr rfl)⟩
  simp [raiseEstop, latchMax_dump]

theorem enterTripped_act (reason : Reason) (s : State) :
    (enterTripped reason s).act =
      { s.act with
        state := .tripped, purpose := none, chargeTimer := none, lockTimer := none, deadline := none
        acquisition := none, releasing := false, lockCheck := none
        ownPlaced := s.act.ownPlaced.map (fun _ => false), ownHeld := false } := by
  simp [enterTripped, setActuator]

/-- The trip ends the command in progress that the actuator unit owns (R86). -/
theorem enterTripped_current {reason : Reason} {q : QueuedCommand} {s : State} (hq : s.cmd.current = some q)
    (howner : isActuatorCommand q.kind = true) : (enterTripped reason s).cmd.current = none := by
  have ended (u : State) (hu : u.cmd.current = some q) :
      (endActuatorCommand .refused reason u).cmd.current = none := by
    rw [endActuatorCommand, hu]
    refine (congrArg (fun v : State => v.cmd.current) (if_pos howner)).trans ?_
    rw [endCommand_of_some hu]
  simp only [enterTripped, tripIdle_frame, setEvent_frame]
  exact ended _ hq

theorem exec_estopActive {s : State} (hheld : s.loader.phase ≠ .held) (hpin : s.pins.estop = false) :
    exec .estopActive s =
      .next (startCommands (whenRunning raiseEstop (tripOnEstop { s with pins.estop := true }))) :=
  congrArg Host.Outcome.next (if_pos ⟨decide_eq_true hheld, hpin⟩)

/-! ### The end of a shunt by a latch (R7, R115) -/

/-- The SHUNT_DONE of an ended shunt, and with it a claim that was held for the slot (R7, R115). -/
theorem releaseShunt_of_group {s : State} (h : s.cfg.excitation ≠ 0) :
    releaseShunt s = placeShuntDone { s with scan.claimHeld := false } := by
  rw [releaseShunt, if_neg h]
  cases hheld : s.scan.claimHeld with
  | false =>
    rw [if_neg nofun]
    simp [← hheld]
  | true =>
    rw [if_pos rfl]
    cases hslot : s.line.shuntSlot with
    | none => simp [hslot]
    | some t =>
      cases hdone : t.isDone <;> simp [placeShuntDone, hslot, hdone]

theorem releaseShunt_of_no_group {s : State} (h : s.cfg.excitation = 0) : releaseShunt s = s :=
  if_pos h

theorem inTransmission_of_unwon {s : State} (h : ∀ x, s.line.tx = some x → x.cls = .shunt → x.won = false) :
    inTransmission .shunt s = false := by
  unfold inTransmission
  split
  · rename_i t ht
    by_cases hcls : t.cls = .shunt
    · simp [h t ht hcls]
    · simp [hcls]
  · rfl

/-- The telegram of the group that an ended shunt leaves in the slot, by what the slot and the pair hold (R7, R115). -/
def DoneLeft (s t : State) : Prop :=
  (s.line.shuntSlot = none → t.line.shuntSlot = some (ownDone s) ∧ t.line.tx = s.line.tx) ∧
  (∀ g, s.line.shuntSlot = some g → g.isDone = true → t.line.shuntSlot = some g ∧ t.line.tx = s.line.tx) ∧
  ∀ g, s.line.shuntSlot = some g → g.isDone = false →
    (∀ bytes, s.line.tx = some { cls := .shunt, bytes := bytes, won := true } →
      t.line.shuntSlot = some g ∧ t.line.shuntDoneBehind = true ∧ t.line.tx = s.line.tx) ∧
    ((∀ x, s.line.tx = some x → x.cls = .shunt → x.won = false) →
      t.line.shuntSlot = some (ownDone s) ∧ t.line.shuntDoneBehind = s.line.shuntDoneBehind ∧
      t.line.tx = s.line.tx.map (reofferDone s))

theorem placeShuntDone_left (s : State) : DoneLeft s (placeShuntDone s) := by
  refine ⟨fun hslot => ?_, fun g hslot hg => ?_, fun g hslot hg => ⟨fun bytes htx => ?_, fun hunwon => ?_⟩⟩
  · rw [placeShuntDone_of_empty hslot]
    exact ⟨rfl, rfl⟩
  · rw [placeShuntDone_of_done hslot hg]
    exact ⟨hslot, rfl⟩
  · rw [placeShuntDone_of_sent_claim hslot hg (by simp [inTransmission, htx])]
    exact ⟨hslot, rfl, rfl⟩
  · rw [placeShuntDone_of_unsent_claim hslot hg (inTransmission_of_unwon hunwon)]
    exact ⟨rfl, rfl, rfl⟩

/-- The shunt has ended and its command with it; the claim of its group is left (R114, R115). -/
def shuntAborted (s : State) : State :=
  endCommandOf .shunt .refused .action (leaveShunt s)

theorem leaveShunt_event (s : State) : HasEvent 6 (leaveShunt s) :=
  hasEvent_setEvent .shuntDone _

theorem leaveShunt_sums (s : State) : ∀ c ∈ (leaveShunt s).scan.channels, c.beforeSum = 0 ∧ c.onSum = 0 := by
  intro c hc
  simp only [leaveShunt, setEvent_frame, mapFrom_const, List.mem_map] at hc
  obtain ⟨_, -, rfl⟩ := hc
  exact ⟨rfl, rfl⟩

theorem shuntAborted_of_current {console : Nat} {s : State}
    (hcurrent : s.cmd.current = some { kind := .shunt, console := console }) (hroom : s.line.replyQ.length < 4) :
    shuntAborted s =
      { setEvent .commandDone (placeReply
          { dest := console, kindCode := 0x53, result := .refused, reason := .action, data := [] } (leaveShunt s)) with
        cmd.current := none } := by
  have left : (leaveShunt s).cmd.current = some { kind := .shunt, console := console } := by simpa using hcurrent
  rw [shuntAborted, endCommandOf_of_kind left, endCommand_of_some left, placeLateReply_of_room (by simpa using hroom)]
  rfl

theorem shuntAborted_event (s : State) : HasEvent 6 (shuntAborted s) :=
  (endCommandOf_lineGrows .shunt .refused .action _).events _ (leaveShunt_event s)

/-- The station as the DUMP of ESTOP has ended its shunt, the claim of its group left (R85, R115). -/
def estopAborted (s : State) : State :=
  shuntAborted (sequencerOnLatch .dump
    (raiseRecorded (ownRaise .estop 0 .dump { s with pins.estop := true }) { s with pins.estop := true }))

theorem raiseEstop_aborts {s : State} (hsafe : s.act.state = .locked ∨ s.act.state = .tripped)
    (hlatch : s.alarm.latch ≠ .dump) (hshunt : s.scan.shunt ≠ .none) :
    raiseEstop { s with pins.estop := true } = causeOn .estop (releaseShunt (estopAborted s)) := by
  have risen : latchCode s.alarm.latch < latchCode .dump := by
    revert hlatch
    cases s.alarm.latch <;> decide
  rw [raiseEstop, raiseOwn,
    raiseAlarm_of_risen (r := ownRaise .estop 0 .dump { s with pins.estop := true }) (by exact risen),
    handLatch_of_safe (by simpa using hsafe)]
  refine congrArg (causeOn .estop) (if_pos ⟨rfl, ?_⟩)
  simpa [shuntRuns] using hshunt

/-- What is left as the raise of ESTOP has found it, and what the end of the shunt makes of the rest. -/
theorem estopAborted_parts {console : Nat} {s : State}
    (hcurrent : s.cmd.current = some { kind := .shunt, console := console }) (hroom : s.line.replyQ.length < 4)
    (hfetch : s.recs.fetchQ = []) :
    (estopAborted s).cfg = s.cfg ∧ (estopAborted s).loader = s.loader ∧ (estopAborted s).line.tx = s.line.tx ∧
      (estopAborted s).line.shuntSlot = s.line.shuntSlot ∧
      (estopAborted s).line.shuntDoneBehind = s.line.shuntDoneBehind ∧
      (estopAborted s).scan.claimHeld = s.scan.claimHeld ∧
      (estopAborted s).line.replyQ = s.line.replyQ ++
        [{ dest := console, kindCode := 0x53, result := .refused, reason := .action, data := [] }] ∧
      (estopAborted s).cmd.current = none ∧ (estopAborted s).scan.shunt = .none ∧
      (estopAborted s).scan.shuntActive = false ∧ (estopAborted s).pins.shunts = 0 ∧ HasEvent 6 (estopAborted s) ∧
      HasEvent 9 (estopAborted s) ∧ ∀ c ∈ (estopAborted s).scan.channels, c.beforeSum = 0 ∧ c.onSum = 0 := by
  obtain ⟨htx, -, hreplies⟩ :=
    (Unanswered.raiseRecorded (ownRaise .estop 0 .dump { s with pins.estop := true })
      { s with pins.estop := true }).trans (.sequencerOnLatch .dump _)
  obtain ⟨hreply, -⟩ := hreplies hfetch
  have ended : HasEvent 6 (estopAborted s) := shuntAborted_event _
  rw [estopAborted, shuntAborted_of_current (console := console) (by simpa using hcurrent)
    (by rw [hreply]; exact hroom)] at ended ⊢
  refine ⟨by simp [placeReply], by simp [placeReply], ?_, by simp [placeReply], by simp [placeReply],
    by simp [placeReply], ?_, rfl, rfl, rfl, rfl, ended, hasEvent_setEvent .commandDone _, leaveShunt_sums _⟩
  · simpa [placeReply] using htx
  · simpa [placeReply] using hreply

theorem reofferDone_of_claim (s : State) (bytes : List Byte) :
    reofferDone s { cls := .shunt, bytes := bytes, won := false } =
      { cls := .shunt, won := false
        bytes := frame 3 (ownStation s) 0 0x04 [BitVec.ofNat 8 s.cfg.excitation] } := rfl

theorem map_reofferDone_of_other {s : State} {tx : Option Transmission} (h : ∀ x, tx = some x → x.cls ≠ .shunt) :
    tx.map (reofferDone s) = tx := by
  cases tx with
  | none => rfl
  | some x => simp [reofferDone, h x rfl]

/-- Settles O29: the trip and what the raise leaves of it; the raise in the states that stay; the end of a shunt by what
the SHUNT slot and the pair hold; the end of ESTOP. -/
theorem estopTripsAndItsEndChangesNoState : Obligations.EstopTripsAndItsEndChangesNoState := by
  refine ⟨fun s hheld hpin hlocked htripped => ?_, fun s hphase hpin hsafe => ?_,
    fun s console hphase hpin hsafe hlatch hshunt hcurrent hroom hfetch => ?_, fun s hheld hpin => ?_⟩
  · have trips := enterTripped_trips .estop { s with pins.estop := true }
    have hact := enterTripped_act .estop { s with pins.estop := true }
    have hidle : (enterTripped .estop { s with pins.estop := true }).seq.state = .idle := by rw [trips.seq]; rfl
    obtain ⟨uact, ulines, udrive, useq, uservo, ugrows, ucurrent⟩ := raiseEstop_of_idle trips.state hidle
    refine ⟨_, exec_estopActive hheld hpin, ?_⟩
    rw [tripOnEstop, if_neg (by rintro (h | h) <;> contradiction), uact, ulines, udrive, useq, uservo, hact, trips.seq,
      trips.servo]
    refine ⟨?_, rfl, trips.lines, trips.drive, rfl, rfl, rfl, rfl, rfl, rfl, rfl, rfl, rfl, rfl,
      ugrows.events _ trips.event, fun q hq howner => ucurrent (enterTripped_current hq howner), fun hrunning => ?_,
      fun hnot => ?_⟩
    · simp
    · rw [whenRunning_of_running (by simpa using hrunning)]
      exact raiseEstop_latches _
    · rw [whenRunning, if_neg (by simpa [isRunning] using hnot)]
      simp
  · obtain ⟨hact, hlines, -⟩ := raiseOwn_of_safe (kind := .estop) (channel := 0) (action := .dump)
      (s := { s with pins.estop := true }) hsafe
    refine ⟨_, exec_estopActive (by simp [hphase]) hpin, ?_⟩
    rw [tripOnEstop, if_pos hsafe, whenRunning_of_running (by exact hphase)]
    exact ⟨by simp [raiseEstop], by simpa [raiseEstop] using hact, by simpa [raiseEstop, valveLines] using hlines,
      raiseEstop_latches _⟩
  · obtain ⟨vcfg, vloader, vtx, vslot, vbehind, vheld, vreply, vcurrent, vshunt, vactive, vpins, vdone,
      vended, vsums⟩ :=
      estopAborted_parts hcurrent hroom hfetch
    refine ⟨_, exec_estopActive (by simp [hphase]) hpin, ?_⟩
    rw [tripOnEstop, if_pos hsafe, whenRunning_of_running (by exact hphase), raiseEstop_aborts hsafe hlatch hshunt]
    have hline (u : State) : (causeOn .estop u).line = u.line := causeOn_line _ u
    have hscan (u : State) : (causeOn .estop u).scan = u.scan := by simp
    rw [hline, hscan]
    have hgroup0 (h : s.cfg.excitation = 0) : releaseShunt (estopAborted s) = estopAborted s :=
      releaseShunt_of_no_group (by rw [vcfg, h])
    have hgroup1 (h : s.cfg.excitation ≠ 0) :
        releaseShunt (estopAborted s) = placeShuntDone { estopAborted s with scan.claimHeld := false } :=
      releaseShunt_of_group (by rwa [vcfg])
    obtain ⟨left_empty, left_done, left_claim⟩ := placeShuntDone_left { estopAborted s with scan.claimHeld := false }
    have hown : ownDone { estopAborted s with scan.claimHeld := false } =
        { isDone := true, group := s.cfg.excitation } := by rw [← vcfg]; rfl
    refine ⟨by simpa using vshunt, by simpa using vactive, by simpa using vpins, ?_, by simpa [HasEvent] using vdone,
      by simpa [HasEvent] using vended, by simpa using vcurrent, by simpa using vreply, by simpa using vsums,
      fun hgroup => ?_, fun hgroup hslot => ?_, fun g hgroup hslot hg => ?_,
      fun g hgroup hslot hg => ⟨fun bytes htx => ?_, fun hunwon => ?_⟩⟩
    · split
      · rename_i hgroup
        rw [hgroup0 hgroup, vheld]
      · rename_i hgroup
        simp [hgroup1 hgroup]
    · rw [hgroup0 hgroup]
      exact ⟨vslot, vtx⟩
    · rw [hgroup1 hgroup, ← hown, ← vtx]
      exact left_empty (vslot.trans hslot)
    · rw [hgroup1 hgroup, ← vtx]
      exact left_done g (vslot.trans hslot) hg
    · obtain ⟨sent, -⟩ := left_claim g (vslot.trans hslot) hg
      rw [hgroup1 hgroup, ← vtx]
      exact sent bytes (vtx.trans htx)
    · obtain ⟨-, unsent⟩ := left_claim g (vslot.trans hslot) hg
      obtain ⟨tslot, tbehind, ttx⟩ := unsent fun x hx => hunwon x (vtx.symm.trans hx)
      rw [hgroup1 hgroup, tslot, tbehind, ttx, hown]
      refine ⟨rfl, vbehind, fun bytes htx => ?_, fun hother => ?_⟩
      · rw [show ({ estopAborted s with scan.claimHeld := false } : State).line.tx = _ from vtx.trans htx,
          Option.map_some, reofferDone_of_claim]
        simp [ownStation, vloader, vcfg]
      · exact (map_reofferDone_of_other fun x hx => hother x (vtx.symm.trans hx)).trans vtx
  · refine congrArg Host.Outcome.next ((if_pos ⟨decide_eq_true hheld, hpin⟩).trans ?_)
    split
    · rename_i hrunning
      exact whenRunning_of_running hrunning
    · rename_i hnot
      exact if_neg (by simpa [isRunning] using hnot)

end Sys2Proof.Machine

/-! The failure timers of the actuator (O30), the release of the nut and the lock check (O31), and the two inputs in the
states that watch them (O28). -/
namespace Sys2Proof.Machine

open Sys2Proof

-- One proof after the other: the threads of the check, which compiles the whole text at once, share one memory limit.
set_option Elab.async false

/-! ### State entries, raises of HOLD, and the command that ends with them (R74, R165) -/

theorem enterState_sets (st : ActState) (iso dump lockCmd : Bool) (s : State) :
    (enterState st iso dump lockCmd s).act = { s.act with state := st } ∧
      valveLines (enterState st iso dump lockCmd s) = (iso, dump, lockCmd) ∧
      (enterState st iso dump lockCmd s).pins.drive = (if passesDrive st then s.pins.drive else 0) := by
  refine ⟨?_, by simp [valveLines], ?_⟩
  all_goals
    unfold enterState sequencerOnActuator
    split
    · split <;> simp [setActuator]
    · split <;> simp [setActuator]

theorem raiseOwn_hold_parts (kind : AlarmKind) (channel : Nat) (s : State) :
    (raiseOwn kind channel .hold s).cmd = s.cmd ∧ (raiseOwn kind channel .hold s).servo = s.servo := by
  cases h : latchAtLeast s.alarm.latch .hold with
  | true =>
    rw [raiseOwn_hold_of_latched h]
    simp
  | false =>
    rw [raiseOwn_hold_of_below h]
    split <;> simp

/-- What the end of an operation answers: the command in progress of its kind is gone, with COMMAND_DONE and a late
REPLY (R165). -/
def Ended (kind : QueuedKind) (result : ReplyResult) (reason : Reason) (s t : State) : Prop :=
  ∀ console, s.cmd.current = some { kind := kind, console := console } →
    t.cmd.current = none ∧ HasEvent 9 t ∧
      (s.recs.fetchQ = [] → LateReply console (queuedKindCode kind) result reason s t)

theorem endCommandOf_ended {kind : QueuedKind} {result : ReplyResult} {reason : Reason} {s u : State}
    (hcmd : u.cmd = s.cmd) (hquiet : Unanswered s u) :
    Ended kind result reason s (endCommandOf kind result reason u) := by
  intro console hcurrent
  have current : u.cmd.current = some { kind := kind, console := console } := by rw [hcmd, hcurrent]
  obtain ⟨hnone, hevent, hlate⟩ := endCommand_ends (result := result) (reason := reason) current
  rw [endCommandOf_of_kind current]
  exact ⟨hnone, hevent, fun hfetch => lateReply_of_replies_eq (hquiet.replies hfetch) hlate⟩

theorem Ended.of_base {kind : QueuedKind} {result : ReplyResult} {reason : Reason} {s s' t : State}
    (h : Ended kind result reason s' t) (hcmd : s'.cmd = s.cmd) (hline : s'.line = s.line) (hrecs : s'.recs = s.recs) :
    Ended kind result reason s t := by
  unfold Ended LateReply at h ⊢
  rwa [hcmd, hline, hrecs] at h

/-- A failure of an operation in state `s`: the alarm raised with HOLD, and behind it the entry into the state `u` that
ends the command (R77, R79, R83). -/
theorem failure_told {alarm : AlarmKind} {kind : QueuedKind} {s u : State}
    (halarm : u.alarm = (raiseOwn alarm 0 .hold s).alarm) (hgrows : LineGrows (raiseOwn alarm 0 .hold s) u)
    (hcmd : u.cmd = (raiseOwn alarm 0 .hold s).cmd) (hquiet : Unanswered (raiseOwn alarm 0 .hold s) u) :
    (endCommandOf kind .refused .actuator u).alarm.latch = latchMax s.alarm.latch .hold ∧
      HasEvent 5 (endCommandOf kind .refused .actuator u) ∧
      (RoomFor 1 s → Listed alarm 0 s (endCommandOf kind .refused .actuator u)) ∧
      Ended kind .refused .actuator s (endCommandOf kind .refused .actuator u) := by
  obtain ⟨rcmd, -⟩ := raiseOwn_hold_parts alarm 0 s
  have after : (endCommandOf kind .refused .actuator u).alarm = (raiseOwn alarm 0 .hold s).alarm := by simp [halarm]
  refine ⟨by rw [after]; simp, ?_, fun room => ?_,
    endCommandOf_ended (hcmd.trans rcmd) ((Unanswered.raiseOwn_hold alarm 0 s).trans hquiet)⟩
  · exact (endCommandOf_lineGrows _ _ _ _).events _ (hgrows.events _ (raiseOwn_event alarm 0 .hold s))
  · rw [Listed, after]
    exact raiseOwn_lists room

/-! ### The failure timers (R77, R79, R83) -/

theorem actuatorExpiry_of_due {st : ActState} {timer : Option Nat} {due : Nat} {f : State → State} {s : State}
    (hphase : s.loader.phase = .running) (hstate : s.act.state = st) (htimer : timer = some due) (hdue : due ≤ s.age) :
    actuatorExpiry st timer f s = startCommands (f s) :=
  congrArg startCommands ((if_pos hstate).trans (timerEvent_of_due hphase htimer hdue))

/-- The station as the failed unlock goes to the alarm unit: its timers stopped, the nut's line on, the integral 0 (R68,
R83). -/
def unlockFailing (s : State) : State :=
  { s with
    act.deadline := none
    act.acquisition := none
    act.releasing := false
    servo.integral := 0
    pins.iso := false
    pins.lockCmd := true }

@[simp] theorem unlockFailing_frame (s : State) :
    (unlockFailing s).act.deadline = none ∧ (unlockFailing s).act.acquisition = none ∧
      (unlockFailing s).act.lockRef = s.act.lockRef ∧ (unlockFailing s).servo.integral = 0 :=
  ⟨rfl, rfl, rfl, rfl⟩

theorem unlockFails_eq (s : State) :
    unlockFails s =
      endCommandOf .unlock .refused .actuator (enterLocked (raiseOwn .unlockFail 0 .hold (unlockFailing s))) := rfl

/-- Settles O30: each failure's raise, the entry behind it, and the command that ends. -/
theorem failureTimersReturnTheActuator : Obligations.FailureTimersReturnTheActuator := by
  refine ⟨fun s due hphase hstate htimer hdue => ?_, fun s due hphase hstate htimer hdue => ?_,
    fun s due hphase hstate htimer hdue => ?_⟩
  · obtain ⟨ract, -⟩ := raiseOwn_hold_frame .chargeFail 0 { s with act.chargeTimer := none }
    obtain ⟨eact, -, -⟩ := enterState_sets .vented false true false
      (raiseOwn .chargeFail 0 .hold { s with act.chargeTimer := none })
    obtain ⟨hlatch, hevent, hlisted, hended⟩ := failure_told (alarm := .chargeFail) (kind := .charge)
      (s := { s with act.chargeTimer := none }) (u := enterVented _) (by simp)
      (enterState_lineGrows _ _ _ _ _) (by simp)
      (.enterState _ _ _ _ _)
    refine ⟨chargeFails s, congrArg Host.Outcome.next (actuatorExpiry_of_due hphase hstate htimer hdue),
      ?_, ?_, ?_, ?_, hlatch, hevent, hlisted, hended⟩
    · simp [chargeFails]
    · simp [chargeFails, valveLines]
    · simp [chargeFails]
    · simp [chargeFails, enterVented, eact, ract]
  · obtain ⟨ract, -⟩ := raiseOwn_hold_frame .lockFail 0 { s with act.lockTimer := none, pins.lockCmd := false }
    obtain ⟨eact, -, -⟩ := enterState_sets .live true false false
      (raiseOwn .lockFail 0 .hold { s with act.lockTimer := none, pins.lockCmd := false })
    obtain ⟨hlatch, hevent, hlisted, hended⟩ := failure_told (alarm := .lockFail) (kind := .lock)
      (s := { s with act.lockTimer := none, pins.lockCmd := false }) (u := enterState .live true false false _)
      (by simp)
      (enterState_lineGrows _ _ _ _ _) (by simp) (.enterState _ _ _ _ _)
    refine ⟨lockFails s, congrArg Host.Outcome.next (actuatorExpiry_of_due hphase hstate htimer hdue),
      ?_, ?_, ?_, hlatch, hevent, hlisted, hended⟩
    · simp [lockFails, eact]
    · simp [lockFails, valveLines]
    · simp [lockFails, eact, ract]
  · obtain ⟨ract, -⟩ := raiseOwn_hold_frame .unlockFail 0 (unlockFailing s)
    obtain ⟨-, rservo⟩ := raiseOwn_hold_parts .unlockFail 0 (unlockFailing s)
    obtain ⟨eact, -, edrive⟩ := enterState_sets .locked false false true
      (raiseOwn .unlockFail 0 .hold (unlockFailing s))
    obtain ⟨hlatch, hevent, hlisted, hended⟩ := failure_told (alarm := .unlockFail) (kind := .unlock)
      (s := unlockFailing s) (u := enterLocked _) (by simp)
      ((enterState_lineGrows .locked false false true _).trans (.of_line_eq rfl)) (by simp)
      ((Unanswered.enterState .locked false false true _).trans (.of_frame rfl rfl rfl rfl))
    refine ⟨unlockFails s, congrArg Host.Outcome.next (actuatorExpiry_of_due hphase hstate htimer hdue),
      ?_, ?_, ?_, ?_, ?_, ?_, ?_, hlatch, hevent, ?_, hlisted, hended⟩
    · simp [unlockFails_eq]
    · simp [unlockFails_eq, valveLines]
    · simpa [unlockFails_eq, enterLocked, passesDrive] using edrive
    · simp [unlockFails_eq, enterLocked, loadLockCheck, ract]
    · simp [unlockFails_eq, enterLocked, loadLockCheck, ract]
    · simp [unlockFails_eq, ract]
    · simp [unlockFails_eq, rservo]
    · simp [unlockFails_eq, enterLocked, loadLockCheck, lockInterval_eq, aeQuiet, unlockFailing]

/-! ### The entry into LIVE (R47, R68, R77, R82) -/

theorem sequencerOnActuator_of_live {was : Bool} {s : State} (h : s.act.state = .live) :
    sequencerOnActuator was s =
      if (s.seq.state = .held ∨ s.seq.state = .ended) ∧ s.alarm.latch = .unload then enterUnloading s else s :=
  if_pos h

/-- What an entry into LIVE leaves: the timers of the operation stopped, the lines of LIVE, the reacquire timer from
UNLOCK_CHARGE, and UNLOADING where a latch of UNLOAD has waited for it. -/
theorem enterLive_leaves (kind : QueuedKind) (s : State) :
    (enterLive kind s).act =
        { s.act with
          state := .live, chargeTimer := none, deadline := none, acquisition := none, releasing := false } ∧
      valveLines (enterLive kind s) = (true, false, false) ∧ (enterLive kind s).pins.drive = s.pins.drive ∧
      (enterLive kind s).servo.reacquire =
        (if s.act.state = .unlockCharge then some (s.age + 10 * s.cfg.tAcq) else s.servo.reacquire) ∧
      (enterLive kind s).seq =
        (if (s.seq.state = .held ∨ s.seq.state = .ended) ∧ s.alarm.latch = .unload then unloadingOf s.seq
        else s.seq) := by
  obtain ⟨eact, -, edrive⟩ := enterState_sets .live true false false (liveReady s)
  rw [enterLive_eq]
  refine ⟨?_, by simp [valveLines], ?_, ?_, ?_⟩
  · simp only [endCommandOf_frame]
    exact eact
  · simpa [passesDrive, liveReady] using edrive
  · simp [liveReady, ms, Config.perMs]
  · simp only [endCommandOf_frame, enterState]
    rw [sequencerOnActuator_of_live rfl]
    split
    · rename_i hwaits
      rw [if_pos (by exact hwaits)]
      exact enterUnloading_seq _
    · rename_i hrests
      rw [if_neg (by exact hrests)]
      rfl

theorem enterLive_ended (kind : QueuedKind) (s : State) : Ended kind .done .none s (enterLive kind s) :=
  fun _ hcurrent => enterLive_ends hcurrent

/-! ### The lock check (R92, R93) -/

theorem makeLockCheck_of_within {ref : Int} {s : State} (href : s.act.lockRef = some ref)
    (h : (s.servo.fMeas - ref).natAbs ≤ s.cfg.lockBand) : makeLockCheck s = s := by
  simp [makeLockCheck, href, Nat.not_lt.mpr h]

theorem makeLockCheck_of_drift {ref : Int} {s : State} (href : s.act.lockRef = some ref)
    (h : s.cfg.lockBand < (s.servo.fMeas - ref).natAbs) :
    makeLockCheck s = raiseOwn .lockDrift 0 s.cfg.driftAction s := by
  simp [makeLockCheck, href, h]

theorem loadLockCheck_eq (s : State) :
    loadLockCheck s =
      { s with act.lockCheck := some (s.age + (if aeQuiet s then 10000 else 5000) * s.cfg.lockInterval) } := by
  rw [loadLockCheck, lockInterval_eq]

theorem exec_lockCheckTimerExpiry {due : Nat} {s : State} (hphase : s.loader.phase = .running)
    (htimer : s.act.lockCheck = some due) (hdue : due ≤ s.age) :
    exec .lockCheckTimerExpiry s = .next (startCommands (makeLockCheck (loadLockCheck s))) :=
  congrArg (fun u => Host.Outcome.next (startCommands u)) (timerEvent_of_due hphase htimer hdue)

/-- Settles O31: the release by the seat of the nut, the lock check by its band. -/
theorem releaseAndLockCheck : Obligations.ReleaseAndLockCheck := by
  refine ⟨fun s due hphase hstate htimer hdue hseated => ?_, fun s due hphase hstate htimer hdue hlifted => ?_,
    fun s due ref hphase htimer hdue href hband => ?_, fun s due ref hphase hstate htimer hdue href hband => ?_⟩
  · refine congrArg Host.Outcome.next ((actuatorExpiry_of_due hphase hstate htimer hdue).trans ?_)
    exact congrArg startCommands (if_pos (by exact hseated))
  · obtain ⟨hact, hlines, -, hreacquire, -⟩ := enterLive_leaves .unlock
      { s with act.acquisition := none, act.releasing := true, pins.lockCmd := false }
    have released : beginRelease s = enterLive .unlock
        { s with act.acquisition := none, act.releasing := true, pins.lockCmd := false } :=
      if_neg (by simp [hlifted])
    refine ⟨_, congrArg Host.Outcome.next (actuatorExpiry_of_due hphase hstate htimer hdue), ?_⟩
    rw [released]
    refine ⟨by rw [hact], hlines, by rw [hact], by rw [hact], hreacquire.trans (if_pos hstate), ?_⟩
    exact enterLive_ended .unlock { s with act.acquisition := none, act.releasing := true, pins.lockCmd := false }
  · rw [exec_lockCheckTimerExpiry hphase htimer hdue, makeLockCheck_of_within (by exact href) (by exact hband),
      loadLockCheck_eq]
  · obtain ⟨hact, -, -⟩ := raiseOwn_of_safe (kind := .lockDrift) (channel := 0) (action := s.cfg.driftAction)
      (s := loadLockCheck s) (.inl hstate)
    rw [exec_lockCheckTimerExpiry hphase htimer hdue, makeLockCheck_of_drift (by exact href) (by exact hband)]
    refine ⟨_, rfl, by simpa [hact] using hstate, by simpa [hact] using href, ?_, by simp, raiseOwn_event _ _ _ _,
      fun room => raiseOwn_lists (s := loadLockCheck s) room⟩
    have hcfg : (loadLockCheck s).cfg = s.cfg := rfl
    rw [hcfg, hact, loadLockCheck_eq]

/-! ### The inputs (R75) -/

theorem exec_pressOkChange {level : Bool} {s : State} (hphase : s.loader.phase = .running)
    (hnew : s.pins.pressOk ≠ level) :
    exec (.pressOkChange level) s = .next (startCommands (pressOkChanged { s with pins.pressOk := level })) := by
  refine congrArg Host.Outcome.next ((if_pos ⟨by simp [takesEvents, hphase], hnew⟩).trans ?_)
  rw [whenRunning_of_running (by exact hphase)]

theorem exec_lockEngagedChange {level : Bool} {s : State} (hphase : s.loader.phase = .running)
    (hnew : s.pins.lockEngaged ≠ level) :
    exec (.lockEngagedChange level) s =
      .next (startCommands (lockEngagedChanged { s with pins.lockEngaged := level })) := by
  refine congrArg Host.Outcome.next ((if_pos ⟨by simp [takesEvents, hphase], hnew⟩).trans ?_)
  rw [whenRunning_of_running (by exact hphase)]

/-- A nut that seats in LOCKING (R79, R80). -/
theorem lockSeats_leaves (s : State) :
    (lockSeats s).act.state = .locked ∧ valveLines (lockSeats s) = (false, false, true) ∧
      (lockSeats s).pins.drive = 0 ∧ (lockSeats s).act.lockTimer = none ∧
      (lockSeats s).act.lockRef = some s.servo.fMeas ∧
      (lockSeats s).act.lockCheck = some (s.age + (if aeQuiet s then 10000 else 5000) * s.cfg.lockInterval) ∧
      Ended .lock .done .none s (lockSeats s) := by
  obtain ⟨-, -, edrive⟩ := enterState_sets .locked false false true
    { s with act.lockTimer := none, act.lockRef := some s.servo.fMeas, act.lockRefDue := false }
  refine ⟨by simp [lockSeats], by simp [lockSeats, valveLines],
    by simpa [lockSeats, enterLocked, passesDrive] using edrive,
    by simp [lockSeats, enterLocked, loadLockCheck], by simp [lockSeats], ?_, ?_⟩
  · simp [lockSeats, enterLocked, loadLockCheck, lockInterval_eq, aeQuiet]
  · refine endCommandOf_ended (by simp) ?_
    obtain ⟨etx, efetch, ereplies⟩ := Unanswered.enterState .locked false false true
      { s with act.lockTimer := none, act.lockRef := some s.servo.fMeas, act.lockRefDue := false }
    exact ⟨etx, efetch, ereplies⟩

/-- A change of LOCK_ENGAGED that no state of R75 watches is read, and nothing else. -/
theorem lockEngagedChanged_of_unwatched {s : State}
    (hlocking : s.act.state = .locking → s.pins.lockEngaged = false)
    (hlocked : s.act.state = .locked → s.pins.lockEngaged = true ∨ s.act.lockRefDue = true)
    (hunlock : s.act.state = .unlockCharge → s.act.releasing = false ∨ s.pins.lockEngaged = true) :
    lockEngagedChanged s = s := by
  refine (if_neg fun ⟨hstate, hpin⟩ => ?_).trans ((if_neg fun ⟨hstate, hpin, hdue⟩ => ?_).trans
    (if_neg fun ⟨hstate, hreleasing, hpin⟩ => ?_))
  · rw [hlocking hstate] at hpin; cases hpin
  · rcases hlocked hstate with h | h
    · rw [h] at hpin; cases hpin
    · rw [h] at hdue; cases hdue
  · rcases hunlock hstate with h | h
    · rw [h] at hreleasing; cases hreleasing
    · rw [h] at hpin; cases hpin

/-- The same of PRESS_OK. -/
theorem pressOkChanged_of_unwatched {s : State} (hcharging : s.act.state = .charging → s.pins.pressOk = false)
    (hunlock : s.act.state = .unlockCharge → s.act.releasing = true ∨ s.pins.pressOk = true) :
    pressOkChanged s = s := by
  refine (if_neg fun ⟨hstate, hpin⟩ => ?_).trans (if_neg fun ⟨hacquiring, hpin⟩ => ?_)
  · rw [hcharging hstate] at hpin; cases hpin
  · obtain ⟨hstate, hreleasing⟩ : s.act.state = .unlockCharge ∧ s.act.releasing = false := by
      simpa [acquiring] using hacquiring
    rcases hunlock hstate with h | h
    · rw [h] at hreleasing; cases hreleasing
    · rw [h] at hpin; cases hpin

theorem lockEngagedChanged_of_fall {s : State} (hstate : s.act.state = .locked) (hpin : s.pins.lockEngaged = false)
    (hdue : s.act.lockRefDue = false) : lockEngagedChanged s = loadLockCheck (makeLockCheck s) :=
  (if_neg (by simp [hstate])).trans (if_pos ⟨hstate, hpin, hdue⟩)

/-- A level that is read before the station runs (R170). -/
theorem pressOkEvent_before {level : Bool} {s : State} (hheld : s.loader.phase ≠ .held)
    (hnot : s.loader.phase ≠ .running) : pressOkEvent level s = { s with pins.pressOk := level } := by
  by_cases hnew : s.pins.pressOk = level
  · rw [← hnew]
    exact if_neg fun ⟨_, h⟩ => h rfl
  · refine (if_pos ⟨decide_eq_true hheld, hnew⟩).trans ?_
    rw [whenRunning, if_neg (by simpa [isRunning] using hnot), startCommands_of_not_running (by exact hnot)]

theorem lockEngagedEvent_before {level : Bool} {s : State} (hheld : s.loader.phase ≠ .held)
    (hnot : s.loader.phase ≠ .running) : lockEngagedEvent level s = { s with pins.lockEngaged := level } := by
  by_cases hnew : s.pins.lockEngaged = level
  · rw [← hnew]
    exact if_neg fun ⟨_, h⟩ => h rfl
  · refine (if_pos ⟨decide_eq_true hheld, hnew⟩).trans ?_
    rw [whenRunning, if_neg (by simpa [isRunning] using hnot), startCommands_of_not_running (by exact hnot)]

/-- Settles O28: the states of R75 first, then those that watch no input, then a station that does not run. -/
theorem inputsActInTheirStates : Obligations.InputsActInTheirStates := by
  refine ⟨fun s hphase hstate hpin => ?_, fun s hphase hstate hreleasing hpin => ?_, fun s hphase hstate hpin => ?_,
    fun s hphase hstate hreleasing hpin => ?_, fun s hphase hstate hpin => ⟨fun hdue => ?_,
    fun ref hdue href hband => ?_,
    fun ref hdue href hband => ?_⟩, fun s level hphase hstate => ⟨fun hnew => ?_, fun hnew => ?_⟩,
    fun s level hphase hnew hstate => ?_, fun s level hphase hnew hstate => ?_,
    fun s level => ⟨fun hphase => ?_, fun h => ?_, fun h => ?_⟩⟩
  · obtain ⟨hact, hlines, hdrive, hreacquire, hseq⟩ := enterLive_leaves .charge { s with pins.pressOk := true }
    have entered : pressOkChanged { s with pins.pressOk := true } = enterLive .charge { s with pins.pressOk := true } :=
      if_pos ⟨hstate, rfl⟩
    rw [exec_pressOkChange hphase (by simp [hpin]), entered]
    refine ⟨_, rfl, by simp, by rw [hact], hlines, hdrive, by rw [hact], hreacquire.trans (if_neg (by simp [hstate])),
      enterLive_ended .charge { s with pins.pressOk := true }, fun hwaits hlatch => ?_, fun hrests => ?_⟩
    · rw [hseq, if_pos ⟨hwaits, hlatch⟩]
      rfl
    · rw [hseq, if_neg (by exact hrests)]
  · rw [exec_pressOkChange hphase (by simp [hpin])]
    refine congrArg (fun u => Host.Outcome.next (startCommands u)) ?_
    exact (if_neg (by simp)).trans (if_pos ⟨by simp [acquiring, hstate, hreleasing], rfl⟩)
  · obtain ⟨hlocked, hlines, hdrive, htimer, href, hcheck, hended⟩ :=
      lockSeats_leaves { s with pins.lockEngaged := true }
    have seated : lockEngagedChanged { s with pins.lockEngaged := true } =
        lockSeats { s with pins.lockEngaged := true } :=
      if_pos ⟨hstate, rfl⟩
    rw [exec_lockEngagedChange hphase (by simp [hpin]), seated]
    exact ⟨_, rfl, by simp, hlocked, hlines, hdrive, htimer, href, hcheck, hended⟩
  · obtain ⟨hact, hlines, -, hreacquire, hseq⟩ := enterLive_leaves .unlock { s with pins.lockEngaged := false }
    have lifted : lockEngagedChanged { s with pins.lockEngaged := false } =
        enterLive .unlock { s with pins.lockEngaged := false } :=
      (if_neg (by simp)).trans ((if_neg (by simp [hstate])).trans (if_pos ⟨hstate, hreleasing, rfl⟩))
    rw [exec_lockEngagedChange hphase (by simp [hpin]), lifted]
    refine ⟨_, rfl, by simp, by rw [hact], hlines, by rw [hact], hreacquire.trans (if_pos hstate),
      enterLive_ended .unlock { s with pins.lockEngaged := false }, fun hwaits hlatch => ?_, fun hrests => ?_⟩
    · rw [hseq, if_pos ⟨hwaits, hlatch⟩]
      rfl
    · rw [hseq, if_neg (by exact hrests)]
  · rw [exec_lockEngagedChange hphase (by simp [hpin]),
      lockEngagedChanged_of_unwatched (s := { s with pins.lockEngaged := false }) (by simp)
        (fun _ => .inr hdue) (by simp [hstate])]
  · rw [exec_lockEngagedChange hphase (by simp [hpin]),
      lockEngagedChanged_of_fall (s := { s with pins.lockEngaged := false })
      hstate rfl hdue,
      makeLockCheck_of_within (by exact href) (by exact hband), loadLockCheck_eq]
    rfl
  · obtain ⟨ract, -, -⟩ := raiseOwn_of_safe (kind := .lockDrift) (channel := 0) (action := s.cfg.driftAction)
      (s := { s with pins.lockEngaged := false }) (.inl hstate)
    rw [exec_lockEngagedChange hphase (by simp [hpin]),
      lockEngagedChanged_of_fall (s := { s with pins.lockEngaged := false })
      hstate rfl hdue,
      makeLockCheck_of_drift (by exact href) (by exact hband), loadLockCheck_eq]
    refine ⟨_, rfl, by simp, ?_, by simp, raiseOwn_event _ _ _ _,
      fun room => raiseOwn_lists (s := { s with pins.lockEngaged := false }) room⟩
    simp [ract, aeQuiet]
  · rw [exec_pressOkChange hphase hnew, pressOkChanged_of_unwatched]
    all_goals rcases hstate with h | h | h | h <;> simp [h]
  · rw [exec_lockEngagedChange hphase hnew, lockEngagedChanged_of_unwatched]
    all_goals rcases hstate with h | h | h | h <;> simp [h]
  · rw [exec_pressOkChange hphase hnew, pressOkChanged_of_unwatched]
    all_goals rcases hstate with ⟨h, hl⟩ | h | h | ⟨h, hl⟩ <;> simp [*]
  · rw [exec_lockEngagedChange hphase hnew, lockEngagedChanged_of_unwatched]
    all_goals rcases hstate with h | ⟨h, hl⟩ | ⟨h, hl⟩ | ⟨h, hl⟩ <;> simp [*]
  · have hphases : s.loader.phase ≠ .held ∧ s.loader.phase ≠ .running := by
      rcases hphase with h | h <;> simp [h]
    obtain ⟨hheld, hnot⟩ := hphases
    exact ⟨congrArg Host.Outcome.next (pressOkEvent_before hheld hnot),
      congrArg Host.Outcome.next (lockEngagedEvent_before hheld hnot)⟩
  · refine congrArg Host.Outcome.next (if_neg fun ⟨htakes, hnew⟩ => ?_)
    exact h.elim (by simpa [takesEvents] using htakes) hnew
  · refine congrArg Host.Outcome.next (if_neg fun ⟨htakes, hnew⟩ => ?_)
    exact h.elim (by simpa [takesEvents] using htakes) hnew

end Sys2Proof.Machine

/-! The bands that a servo tick judges (O24), by what raises leave of the alarms before them. -/
namespace Sys2Proof.Machine

open Sys2Proof

-- One proof after the other: the threads of the check, which compiles the whole text at once, share one memory limit.
set_option Elab.async false

/-! ### What raises leave of raises before them (R133 to R135) -/

/-- From `s` to `t` the latch does not fall, no unacknowledged record is lost, and the events and REPLYs stay. -/
structure AlarmsGrow (s t : State) : Prop where
  latch : latchCode s.alarm.latch ≤ latchCode t.alarm.latch
  records : ∀ a ∈ s.alarm.records, a.acked = false → ∃ b ∈ t.alarm.records, keyOf b = keyOf a ∧ b.acked = false
  line : LineGrows s t

namespace AlarmsGrow

variable {s t u : State}

theorem of_alarm_eq (halarm : t.alarm = s.alarm) (hline : LineGrows s t) : AlarmsGrow s t :=
  ⟨by rw [halarm], fun a ha hacked => ⟨a, by rwa [halarm], rfl, hacked⟩, hline⟩

theorem refl (s : State) : AlarmsGrow s s := of_alarm_eq rfl (.refl s)

theorem trans (h : AlarmsGrow s t) (k : AlarmsGrow t u) : AlarmsGrow s u where
  latch := h.latch.trans k.latch
  records a ha hacked := by
    obtain ⟨b, hb, hkey, hunacked⟩ := h.records a ha hacked
    obtain ⟨c, hc, hkey', hc'⟩ := k.records b hb hunacked
    exact ⟨c, hc, hkey'.trans hkey, hc'⟩
  line := h.line.trans k.line

theorem of_same (h : AlarmsGrow u t) (halarm : u.alarm = s.alarm) (hline : u.line = s.line) : AlarmsGrow s t :=
  (of_alarm_eq halarm (.of_line_eq hline)).trans h

/-- A DUMP that is latched, ALARM_RAISED and a record of an own alarm stand through what follows. -/
theorem bandTrip {s₀ : State} {kind : AlarmKind} (h : AlarmsGrow s t) (hlatch : s.alarm.latch = .dump)
    (hevent : HasEvent 5 s) (hlisted : RoomFor 2 s₀ → Listed kind 0 s₀ s) : BandTrip kind s₀ t := by
  refine ⟨?_, h.line.events 5 hevent, fun room => ?_⟩
  · have hle := h.latch
    rw [hlatch] at hle
    revert hle
    cases t.alarm.latch <;> simp [latchCode]
  · obtain ⟨a, ha, hkey, hacked⟩ := hlisted room
    obtain ⟨b, hb, hkey', hunacked⟩ := h.records a ha hacked
    exact ⟨b, hb, hkey'.trans hkey, hunacked⟩

end AlarmsGrow

/-- No raise takes an unacknowledged record out of the list: an eviction takes an acknowledged one (R133). -/
theorem storeRaise_keeps {r : Raise} {u : AlarmUnit} {a : AlarmRecord} (ha : a ∈ u.records) (hacked : a.acked = false) :
    ∃ b ∈ (storeRaise r u).records, keyOf b = keyOf a ∧ b.acked = false := by
  unfold storeRaise
  split
  · refine ⟨if sameKey r a then mergeRecord r a else a, List.mem_map.mpr ⟨a, ha, rfl⟩, ?_⟩
    split
    · exact ⟨rfl, rfl⟩
    · exact ⟨rfl, hacked⟩
  · split
    · exact ⟨a, List.mem_append_left _ ha, rfl, hacked⟩
    · split
      · exact ⟨a, List.mem_append_left _ ((List.mem_eraseP_of_neg (by simp [hacked])).mpr ha), rfl, hacked⟩
      · exact ⟨a, ha, rfl, hacked⟩

theorem storeRaise_room {r : Raise} {u : AlarmUnit} : (storeRaise r u).records.length ≤ u.records.length + 1 := by
  unfold storeRaise
  split
  · simp
  · split
    · simp
    · split
      · simpa using (List.eraseP_sublist (l := u.records) (p := fun a => a.acked)).length_le
      · simp

theorem raiseOwn_records (kind : AlarmKind) (channel : Nat) (action : Latch) (s : State) :
    (raiseOwn kind channel action s).alarm.records =
      (storeRaise (ownRaise kind channel action s) s.alarm).records := by
  rw [raiseOwn, raiseAlarm_records]

theorem raiseOwn_alarmsGrow (kind : AlarmKind) (channel : Nat) (action : Latch) (s : State) :
    AlarmsGrow s (raiseOwn kind channel action s) where
  latch := by simp
  records a ha hacked := by
    rw [raiseOwn_records]
    exact storeRaise_keeps ha hacked
  line := raiseAlarm_lineGrows _ s

theorem extensionExpired_alarmsGrow (s : State) : AlarmsGrow s (extensionExpired s) := by
  have raised : AlarmsGrow s (raiseOwn .noSettle 0 s.cfg.noSettleAction { s with seq.extension := .stopped }) :=
    (raiseOwn_alarmsGrow _ _ _ _).of_same rfl rfl
  unfold extensionExpired
  dsimp only
  split
  · exact raised.trans (.of_alarm_eq (by simp) (becomeDone_lineGrows _))
  · exact raised

theorem startHold_alarmsGrow (left : Nat) (s : State) : AlarmsGrow s (startHold left s) := by
  unfold startHold judgeSettle startExtension
  dsimp only
  split_ifs
  · exact (extensionExpired_alarmsGrow _).of_same rfl rfl
  · exact .of_alarm_eq rfl (.of_line_eq rfl)
  · exact .of_alarm_eq (by simp) ((becomeDone_lineGrows _).of_same_line rfl)
  · exact .of_alarm_eq rfl (.of_line_eq rfl)

theorem sequencerOnLevel_alarmsGrow (s : State) : AlarmsGrow s (sequencerOnLevel s) := by
  unfold sequencerOnLevel
  split
  · refine AlarmsGrow.trans (.of_alarm_eq ?_ ?_) (startHold_alarmsGrow _ _)
    · simp
    · exact (setSequencer_lineGrows { s.seq with phase := some .dwell } s).trans (.of_line_eq (by simp))
  · split
    · exact .of_alarm_eq (by simp) (setSequencer_lineGrows _ s)
    · exact .refl s

theorem overLimitChanged_alarmsGrow (was now : Bool) (s : State) : AlarmsGrow s (overLimitChanged was now s) := by
  unfold overLimitChanged
  split
  · have told := raiseOwn_alarmsGrow .overload 0 .dump s
    exact ⟨by simp, by simpa using told.records, told.line.trans (.of_line_eq (causeOn_line _ _))⟩
  · exact ⟨by simp, fun a ha hacked => ⟨a, by simpa using ha, rfl, hacked⟩, .of_line_eq (by simp)⟩
  · exact .refl s

/-! ### Stage 8 of a tick (R69 to R71) -/

/-- The station as a tick leaves it, with the commands that start behind it (R56, R165). -/
def ticked (code : Int) (s : State) : State :=
  startCommands (servoTickEvent code s)

/-- What follows stage 8 moves neither the servo, nor the causes, and drops no alarm. -/
theorem ticked_after (code : Int) (s : State) :
    AlarmsGrow (servoStages code s) (ticked code s) ∧
      (ticked code s).alarm.causes = (servoStages code s).alarm.causes := by
  refine ⟨?_, by simp [ticked, servoTickEvent]⟩
  have reported := (sequencerOnLevel_alarmsGrow (firstLockRef (servoStages code s))).of_same
    (s := servoStages code s) (by simp) (by simp)
  have tested : LineGrows (tickReported code s) (servoTickEvent code s) := .of_line_eq (by simp [servoTickEvent_eq])
  exact reported.trans (.of_alarm_eq (by simp [ticked, servoTickEvent])
    (tested.trans (StartQuiet.startCommands _).line))

theorem bandStage_servo (s : State) :
    (bandStage s).servo.lagging = laggingAfter s ∧ (bandStage s).servo.overLimit = overLimitAfter s ∧
      (bandStage s).servo.reacquire = s.servo.reacquire ∧ (bandStage s).servo.acc = s.servo.acc ∧
      (bandStage s).servo.tripCount =
        (if 0 < tripCountAfter s ∧ s.cfg.tTrip ≤ tripCountAfter s then 0 else tripCountAfter s) := by
  rw [bandStage_eq]
  unfold overLimitChanged
  split <;> split <;> simp [tripCountReached, bandsJudged]

/-- The reacquire timer runs on through a tick in LIVE, and no stage before the eighth counts (R68, R70). -/
theorem stagesToDrive_counts (code : Int) (s : State) :
    (stagesToDrive code s).servo.reacquire = (if s.act.state = .live then s.servo.reacquire else none) ∧
      (stagesToDrive code s).servo.tripCount = s.servo.tripCount ∧ (stagesToDrive code s).loader = s.loader ∧
      (stagesToDrive code s).line = s.line := by
  have driven (u : State) : (driveStage u).servo.reacquire = u.servo.reacquire ∧
      (driveStage u).servo.tripCount = u.servo.tripCount ∧ (driveStage u).loader = u.loader ∧
      (driveStage u).line = u.line := by
    unfold driveStage; split <;> exact ⟨rfl, rfl, rfl, rfl⟩
  have ramped (floor ceiling : Nat) (u : State) : (rampStage floor ceiling u).servo.reacquire = u.servo.reacquire ∧
      (rampStage floor ceiling u).servo.tripCount = u.servo.tripCount ∧
      (rampStage floor ceiling u).loader = u.loader ∧ (rampStage floor ceiling u).line = u.line := by
    unfold rampStage; split <;> (try split) <;> exact ⟨rfl, rfl, rfl, rfl⟩
  have cleared : (carryClear s.servo).reacquire = s.servo.reacquire ∧
      (carryClear s.servo).tripCount = s.servo.tripCount := by
    unfold carryClear; split <;> exact ⟨rfl, rfl⟩
  by_cases hlive : s.act.state = .live <;>
    simp [stagesToDrive, stagesToError, measureStage, driven, ramped, stopReacquire, hlive, cleared]

/-- What the servo holds after the whole event. -/
theorem ticked_servo (code : Int) (s : State) :
    (ticked code s).servo.lagging = laggingAfter (stagesToDrive code s) ∧
      (ticked code s).servo.overLimit = overLimitAfter (stagesToDrive code s) ∧
      (ticked code s).servo.reacquire = (if s.act.state = .live then s.servo.reacquire else none) ∧
      (ticked code s).servo.tripCount =
        (if 0 < tripCountAfter (stagesToDrive code s) ∧ s.cfg.tTrip ≤ tripCountAfter (stagesToDrive code s) then 0
        else tripCountAfter (stagesToDrive code s)) ∧
      (ticked code s).servo.error = (stagesToDrive code s).servo.error ∧
      (ticked code s).servo.fMeas = (stagesToDrive code s).servo.fMeas := by
  obtain ⟨hlag, hover, hreacquire, -, hcount⟩ := bandStage_servo (stagesToDrive code s)
  simp [ticked, tickReported, servoStages_eq, hlag, hover, hreacquire, hcount, stagesToDrive_counts]

theorem stagesToDrive_alarm (code : Int) (s : State) : (stagesToDrive code s).alarm = s.alarm := by simp

theorem bandsChecked_stagesToDrive (code : Int) (s : State) :
    bandsChecked (stagesToDrive code s) = true ↔ s.act.state = .live ∧ s.servo.reacquire = none := by
  by_cases hlive : s.act.state = .live <;> simp [bandsChecked, stagesToDrive_counts, hlive]

theorem laggingAfter_iff (code : Int) (s : State) :
    laggingAfter (stagesToDrive code s) = true ↔
      (s.act.state = .live ∧ s.servo.reacquire = none) ∧ s.cfg.bTrack < (stagesToDrive code s).servo.error.natAbs := by
  simp [laggingAfter, bandsChecked_stagesToDrive]

/-- The trip count before a raise, by whether the trip band is judged (R70). -/
theorem tripCountAfter_eq (code : Int) (s : State) :
    tripCountAfter (stagesToDrive code s) =
      if (s.act.state = .live ∧ s.servo.reacquire = none ∨ s.act.state = .locking) ∧
          s.cfg.bTrip < (stagesToDrive code s).servo.error.natAbs then s.servo.tripCount + 1
      else 0 := by
  simp [tripCountAfter, bandsChecked_stagesToDrive, stagesToDrive_counts]

theorem overLimitAfter_iff (code : Int) (s : State) :
    overLimitAfter (stagesToDrive code s) = true ↔
      s.act.state ≠ .vented ∧ (s.cfg.fLimit : Int) < (stagesToDrive code s).servo.fMeas := by
  simp [overLimitAfter]

/-- The trip count has reached T_trip in this tick. -/
def countReached (code : Int) (s : State) : Prop :=
  0 < tripCountAfter (stagesToDrive code s) ∧ s.cfg.tTrip ≤ tripCountAfter (stagesToDrive code s)

/-- A count that reaches T_trip raises TRACKING_LOSS with DUMP, which stands through the rest of the event (R70). -/
theorem bandTrip_of_count {code : Int} {s : State} (hcount : countReached code s) :
    BandTrip .trackingLoss s (ticked code s) := by
  have staged : servoStages code s = overLimitChanged s.servo.overLimit (overLimitAfter (stagesToDrive code s))
      (tripCountReached (bandsJudged (stagesToDrive code s))) := by
    rw [servoStages_eq, bandStage_eq, if_pos (by simpa [countReached] using hcount)]
    simp
  obtain ⟨after, -⟩ := ticked_after code s
  have grows := (overLimitChanged_alarmsGrow s.servo.overLimit (overLimitAfter (stagesToDrive code s))
    (tripCountReached (bandsJudged (stagesToDrive code s)))).trans (staged ▸ after)
  refine grows.bandTrip (by simp [tripCountReached, latchMax_dump]) (raiseOwn_event .trackingLoss 0 .dump _)
    fun room => ?_
  have listed : Listed .trackingLoss 0 _ (tripCountReached (bandsJudged (stagesToDrive code s))) := raiseOwn_lists (by
    have hlen : s.alarm.records.length + 2 ≤ 24 := room
    simp only [RoomFor, bandsJudged, stagesToDrive_frame]
    omega)
  simpa [Listed, ownStation, bandsJudged, stagesToDrive_counts] using listed

/-- The station as stage 8 has judged its trip count, the over-limit flag not yet told (R70). -/
def countJudged (s : State) : State :=
  if 0 < tripCountAfter s ∧ s.cfg.tTrip ≤ tripCountAfter s then tripCountReached (bandsJudged s) else bandsJudged s

theorem countJudged_leaves (s : State) :
    (countJudged s).loader = s.loader ∧ (countJudged s).alarm.records.length ≤ s.alarm.records.length + 1 := by
  unfold countJudged
  split
  · refine ⟨by simp [tripCountReached, bandsJudged], ?_⟩
    rw [tripCountReached, raiseOwn_records]
    exact storeRaise_room
  · exact ⟨rfl, Nat.le_succ _⟩

/-- A force that passes F_limit raises OVERLOAD with DUMP, which stands as well (R71). -/
theorem bandTrip_of_overload {code : Int} {s : State} (hwas : s.servo.overLimit = false)
    (hnow : overLimitAfter (stagesToDrive code s) = true) :
    BandTrip .overload s (ticked code s) ∧ Cause.overLimit ∈ (ticked code s).alarm.causes := by
  have held : (stagesToDrive code s).servo.overLimit = false := by simpa using hwas
  have staged : servoStages code s =
      causeOn .overLimit (raiseOwn .overload 0 .dump (countJudged (stagesToDrive code s))) := by
    rw [servoStages_eq, bandStage_eq, hnow, held]
    rfl
  obtain ⟨after, hcauses⟩ := ticked_after code s
  rw [staged] at after hcauses
  obtain ⟨hloader, hlen⟩ := countJudged_leaves (stagesToDrive code s)
  refine ⟨after.bandTrip (by simp [latchMax_dump]) ?_ fun room => ?_, ?_⟩
  · rw [HasEvent, causeOn_line]
    exact raiseOwn_event .overload 0 .dump _
  · have listed : Listed .overload 0 _ (raiseOwn .overload 0 .dump (countJudged (stagesToDrive code s))) :=
      raiseOwn_lists (by
        have hroom : s.alarm.records.length + 2 ≤ 24 := room
        rw [stagesToDrive_alarm] at hlen
        show _ + 1 ≤ 24
        omega)
    simpa [Listed, ownStation, hloader, stagesToDrive_counts] using listed
  · rw [hcauses, mem_causeOn]
    exact .inr rfl

theorem cause_gone_of_overLimit {code : Int} {s : State} (hwas : s.servo.overLimit = true)
    (hnow : overLimitAfter (stagesToDrive code s) = false) : Cause.overLimit ∉ (ticked code s).alarm.causes := by
  obtain ⟨-, hcauses⟩ := ticked_after code s
  have held : (stagesToDrive code s).servo.overLimit = true := by simpa using hwas
  rw [hcauses, servoStages_eq, bandStage_eq, hnow, held, overLimitChanged, mem_causeOff]
  exact fun ⟨_, hne⟩ => hne rfl

/-- Settles O24: the servo by its stages, the two raises by what the rest of the event leaves of them. -/
theorem servoTickJudgesTheBands : Obligations.ServoTickJudgesTheBands := by
  intro s code due hphase htimer hdue
  obtain ⟨hlag, hover, hreacquire, hcount, herror, hmeas⟩ := ticked_servo code (tickDue s)
  refine ⟨ticked code (tickDue s), exec_servoTick hphase htimer hdue, ?_⟩
  rw [hreacquire, herror, hmeas]
  refine ⟨fun hlive hstopped => ?_, fun hother => ?_, fun hjudged => ⟨fun hwithin => ?_, fun hbeyond hfew => ?_,
    fun hbeyond hmany => ?_⟩, fun hunjudged => ?_, fun hstate => ?_, fun hstate => ?_, fun hwas hnow => ?_,
    fun hwas hnow => ?_, rfl⟩
  · rw [hlag, laggingAfter_iff]
    exact and_iff_right ⟨hlive, hstopped⟩
  · rw [hlag, ← Bool.not_eq_true, laggingAfter_iff]
    exact fun ⟨⟨hlive, hstopped⟩, _⟩ => hother.elim (· hlive) (· hstopped)
  · have hnot : ¬ s.cfg.bTrip < (stagesToDrive code (tickDue s)).servo.error.natAbs := Nat.not_lt.mpr hwithin
    have uncounted : tripCountAfter (stagesToDrive code (tickDue s)) = 0 := by
      rw [tripCountAfter_eq]
      exact if_neg fun ⟨_, h⟩ => hnot h
    rw [hcount, uncounted]
    exact if_neg fun ⟨h, _⟩ => lt_irrefl 0 h
  · have counted : tripCountAfter (stagesToDrive code (tickDue s)) = s.servo.tripCount + 1 := by
      rw [tripCountAfter_eq]
      exact if_pos ⟨hjudged, hbeyond⟩
    rw [hcount, counted]
    exact if_neg fun ⟨_, h⟩ => Nat.not_lt.mpr h hfew
  · have counted : tripCountAfter (stagesToDrive code (tickDue s)) = s.servo.tripCount + 1 := by
      rw [tripCountAfter_eq]
      exact if_pos ⟨hjudged, hbeyond⟩
    have reached : countReached code (tickDue s) := by
      rw [countReached, counted]
      exact ⟨Nat.succ_pos _, hmany⟩
    exact ⟨hcount.trans (if_pos reached), bandTrip_of_count (s := tickDue s) reached⟩
  · have uncounted : tripCountAfter (stagesToDrive code (tickDue s)) = 0 := by
      rw [tripCountAfter_eq]
      exact if_neg fun ⟨h, _⟩ => hunjudged h
    rw [hcount, uncounted]
    exact if_neg fun ⟨h, _⟩ => lt_irrefl 0 h
  · rw [hover, overLimitAfter_iff]
    exact and_iff_right hstate
  · rw [hover, ← Bool.not_eq_true, overLimitAfter_iff]
    exact fun ⟨hnot, _⟩ => hnot hstate
  · obtain ⟨htrip, hcause⟩ := bandTrip_of_overload (s := tickDue s) hwas (hover.symm.trans hnow)
    exact ⟨hcause, htrip⟩
  · exact cause_gone_of_overLimit (s := tickDue s) hwas (hover.symm.trans hnow)

end Sys2Proof.Machine

/-! What a servo tick does to the level, and what it hands to the sequencer (O23). -/
namespace Sys2Proof.Machine

open Sys2Proof

-- One proof after the other: the threads of the check, which compiles the whole text at once, share one memory limit.
set_option Elab.async false

/-! ### Stages 1 and 2 (R58 to R60) -/

theorem moveLevel_up {lam acc target rate lead floor ceiling : Nat} (h : lam < target) :
    moveLevel lam acc target rate lead floor ceiling =
      (if min (lam + (acc + rate) / 1000) target ≤ floor + lead then min (lam + (acc + rate) / 1000) target
        else if lam ≤ floor + lead then floor + lead else lam,
        if lam + (acc + rate) / 1000 ≤ target ∧ lam + (acc + rate) / 1000 ≤ floor + lead then (acc + rate) % 1000
        else 0) :=
  if_pos h

theorem moveLevel_down {lam acc target rate lead floor ceiling : Nat} (h : target ≤ lam) :
    moveLevel lam acc target rate lead floor ceiling =
      (clampDown lam target ((ceiling : Int) - lead) ((lam : Int) - ((acc + rate) / 1000 : Nat)),
        if (target : Int) ≤ (lam : Int) - ((acc + rate) / 1000 : Nat) ∧
            (ceiling : Int) - lead ≤ (lam : Int) - ((acc + rate) / 1000 : Nat) then (acc + rate) % 1000
        else 0) :=
  if_neg (Nat.not_lt.mpr h)

theorem clampDown_eq (lam target : Nat) (bound candidate : Int) :
    (clampDown lam target bound candidate : Int) =
      if bound ≤ max candidate target then max candidate target else if bound ≤ lam then bound else lam := by
  unfold clampDown
  dsimp only
  split
  · omega
  · split <;> omega

/-- A rise ends at or below the floor and its lead, a fall at or above the ceiling less it (R60). -/
theorem moveLevel_bounds (lam acc target rate lead floor ceiling : Nat) :
    (lam < (moveLevel lam acc target rate lead floor ceiling).1 →
        (moveLevel lam acc target rate lead floor ceiling).1 ≤ floor + lead) ∧
      ((moveLevel lam acc target rate lead floor ceiling).1 < lam →
        ceiling ≤ (moveLevel lam acc target rate lead floor ceiling).1 + lead) := by
  rcases Nat.lt_or_ge lam target with h | h
  · rw [moveLevel_up h]
    dsimp only
    split_ifs <;> omega
  · have moved := clampDown_eq lam target ((ceiling : Int) - lead) ((lam : Int) - ((acc + rate) / 1000 : Nat))
    rw [moveLevel_down h]
    dsimp only
    split_ifs at moved <;> omega

theorem moveLevel_fall {lam acc target rate lead floor ceiling : Nat} (h : target ≤ lam) :
    (moveLevel lam acc target rate lead floor ceiling).1 ≤ lam := by
  have moved := clampDown_eq lam target ((ceiling : Int) - lead) ((lam : Int) - ((acc + rate) / 1000 : Nat))
  rw [moveLevel_down h]
  dsimp only
  split_ifs at moved <;> omega

/-- The servo moves in this tick: LIVE, without LAGGING, under a permission (R53, R58). -/
def Moves (target rate : Nat) (s : State) : Prop :=
  permission s = some (target, rate) ∧ s.act.state = .live ∧ s.servo.lagging = false

theorem rampStage_of_moves {target rate floor ceiling : Nat} {s : State} (h : Moves target rate s) :
    (rampStage floor ceiling s).servo.lam =
        (moveLevel s.servo.lam s.servo.acc target rate s.cfg.lead floor ceiling).1 ∧
      (rampStage floor ceiling s).servo.acc =
        (moveLevel s.servo.lam s.servo.acc target rate s.cfg.lead floor ceiling).2 := by
  obtain ⟨hp, hlive, hlag⟩ := h
  simp [rampStage, hp, hlive, hlag]

theorem rampStage_of_rest {floor ceiling : Nat} {s : State} (h : ∀ target rate, ¬ Moves target rate s) :
    rampStage floor ceiling s = s := by
  unfold rampStage
  split
  · rename_i target rate hp
    exact if_neg fun ⟨hlive, hlag⟩ => h target rate ⟨hp, hlive, hlag⟩
  · rfl

/-! ### The level that a tick leaves -/

/-- The station as the stages find it, a pending clear order carried out (R56, R57). -/
def tickCleared (code : Int) (s : State) : State :=
  stopReacquire { s with servo := carryClear s.servo, pins.loadCode := code }

theorem ticked_level (code : Int) (s : State) :
    (ticked code s).servo.lam =
        (rampStage (lambdaFloor s) (lambdaCeiling s) (tickCleared code s)).servo.lam ∧
      (ticked code s).servo.acc =
        (rampStage (lambdaFloor s) (lambdaCeiling s) (tickCleared code s)).servo.acc := by
  obtain ⟨-, -, -, hacc, -⟩ := bandStage_servo (stagesToDrive code s)
  have driven (u : State) : (driveStage u).servo.acc = u.servo.acc := by
    unfold driveStage; split <;> rfl
  refine ⟨by simp [ticked, stagesToDrive, stagesToError, measureStage, tickCleared], ?_⟩
  have hstages : (stagesToDrive code s).servo.acc =
      (rampStage (lambdaFloor s) (lambdaCeiling s) (tickCleared code s)).servo.acc := driven _
  simp [ticked, tickReported, servoStages_eq, hacc, hstages]

theorem tickCleared_servo (code : Int) (s : State) :
    (tickCleared code s).servo.lam = (if s.servo.clearOrder then 0 else s.servo.lam) ∧
      (tickCleared code s).servo.acc = (if s.servo.clearOrder then 0 else s.servo.acc) ∧
      (tickCleared code s).servo.lagging = s.servo.lagging := by
  unfold tickCleared stopReacquire carryClear
  cases s.servo.clearOrder <;> (dsimp only; split <;> exact ⟨rfl, rfl, rfl⟩)

theorem moves_tickCleared {code : Int} {target rate : Nat} {s : State} :
    Moves target rate (tickCleared code s) ↔ Moves target rate s := by
  obtain ⟨-, -, hlag⟩ := tickCleared_servo code s
  simp only [Moves, hlag]
  simp [tickCleared, permission]

/-- The level and the accumulator that a moving tick starts from: 0 where a clear order is pending (R57, R58). -/
theorem ticked_of_moves {code : Int} {target rate : Nat} {s : State} (h : Moves target rate s) :
    (ticked code s).servo.lam =
        (moveLevel (if s.servo.clearOrder then 0 else s.servo.lam) (if s.servo.clearOrder then 0 else s.servo.acc)
          target rate s.cfg.lead (lambdaFloor s) (lambdaCeiling s)).1 ∧
      (ticked code s).servo.acc =
        (moveLevel (if s.servo.clearOrder then 0 else s.servo.lam) (if s.servo.clearOrder then 0 else s.servo.acc)
          target rate s.cfg.lead (lambdaFloor s) (lambdaCeiling s)).2 := by
  obtain ⟨hlam, hacc, -⟩ := tickCleared_servo code s
  obtain ⟨mlam, macc⟩ := rampStage_of_moves (floor := lambdaFloor s) (ceiling := lambdaCeiling s)
    (moves_tickCleared (code := code).mpr h)
  obtain ⟨tlam, tacc⟩ := ticked_level code s
  have hcfg : (tickCleared code s).cfg = s.cfg := by simp [tickCleared]
  rw [tlam, tacc, mlam, macc, hlam, hacc, hcfg]
  exact ⟨rfl, rfl⟩

theorem ticked_of_rest {code : Int} {s : State} (h : ∀ target rate, ¬ Moves target rate s) :
    (ticked code s).servo.lam = (if s.servo.clearOrder then 0 else s.servo.lam) ∧
      (ticked code s).servo.acc = (if s.servo.clearOrder then 0 else s.servo.acc) := by
  obtain ⟨hlam, hacc, -⟩ := tickCleared_servo code s
  obtain ⟨tlam, tacc⟩ := ticked_level code s
  rw [tlam, tacc, rampStage_of_rest fun target rate hm => h target rate (moves_tickCleared.mp hm)]
  exact ⟨hlam, hacc⟩

/-! ### The permission of the sequencer (R53) -/

theorem permission_of_ramp {s : State} {w : WorkingCopy} (hrun : s.seq.state = .run) (hphase : s.seq.phase = some .ramp)
    (hwork : s.seq.work = some w) : permission s = some (w.target, w.rate) := by
  simp [permission, hrun, hphase, hwork]

theorem permission_of_unloading {s : State} (h : s.seq.state = .unloading) :
    permission s = some (0, s.cfg.unloadRate) := by
  simp [permission, h]

theorem permission_of_rest {s : State} (h : ¬ (s.seq.state = .run ∧ s.seq.phase = some .ramp))
    (hu : s.seq.state ≠ .unloading) : permission s = none := by
  unfold permission
  split
  · rename_i hrun hphase _
    exact absurd ⟨hrun, hphase⟩ h
  · rename_i hunloading
    exact absurd hunloading hu
  · rfl

/-- Out of RUN the only permission is that of UNLOADING, to 0 (R47, R53). -/
theorem permission_out_of_run {s : State} {target rate : Nat} (h : s.seq.state ≠ .run)
    (hp : permission s = some (target, rate)) : target = 0 := by
  by_cases hu : s.seq.state = .unloading
  · rw [permission_of_unloading hu] at hp
    cases hp
    rfl
  · rw [permission_of_rest (fun hr => h hr.1) hu] at hp
    cases hp

/-! ### Every SERVO_TICK, due or early (R56; log entry 2) -/

/-- The station at the moment of its tick, with the servo timer reloaded. -/
def tickAt (due : Nat) (s : State) : State :=
  { advanceTo due s with servo.timer := some ((advanceTo due s).age + 10) }

theorem tickAt_of_due {due : Nat} {s : State} (h : due ≤ s.age) : tickAt due s = tickDue s := by
  rw [tickAt, advanceTo_of_le h]
  rfl

@[simp] theorem tickAt_frame (due : Nat) (s : State) :
    (tickAt due s).servo.lam = s.servo.lam ∧ (tickAt due s).servo.acc = s.servo.acc ∧
      (tickAt due s).servo.clearOrder = s.servo.clearOrder ∧ lambdaFloor (tickAt due s) = lambdaFloor s ∧
      lambdaCeiling (tickAt due s) = lambdaCeiling s ∧ (tickAt due s).cfg = s.cfg ∧ (tickAt due s).seq = s.seq ∧
      permission (tickAt due s) = permission s ∧
      ∀ target rate, Moves target rate (tickAt due s) ↔ Moves target rate s := by
  unfold tickAt advanceTo
  split <;> exact ⟨rfl, rfl, rfl, rfl, rfl, rfl, rfl, rfl, fun _ _ => Iff.rfl⟩

/-- A SERVO_TICK of a station without a servo timer changes nothing of the servo; any other is a tick. -/
theorem exec_servoTick_cases {code : Int} {s t : State} (h : exec (.servoTick code) s = .next t) :
    t = startCommands s ∨ ∃ due, t = ticked code (tickAt due s) := by
  obtain rfl : startCommands (timerEvent s.servo.timer (servoTimerExpires code) s) = t := Host.Outcome.next.inj h
  unfold timerEvent whenRunning onExpiry
  split
  · split
    · exact .inr ⟨_, rfl⟩
    · exact .inl rfl
  · exact .inl rfl

/-! ### A tick that does not raise the latch leaves the sequencer to the level (R72) -/

/-- Nothing of the sequencer, the scanner and the commands has changed. -/
def Unmoved (s t : State) : Prop :=
  t.seq = s.seq ∧ t.scan = s.scan ∧ t.cmd = s.cmd

theorem raiseOwn_dump_unmoved {kind : AlarmKind} {channel : Nat} {s : State} (h : s.alarm.latch = .dump) :
    Unmoved s (raiseOwn kind channel .dump s) := by
  have same : latchMax s.alarm.latch (ownRaise kind channel .dump s).action = s.alarm.latch := by
    rw [h]
    rfl
  rw [raiseOwn, raiseAlarm_eq, if_pos same]
  simp [Unmoved]

/-- Stage 8 moves no more than the latch allows: a DUMP that stands already is not handed on again (R134, R135). -/
theorem countJudged_unmoved {s : State}
    (h : s.alarm.latch = .dump ∨ ¬ (0 < tripCountAfter s ∧ s.cfg.tTrip ≤ tripCountAfter s)) :
    Unmoved s (countJudged s) ∧ (countJudged s).alarm.latch = s.alarm.latch := by
  unfold countJudged
  split
  · rename_i hreached
    have hdump := h.resolve_right (not_not_intro hreached)
    refine ⟨raiseOwn_dump_unmoved (s := { bandsJudged s with servo.tripCount := 0 }) hdump, ?_⟩
    simp [tripCountReached, bandsJudged, hdump, latchMax_dump]
  · exact ⟨⟨rfl, rfl, rfl⟩, rfl⟩

theorem countJudged_latch_of_reached {s : State} (h : 0 < tripCountAfter s ∧ s.cfg.tTrip ≤ tripCountAfter s) :
    (countJudged s).alarm.latch = .dump := by
  rw [countJudged, if_pos h]
  simp [tripCountReached, latchMax_dump]

theorem bandStage_countJudged (s : State) :
    bandStage s = overLimitChanged s.servo.overLimit (overLimitAfter s) (countJudged s) :=
  bandStage_eq s

theorem overLimitChanged_unmoved {was now : Bool} {s : State}
    (h : (overLimitChanged was now s).alarm.latch = s.alarm.latch) : Unmoved s (overLimitChanged was now s) := by
  unfold overLimitChanged at h ⊢
  split at h
  · have hdump : s.alarm.latch = .dump := by simpa [latchMax_dump] using h.symm
    simpa [Unmoved] using raiseOwn_dump_unmoved hdump
  · simp [Unmoved]
  · exact ⟨rfl, rfl, rfl⟩

theorem bandStage_unmoved {s : State} (h : (bandStage s).alarm.latch = s.alarm.latch) : Unmoved s (bandStage s) := by
  have grows := overLimitChanged_alarmsGrow s.servo.overLimit (overLimitAfter s) (countJudged s)
  rw [bandStage_countJudged] at h ⊢
  have unrisen : s.alarm.latch = .dump ∨ ¬ (0 < tripCountAfter s ∧ s.cfg.tTrip ≤ tripCountAfter s) := by
    by_cases hreached : 0 < tripCountAfter s ∧ s.cfg.tTrip ≤ tripCountAfter s
    · have hle := grows.latch
      rw [countJudged_latch_of_reached hreached, h] at hle
      left
      revert hle
      cases s.alarm.latch <;> decide
    · exact .inr hreached
  obtain ⟨⟨hseq, hscan, hcmd⟩, hlatch⟩ := countJudged_unmoved unrisen
  obtain ⟨oseq, oscan, ocmd⟩ := overLimitChanged_unmoved (h.trans hlatch.symm)
  exact ⟨oseq.trans hseq, oscan.trans hscan, ocmd.trans hcmd⟩

theorem countJudged_alarmsGrow (s : State) : AlarmsGrow s (countJudged s) := by
  unfold countJudged
  split
  · exact (raiseOwn_alarmsGrow .trackingLoss 0 .dump { bandsJudged s with servo.tripCount := 0 }).of_same rfl rfl
  · exact .of_alarm_eq rfl (.of_line_eq rfl)

theorem stagesToDrive_unmoved (code : Int) (s : State) : Unmoved s (stagesToDrive code s) := by
  have driven (u : State) : Unmoved u (driveStage u) := by
    unfold driveStage; split <;> exact ⟨rfl, rfl, rfl⟩
  have ramped (floor ceiling : Nat) (u : State) : Unmoved u (rampStage floor ceiling u) := by
    unfold rampStage; split <;> (try split) <;> exact ⟨rfl, rfl, rfl⟩
  have cleared : Unmoved s (tickCleared code s) := by
    unfold tickCleared stopReacquire; split <;> exact ⟨rfl, rfl, rfl⟩
  obtain ⟨dseq, dscan, dcmd⟩ := driven (stagesToError code s)
  obtain ⟨rseq, rscan, rcmd⟩ := ramped (lambdaFloor s) (lambdaCeiling s) (tickCleared code s)
  obtain ⟨cseq, cscan, ccmd⟩ := cleared
  exact ⟨dseq.trans (rseq.trans cseq), dscan.trans (rscan.trans cscan), dcmd.trans (rcmd.trans ccmd)⟩

/-- The station as the sequencer is told of its level, behind the stages of the tick (R72, R94). -/
def levelTold (code : Int) (s : State) : State :=
  firstLockRef (servoStages code s)

@[simp] theorem levelTold_frame (code : Int) (s : State) :
    (levelTold code s).age = s.age ∧ (levelTold code s).cfg = s.cfg ∧
      (levelTold code s).servo.lam = (ticked code s).servo.lam := by
  simp [levelTold, servoStages_eq, ticked]

theorem levelTold_unmoved {code : Int} {s : State} (hlatch : (ticked code s).alarm.latch = s.alarm.latch) :
    Unmoved s (levelTold code s) := by
  obtain ⟨after, -⟩ := ticked_after code s
  obtain ⟨dseq, dscan, dcmd⟩ := stagesToDrive_unmoved code s
  have before : AlarmsGrow (stagesToDrive code s) (servoStages code s) :=
    (countJudged_alarmsGrow _).trans (overLimitChanged_alarmsGrow _ _ _)
  have below := before.latch
  have above := after.latch
  rw [hlatch] at above
  rw [stagesToDrive_alarm] at below
  have kept : (bandStage (stagesToDrive code s)).alarm.latch = (stagesToDrive code s).alarm.latch := by
    rw [stagesToDrive_alarm]
    exact latchCode_injective (Nat.le_antisymm above below)
  obtain ⟨bseq, bscan, bcmd⟩ := bandStage_unmoved kept
  simp [levelTold, servoStages_eq, Unmoved, bseq, bscan, bcmd, dscan, dcmd]

/-- With no command to start the event ends with the acquisition test, which moves the actuator unit only. -/
theorem ticked_eq {code : Int} {s : State} (hflow : CommandsFlow s)
    (hcmd : (sequencerOnLevel (levelTold code s)).cmd = s.cmd) :
    Unmoved (sequencerOnLevel (levelTold code s)) (ticked code s) := by
  have quiet : ticked code s = servoTickEvent code s := startCommands_of_flow hflow (by
    simpa [servoTickEvent, levelTold] using hcmd)
  rw [quiet]
  simp [Unmoved, servoTickEvent, levelTold]

/-- The station with its sequencer in DWELL, the scanner not yet told (R38). -/
def inDwellPhase (s : State) : State :=
  setSequencer { s.seq with phase := some .dwell } s

@[simp] theorem inDwellPhase_frame (s : State) :
    (inDwellPhase s).age = s.age ∧ (inDwellPhase s).cfg = s.cfg ∧ (inDwellPhase s).scan = s.scan ∧
      (inDwellPhase s).cmd = s.cmd := by
  simp [inDwellPhase]

theorem sequencerOnLevel_of_ramp {s : State} {w : WorkingCopy} {left : Nat} (hrun : s.seq.state = .run)
    (hphase : s.seq.phase = some .ramp) (hwork : s.seq.work = some w) (hlam : s.servo.lam = w.target)
    (hhold : s.seq.hold = .paused left) (hleft : 0 < left) :
    sequencerOnLevel s =
      { dwellEntered (inDwellPhase s) with
        seq := { s.seq with phase := some .dwell, hold := .running (s.age + left) } } := by
  have ends : rampEnds s = true := by simp [rampEnds, hrun, hphase, hwork, hlam]
  rw [sequencerOnLevel, if_pos ends, startDwell, hhold]
  refine (if_neg hleft.ne').trans ?_
  simp [timeLeft, inDwellPhase]

theorem unloadingEnds_seq (s : State) :
    (unloadingEnds s).seq =
      { s.seq with state := .idle, phase := none, step := 0, segment := 0, counters := List.replicate 32 0 } := by
  simp [unloadingEnds]

theorem sequencerOnLevel_of_unloaded {s : State} (hstate : s.seq.state = .unloading) (hlam : s.servo.lam = 0) :
    sequencerOnLevel s = unloadingEnds s := by
  rw [sequencerOnLevel, if_neg (by simp [rampEnds, hstate]), if_pos ⟨hstate, hlam⟩]

theorem sequencerOnLevel_of_underway {s : State} (hunloading : s.seq.state = .unloading → s.servo.lam ≠ 0)
    (hramp : s.seq.state = .run → s.seq.phase = some .ramp → ∀ w, s.seq.work = some w → s.servo.lam ≠ w.target) :
    sequencerOnLevel s = s := by
  have goesOn : rampEnds s = false := by
    by_contra hends
    rw [Bool.not_eq_false, rampEnds, Bool.and_eq_true, decide_eq_true_eq] at hends
    obtain ⟨⟨hrun, hphase⟩, hlevel⟩ := hends
    cases hwork : s.seq.work with
    | none => rw [hwork] at hlevel; cases hlevel
    | some w => exact hramp hrun hphase w hwork (by simpa [hwork] using hlevel)
  rw [sequencerOnLevel, goesOn, if_neg Bool.false_ne_true, if_neg fun ⟨hstate, hlam⟩ => hunloading hstate hlam]

theorem ticked_of_exec {code : Int} {s t : State} {due : Nat} (hphase : s.loader.phase = .running)
    (htimer : s.servo.timer = some due) (hdue : due ≤ s.age) (hexec : exec (.servoTick code) s = .next t) :
    t = ticked code (tickDue s) :=
  Host.Outcome.next.inj (hexec.symm.trans (exec_servoTick hphase htimer hdue))

/-- A rise of λ in a tick is a move, and a fall is one or the carrying out of a clear order (R57, R58). -/
theorem ticked_bounds (code : Int) (s : State) :
    (s.servo.lam < (ticked code s).servo.lam → (ticked code s).servo.lam ≤ lambdaFloor s + s.cfg.lead) ∧
      ((ticked code s).servo.lam < s.servo.lam → s.servo.clearOrder = false →
        lambdaCeiling s ≤ (ticked code s).servo.lam + s.cfg.lead) := by
  by_cases hmoves : ∃ target rate, Moves target rate s
  · obtain ⟨target, rate, hmoves⟩ := hmoves
    obtain ⟨hlam, -⟩ := ticked_of_moves (code := code) hmoves
    obtain ⟨hrise, hfall⟩ := moveLevel_bounds (if s.servo.clearOrder then 0 else s.servo.lam)
      (if s.servo.clearOrder then 0 else s.servo.acc) target rate s.cfg.lead (lambdaFloor s) (lambdaCeiling s)
    rw [← hlam] at hrise hfall
    refine ⟨fun h => hrise (lt_of_le_of_lt ?_ h), fun h hclear => hfall (by simpa [hclear] using h)⟩
    split <;> omega
  · obtain ⟨hlam, -⟩ := ticked_of_rest (code := code) fun target rate hm => hmoves ⟨target, rate, hm⟩
    rw [hlam]
    refine ⟨fun h => ?_, fun h hclear => by simp [hclear] at h⟩
    split at h <;> omega

/-- Out of RUN a tick does not raise λ: its only target is 0 (R47, R60). -/
theorem ticked_falls {code : Int} {s : State} (h : s.seq.state ≠ .run) : (ticked code s).servo.lam ≤ s.servo.lam := by
  by_cases hmoves : ∃ target rate, Moves target rate s
  · obtain ⟨target, rate, hmoves⟩ := hmoves
    obtain ⟨hlam, -⟩ := ticked_of_moves (code := code) hmoves
    obtain ⟨hp, -, -⟩ := hmoves
    rw [hlam, permission_out_of_run h hp]
    refine (moveLevel_fall (Nat.zero_le _)).trans ?_
    split <;> omega
  · obtain ⟨hlam, -⟩ := ticked_of_rest (code := code) fun target rate hm => hmoves ⟨target, rate, hm⟩
    rw [hlam]
    split <;> omega

theorem channelAt_of_scan {c : Nat} {s t : State} (h : t.scan = s.scan) : channelAt c t = channelAt c s := by
  rw [channelAt, h]
  rfl

/-- Settles O23: the move by `moveLevel`, then what is handed to the sequencer. -/
theorem servoTickMovesTheLevel : Obligations.ServoTickMovesTheLevel := by
  refine ⟨?rise, ?fall, ?rest, ?clear, ?bounds, ?latched, ?dwell, ?unloaded, ?underway⟩
  case rise =>
    intro s t code due w hphase htimer hdue hclear hlive hlag hrun hramp hwork hbelow hexec
    obtain ⟨hlam, hacc⟩ := ticked_of_moves (code := code) (s := tickDue s)
      ⟨permission_of_ramp hrun hramp hwork, hlive, hlag⟩
    have going : (tickDue s).servo.clearOrder = false := hclear
    rw [going, if_neg Bool.false_ne_true, if_neg Bool.false_ne_true, moveLevel_up (by exact hbelow)] at hlam hacc
    rw [ticked_of_exec hphase htimer hdue hexec, hlam, hacc]
    exact ⟨rfl, rfl⟩
  case fall =>
    intro s t code due target rate hphase htimer hdue hclear hlive hlag hpermission hbelow hexec
    have permitted : permission s = some (target, rate) := by
      rcases hpermission with ⟨hu, rfl, rfl⟩ | ⟨hrun, hramp, w, hwork, rfl, rfl⟩
      · exact permission_of_unloading hu
      · exact permission_of_ramp hrun hramp hwork
    obtain ⟨hlam, hacc⟩ := ticked_of_moves (code := code) (s := tickDue s) ⟨permitted, hlive, hlag⟩
    have going : (tickDue s).servo.clearOrder = false := hclear
    rw [going, if_neg Bool.false_ne_true, if_neg Bool.false_ne_true, moveLevel_down (by exact hbelow)] at hlam hacc
    rw [ticked_of_exec hphase htimer hdue hexec, hlam, hacc]
    exact ⟨clampDown_eq _ _ _ _, rfl⟩
  case rest =>
    intro s t code hphase hclear hrest hexec
    have still (target rate : Nat) : ¬ Moves target rate s := fun ⟨hp, hlive, hlag⟩ => by
      rcases hrest with h | h | ⟨hr, hu⟩
      · exact h hlive
      · rw [h] at hlag; cases hlag
      · rw [permission_of_rest hr hu] at hp; cases hp
    rcases exec_servoTick_cases hexec with rfl | ⟨due, rfl⟩
    · simp
    · obtain ⟨hlam, hacc⟩ := ticked_of_rest (code := code) (s := tickAt due s) fun target rate hm =>
        still target rate (by simpa using hm)
      rw [hlam, hacc]
      simp [hclear]
  case clear =>
    intro s t code due hphase htimer hdue hclear hlive hexec
    obtain ⟨hlam, hacc⟩ := ticked_of_rest (code := code) (s := tickDue s) fun _ _ ⟨_, hl, _⟩ => hlive hl
    have pending : (tickDue s).servo.clearOrder = true := hclear
    rw [pending] at hlam hacc
    rw [ticked_of_exec hphase htimer hdue hexec]
    refine ⟨hlam, hacc, fun hdrive => ?_⟩
    obtain ⟨-, -, hintegral⟩ := stagesToDrive_of_no_drive code (s := tickDue s) hdrive
    simp [ticked, hintegral, heldIntegral, pending]
  case bounds =>
    intro s t code hexec
    rcases exec_servoTick_cases hexec with rfl | ⟨due, rfl⟩
    · simp
    · simpa using ticked_bounds code (tickAt due s)
  case latched =>
    intro s t code hlatch hhold hexec
    rcases exec_servoTick_cases hexec with rfl | ⟨due, rfl⟩
    · simp
    · simpa using ticked_falls (code := code) (s := tickAt due s) (by simpa using hlatch hhold)
  case dwell =>
    intro s t code due left w hphase htimer hdue hflow hrun hramp hwork hhold hleft hexec hlatch hlam
    obtain rfl := ticked_of_exec hphase htimer hdue hexec
    obtain ⟨hseq, hscan, hcmd⟩ := levelTold_unmoved (s := tickDue s) hlatch
    obtain ⟨hage, hcfg, hlevel⟩ := levelTold_frame code (tickDue s)
    have told := sequencerOnLevel_of_ramp (s := levelTold code (tickDue s)) (by rw [hseq]; exact hrun)
      (by rw [hseq]; exact hramp) (by rw [hseq]; exact hwork) (hlevel.trans hlam) (by rw [hseq]; exact hhold) hleft
    obtain ⟨useq, uscan, -⟩ := ticked_eq (code := code) (s := tickDue s) hflow (by rw [told]; simpa using hcmd)
    obtain ⟨hsettled, hwindow, hrefs, hnone, -, -⟩ := dwellEntered_afresh
      (inDwellPhase (levelTold code (tickDue s)))
    obtain ⟨-, dcfg, dscan, -⟩ := inDwellPhase_frame (levelTold code (tickDue s))
    have base (c : Nat) : channelAt c (inDwellPhase (levelTold code (tickDue s))) = channelAt c s :=
      channelAt_of_scan (dscan.trans hscan)
    have checked (c : Nat) : SettleChecked c (inDwellPhase (levelTold code (tickDue s))) ↔ SettleChecked c s := by
      simp only [SettleChecked, base, channelCfg, dcfg, hcfg]
      rfl
    have after (c : Nat) : channelAt c (ticked code (tickDue s)) =
        channelAt c (dwellEntered (inDwellPhase (levelTold code (tickDue s)))) :=
      channelAt_of_scan (by rw [uscan, told])
    refine ⟨?_, ?_, ?_, fun c hc => ?_, fun c hc => ?_⟩
    · rw [useq, told, hseq, hage]
      rfl
    · rw [uscan, told]
      exact hsettled
    · rw [uscan, told]
      refine hwindow.trans ?_
      simp [tickDue]
    · rw [after, hrefs c ((checked c).mpr hc), base]
    · rw [after, hnone c fun h => hc ((checked c).mp h)]
  case unloaded =>
    intro s t code due hphase htimer hdue hflow hunloading hexec hlatch hlam
    obtain rfl := ticked_of_exec hphase htimer hdue hexec
    obtain ⟨hseq, -, hcmd⟩ := levelTold_unmoved (s := tickDue s) hlatch
    obtain ⟨-, -, hlevel⟩ := levelTold_frame code (tickDue s)
    have told := sequencerOnLevel_of_unloaded (s := levelTold code (tickDue s)) (by rw [hseq]; exact hunloading)
      (hlevel.trans hlam)
    obtain ⟨useq, -, -⟩ := ticked_eq (code := code) (s := tickDue s) hflow (by rw [told]; simpa using hcmd)
    rw [useq, told, unloadingEnds_seq, hseq]
    rfl
  case underway =>
    intro s t code due hphase htimer hdue hflow hexec hlatch hunloading hramp
    obtain rfl := ticked_of_exec hphase htimer hdue hexec
    obtain ⟨hseq, -, hcmd⟩ := levelTold_unmoved (s := tickDue s) hlatch
    obtain ⟨-, -, hlevel⟩ := levelTold_frame code (tickDue s)
    have told := sequencerOnLevel_of_underway (s := levelTold code (tickDue s))
      (by rw [hseq, hlevel]; exact hunloading) (by rw [hseq, hlevel]; exact hramp)
    obtain ⟨useq, -, -⟩ := ticked_eq (code := code) (s := tickDue s) hflow (by rw [told]; exact hcmd)
    rw [useq, told, hseq]
    rfl

end Sys2Proof.Machine

/-! The queued commands that start on an idle queue (O48 to O50), the form of a command telegram (O41), and the commands
that answer in their event (O46). -/
namespace Sys2Proof.Machine

open Sys2Proof

-- One proof after the other: the threads of the check, which compiles the whole text at once, share one memory limit.
set_option Elab.async false

/-! ### A queued command on an idle queue (R164, R165) -/

/-- The station with a queued command in progress, before its owner judges it. -/
def begun (kind : QueuedKind) (head : CommandHead) (s : State) : State :=
  { s with cmd.current := some { kind := kind, console := head.sender } }

theorem exec_of_idle {c : Instr} {head : CommandHead} {kind : QueuedKind} {s : State}
    (hc : queuedOf c = some (head, kind)) (taken : Taken head 0 s) (idle : QueueIdle s) :
    exec c s = .next (judgeQueued kind (begun kind head s)) := by
  obtain ⟨hqueue, hcurrent⟩ := idle
  obtain ⟨hphase, -⟩ := id taken
  have alone : s.cmd.queue ++ [{ kind := kind, console := head.sender }] =
      [{ kind := kind, console := head.sender }] := by rw [hqueue]; rfl
  have same : ({ s with cmd.queue := [], cmd.current := some { kind := kind, console := head.sender } } : State) =
      begun kind head s := by rw [← hqueue]; rfl
  have starts := startCommands_of_waiting (s := { s with cmd.queue := [{ kind := kind, console := head.sender }] })
    hphase hcurrent rfl
  rw [exec_queued hc taken, enqueue_of_room (by rw [hqueue]; decide), alone, starts]
  refine congrArg Host.Outcome.next ((startCommands_of_empty ?_).trans (congrArg (judgeQueued kind) same))
  simp

/-- The judgement that ends the command at once: its REPLY in the queue, COMMAND_DONE, and the queue idle again. -/
theorem endCommand_begun {kind : QueuedKind} {head : CommandHead} {result : ReplyResult} {reason : Reason} {s : State}
    (hroom : s.line.replyQ.length < 4) (hcurrent : s.cmd.current = none) :
    endCommand result reason (begun kind head s) = concluded head (queuedKindCode kind) result reason s := by
  rw [endCommand_of_some (q := { kind := kind, console := head.sender }) rfl, placeLateReply_of_room (by exact hroom)]
  simp [concluded, setEvent, begun, placeReply, replied, ← hcurrent]
  rfl

theorem enterState_of_rest {st : ActState} {iso dump lockCmd : Bool} {s : State} (hst : st ≠ .live)
    (h : s.act.state = .live → s.seq.state ≠ .run) :
    enterState st iso dump lockCmd s = setActuator st iso dump lockCmd s := by
  refine (if_neg (by exact hst)).trans (if_neg fun ⟨hlive, hrun⟩ => ?_)
  exact h (of_decide_eq_true hlive) hrun

/-! ### CHARGE and UNLOCK (R76, R81, R88, R89) -/

/-- The station in the wait of the command, before it consults its charge list. -/
def waiting (p : ChargePurpose) (kind : QueuedKind) (head : CommandHead) (s : State) : State :=
  setActuator .waitWindow s.pins.iso s.pins.dump s.pins.lockCmd { begun kind head s with act.purpose := some p }

theorem enterWait_begun {kind : QueuedKind} {head : CommandHead} {p : ChargePurpose} {s : State}
    (hstate : s.act.state ≠ .live) (hnone : NoOwnCharge s) (hslot : s.line.chargeSlot = none) :
    enterWait p (begun kind head s) =
      { s with
        cmd.current := some { kind := kind, console := head.sender }
        act.state := .waitWindow
        act.purpose := some p
        act.chargeList := inWindow s
        act.ownPlaced := if (inWindow s).length < 4 then some true else s.act.ownPlaced
        line.chargeSlot := if (inWindow s).length < 4 then some p else none
        pins.drive := 0 } := by
  have waits : enterWait p (begun kind head s) = judgeWait (waiting p kind head s) :=
    congrArg judgeWait (enterState_of_rest (by decide) fun h => absurd h hstate)
  rw [waits]
  by_cases hfew : (inWindow s).length < 4
  · refine (judgeWait_of_room (s := waiting p kind head s) (p := p) rfl hnone rfl hslot hfew).trans ?_
    rw [if_pos hfew, if_pos hfew]
    rfl
  · refine (judgeWait_of_rest (s := waiting p kind head s) (.inr (.inr (Nat.not_lt.mp hfew)))).trans ?_
    rw [if_neg hfew, if_neg hfew, ← hslot]
    rfl

/-- Settles O48: the refusals in the order of Table 5-5, and the wait that an accepted command enters. -/
theorem chargeAndUnlockWaitForTheWindow : Obligations.ChargeAndUnlockWaitForTheWindow := by
  refine ⟨fun head s taken idle => ?_, fun head s taken idle hnone hstate hlatch hslot => ?_,
    fun head s taken idle hnone hstate hestop hlatch hslot => ?_⟩
  · obtain ⟨-, -, -, hroom, -, -⟩ := id taken
    obtain ⟨-, hcurrent⟩ := id idle
    have charge := exec_of_idle (c := .charge head) rfl taken idle
    have unlock := exec_of_idle (c := .unlock head) rfl taken idle
    rw [charge, unlock]
    have refused (kind : QueuedKind) (reason : Reason) :
        endCommand .refused reason (begun kind head s) = concluded head (queuedKindCode kind) .refused reason s :=
      endCommand_begun hroom hcurrent
    refine ⟨fun h => ⟨?_, ?_⟩, fun h1 h2 => ?_, fun h1 h2 => ?_, fun h1 h2 => ?_, fun h1 h2 => ?_, fun h1 h2 h3 => ?_⟩
    · exact congrArg _ ((if_pos h).trans (refused .charge .tripped))
    · exact congrArg _ ((if_pos h).trans (refused .unlock .tripped))
    · exact congrArg _ ((if_neg h1).trans ((if_pos h2).trans (refused .charge .state)))
    · exact congrArg _ ((if_neg h1).trans ((if_pos h2).trans (refused .unlock .state)))
    · exact congrArg _ ((if_neg (by simp [begun, h1])).trans ((if_neg (by simp [begun, h1])).trans
        ((if_pos h2).trans (refused .charge .action))))
    · exact congrArg _ ((if_neg (by simp [begun, h1])).trans ((if_neg (by simp [begun, h1])).trans
        ((if_pos h2).trans (refused .unlock .estop))))
    · exact congrArg _ ((if_neg (by simp [begun, h1])).trans ((if_neg (by simp [begun, h1])).trans
        ((if_neg (by simp [begun, h2])).trans ((if_pos h3).trans (refused .unlock .action)))))
  · rw [exec_of_idle (c := .charge head) rfl taken idle, ← enterWait_begun (by simp [hstate]) hnone hslot]
    exact congrArg _ ((if_neg (by simp [begun, hstate])).trans
      ((if_neg (by simp [begun, hstate])).trans (if_neg hlatch)))
  · rw [exec_of_idle (c := .unlock head) rfl taken idle, ← enterWait_begun (by simp [hstate]) hnone hslot]
    exact congrArg _ ((if_neg (by simp [begun, hstate])).trans ((if_neg (by simp [begun, hstate])).trans
      ((if_neg (by simp [begun, hestop])).trans (if_neg hlatch))))

/-! ### VENT, LOCK and CLEARTRIP (R78, R79, R87) -/

/-- The station in VENTED, its valve lines and drive those of the state. -/
def ventedOf (s : State) : State :=
  { s with act.state := .vented, pins.iso := false, pins.dump := true, pins.lockCmd := false, pins.drive := 0 }

/-- The accepted VENT or CLEARTRIP: VENTED with its lines, and the command DONE. -/
theorem enterVented_begun {kind : QueuedKind} {head : CommandHead} {s : State} (hroom : s.line.replyQ.length < 4)
    (hcurrent : s.cmd.current = none) (hrest : s.act.state = .live → s.seq.state ≠ .run) :
    endCommand .done .none (enterVented (begun kind head s)) =
      concluded head (queuedKindCode kind) .done .none (ventedOf s) := by
  have vented : enterVented (begun kind head s) = begun kind head (ventedOf s) := enterState_of_rest (by decide) hrest
  rw [vented]
  exact endCommand_begun (by exact hroom) hcurrent

/-- The accepted LOCK with the nut not seated: the entry into LOCKING, and the lock timer (R79). -/
theorem enterLocking_of_free {s : State} (hfree : s.pins.lockEngaged = false) :
    enterLocking s = { enterState .locking true false true s with
      act.lockTimer := some (s.age + 10 * s.cfg.tLock) } := by
  have free : (enterState .locking true false true s).pins.lockEngaged ≠ true := by simpa using hfree
  refine (if_neg free).trans ?_
  simp [ms, Config.perMs]

theorem enterState_of_run {st : ActState} {iso dump lockCmd : Bool} {s : State} (hst : st ≠ .live)
    (hlive : s.act.state = .live) (hrun : s.seq.state = .run) :
    enterState st iso dump lockCmd s = enterHeld (setActuator st iso dump lockCmd s) :=
  (if_neg (by exact hst)).trans (if_pos ⟨decide_eq_true hlive, hrun⟩)

/-- Settles O49: the refusals in the order of Table 5-5, and the state each command enters. -/
theorem ventLockAndCleartripChangeState : Obligations.VentLockAndCleartripChangeState := by
  refine ⟨fun head s taken idle => ?_, fun head s taken idle hlive hrun hphase hfree => ?_⟩
  · obtain ⟨-, -, -, hroom, -, -⟩ := id taken
    obtain ⟨-, hcurrent⟩ := id idle
    have refused (kind : QueuedKind) (reason : Reason) :
        endCommand .refused reason (begun kind head s) = concluded head (queuedKindCode kind) .refused reason s :=
      endCommand_begun hroom hcurrent
    rw [exec_of_idle (c := .vent head) rfl taken idle, exec_of_idle (c := .lock head) rfl taken idle,
      exec_of_idle (c := .cleartrip head) rfl taken idle]
    refine ⟨fun h => ⟨congrArg _ ((if_pos h).trans (refused .vent .tripped)),
      congrArg _ ((if_pos h).trans (refused .lock .tripped))⟩, fun htrip h => congrArg _ ?_,
      fun htrip h => congrArg _ ?_,
      fun htrip => congrArg _ ((if_pos htrip).trans (refused .cleartrip .state)),
      fun htrip hestop => congrArg _ ?_,
      fun hlive hzero hrest => congrArg _ ?_, fun htrip hestop => congrArg _ ?_,
      fun hlive hrun hunloading hfree => congrArg _ ?_⟩
    · refine (if_neg (by exact htrip)).trans ?_
      by_cases hlive : s.act.state = .live
      · exact (if_neg (by simp [begun, hlive])).trans
          ((if_pos (by simpa [begun, hlive] using h)).trans (refused .vent .state))
      · exact (if_pos hlive).trans (refused .vent .state)
    · refine (if_neg (by exact htrip)).trans ?_
      by_cases hlive : s.act.state = .live
      · exact (if_neg (by simp [begun, hlive])).trans
          ((if_pos (by simpa [begun, hlive] using h)).trans (refused .lock .state))
      · exact (if_pos hlive).trans (refused .lock .state)
    · exact (if_neg (by simp [begun, htrip])).trans ((if_pos hestop).trans (refused .cleartrip .estop))
    · have noRun : s.seq.state ≠ .run := by rcases hrest with h | h <;> simp [h]
      exact (if_neg (by simp [begun, hlive])).trans ((if_neg (by simp [begun, hlive])).trans
        ((if_neg (by simp [begun, hzero, hrest])).trans (enterVented_begun hroom hcurrent fun _ => noRun)))
    · exact (if_neg (by simp [begun, htrip])).trans ((if_neg (by simp [begun, hestop])).trans
        (enterVented_begun hroom hcurrent fun h => absurd (htrip.symm.trans h) (by decide)))
    · refine (if_neg (by simp [begun, hlive])).trans ((if_neg (by simp [begun, hlive])).trans
        ((if_neg (by simp [begun, hrun, hunloading])).trans ?_))
      rw [enterLocking_of_free (by exact hfree),
        enterState_of_rest (s := begun .lock head s) (st := .locking) (by decide) (fun _ => hrun)]
      rfl
  · have locks : exec (.lock head) s = .next { enterState .locking true false true (begun .lock head s) with
        act.lockTimer := some (s.age + 10 * s.cfg.tLock) } :=
      (exec_of_idle (c := .lock head) rfl taken idle).trans (congrArg _ ((if_neg (by simp [begun, hlive])).trans
        ((if_neg (by simp [begun, hlive])).trans ((if_neg (by simp [begun, hrun, hphase])).trans
          (enterLocking_of_free (by exact hfree))))))
    have held := enterState_of_run (iso := true) (dump := false) (lockCmd := true) (s := begun .lock head s)
      (by decide : ActState.locking ≠ .live) hlive hrun
    have heldSeq := (congrArg State.seq held).trans (enterHeld_seq _)
    obtain ⟨hact, hlines, hdrive⟩ := enterState_sets .locking true false true (begun .lock head s)
    refine ⟨_, locks, congrArg Actuator.state hact, rfl, hlines, hdrive, ?_, ?_, ?_, ?_, ?_, fun hdwell => ?_⟩
    · exact congrArg Sequencer.state heldSeq
    · exact (congrArg Sequencer.phase heldSeq).trans rfl
    · exact (congrArg Sequencer.step heldSeq).trans rfl
    · simp [begun]
    · simp [begun]
    · have inDwell : inDwell (setActuator .locking true false true (begun .lock head s)) = true :=
        inDwell_of_dwell hrun hdwell
      have left := enterHeld_of_dwell inDwell
      rw [held]
      exact left.2

/-! ### ZERO and SHUNT (R105, R110) -/

/-- Settles O50: the beginning of a collection, of the spans and of a claim, and the refusals. -/
theorem zeroAndShuntBegin : Obligations.ZeroAndShuntBegin := by
  intro head s taken idle
  obtain ⟨-, -, -, hroom, -, -⟩ := id taken
  obtain ⟨-, hcurrent⟩ := id idle
  rw [exec_of_idle (c := .zero head) rfl taken idle, exec_of_idle (c := .shunt head) rfl taken idle]
  have refused (kind : QueuedKind) (reason : Reason) :
      endCommand .refused reason (begun kind head s) = concluded head (queuedKindCode kind) .refused reason s :=
    endCommand_begun hroom hcurrent
  refine ⟨fun hidle hzero => congrArg _ ((if_pos ⟨hidle, hzero⟩).trans ?_),
    fun h => congrArg _ ((if_neg ?_).trans (refused .zero .state)),
    fun hidle hheld => congrArg _ ((if_neg ?_).trans (refused .shunt .state)),
    fun h hgroup => congrArg _ ((if_pos h).trans ((if_pos hgroup).trans ?_)),
    fun h hgroup hempty => congrArg _ ((if_pos h).trans ((if_neg hgroup).trans ?_)),
    fun h hgroup hslot => congrArg _ ((if_pos h).trans ((if_neg hgroup).trans ?_))⟩
  · simp [updateEnabled, mapFrom_const, begun, channelEnabled]
  · exact fun ⟨hidle, hzero⟩ => h.elim (absurd hidle) (absurd hzero)
  · exact fun h => h.elim hidle hheld
  · simp [enterBefore, mapFrom_const, begun]
  · exact placeShuntClaim_of_empty hempty
  · obtain ⟨telegram, htelegram⟩ := Option.ne_none_iff_exists'.mp hslot
    exact placeShuntClaim_of_occupied htelegram

/-! ### The form of a command telegram (R5, R13, R163, R173) -/

theorem takeCommand_of_answerable {head : CommandHead} {s : State} (h : Answerable head s) :
    (addressedHere head s && replyRoom s) = true := by
  obtain ⟨hconsole, hdest, hroom, hheld⟩ := h
  simp [addressedHere, isConsole, replyRoom, Config.replyQueueSize, hconsole, hdest, hroom, hheld]

theorem takeCommand_of_unanswerable {head : CommandHead} {code : Nat} {owner : State → State} {s : State}
    (h : ¬ Answerable head s) : takeCommand head code owner s = s := by
  refine if_neg fun hguard => h ?_
  simp only [addressedHere, isConsole, replyRoom, Config.replyQueueSize, Bool.and_eq_true, Bool.or_eq_true,
    decide_eq_true_eq, List.isEmpty_iff] at hguard
  obtain ⟨⟨hconsole, hdest⟩, hroom, hheld⟩ := hguard
  exact ⟨hconsole, hdest, of_decide_eq_true hroom, hheld⟩

theorem takeCommand_of_length {head : CommandHead} {code len : Nat} {owner : State → State} {s : State}
    (hphase : s.loader.phase = .running) (h : Answerable head s) (hlen : commandLength code = some len)
    (hne : head.len ≠ len) : takeCommand head code owner s = replied head code .refused .range [] s := by
  rw [takeCommand, if_pos (takeCommand_of_answerable h), hphase]
  simp only [judgeForm, hlen, if_neg hne]
  rfl

theorem takeCommand_of_unknown {head : CommandHead} {code : Nat} {owner : State → State} {s : State}
    (hphase : s.loader.phase = .running) (h : Answerable head s) (hlen : commandLength code = none) :
    takeCommand head code owner s = replied head code .refused .state [] s := by
  rw [takeCommand, if_pos (takeCommand_of_answerable h), hphase]
  simp only [judgeForm, hlen]
  rfl

theorem takeCommand_of_configFault {head : CommandHead} {code : Nat} {owner : State → State} {s : State}
    (hphase : s.loader.phase = .configFault) (hfrom : 1 ≤ ownStation s) (hto : ownStation s ≤ 27)
    (h : Answerable head s) : takeCommand head code owner s = replied head code .refused .state [] s := by
  have frame : isFrameStation (ownStation s) = true := by simp [isFrameStation, hfrom, hto]
  rw [takeCommand, if_pos (takeCommand_of_answerable h), hphase]
  exact if_pos frame

theorem commandLength_eq_none_iff {kind : Nat} : commandLength kind = none ↔ kind < 0x40 ∨ 0x53 < kind := by
  unfold commandLength
  split_ifs <;> simp <;> omega

/-- A row of its own whose taking ends alike under every owner, with the command queue as it was, is that end. -/
theorem exec_of_taking {c : Instr} {head : CommandHead} {code : Nat} {s t : State}
    (h : telegramOf c = some (head, code)) (own : RowOfItsOwn c) (flow : CommandsFlow s) (hcmd : t.cmd = s.cmd)
    (taking : ∀ owner, takeCommand head code owner s = t) : exec c s = .next t := by
  obtain ⟨hunknown, hother⟩ := own
  cases c with
  | commandUnknownKind head kind =>
    cases h
    exact congrArg _ ((if_pos (commandLength_eq_none_iff.mpr (hunknown _ _ rfl))).trans (taking _))
  | queryOtherSubject head subject argument =>
    cases h
    have outside := hother _ _ _ rfl
    exact congrArg _ ((if_neg (by omega)).trans (taking _))
  | resume head =>
    cases h
    exact congrArg _ ((congrArg startCommands (taking _)).trans (startCommands_of_flow flow hcmd))
  | _ =>
    cases h <;> exact congrArg _ (taking _)

/-- A row that is not its own is that of another command, and is not taken (log entry 31). -/
theorem exec_of_foreign_row {c : Instr} (s : State) (h : ¬ RowOfItsOwn c) : exec c s = .next s := by
  unfold RowOfItsOwn at h
  push Not at h
  by_cases hunknown : ∃ head kind, c = .commandUnknownKind head kind ∧ ¬ (kind < 0x40 ∨ 0x53 < kind)
  · obtain ⟨head, kind, rfl, hkind⟩ := hunknown
    exact congrArg _ (if_neg (mt commandLength_eq_none_iff.mp hkind))
  · push Not at hunknown
    obtain ⟨head, subject, argument, rfl, hsubject⟩ := h hunknown
    exact congrArg _ (if_pos (by omega))

/-- Settles O41: the taking of a telegram ends before its owner in each of the cases. -/
theorem commandFormIsJudgedFirst : Obligations.CommandFormIsJudgedFirst := by
  refine ⟨fun c head code s hc flow h => ?_, fun c head code len s hc own flow hphase h hlen hne => ?_,
    fun head kind s hphase h hkind => ?_, fun head subject argument s taken hsubject => ?_,
    fun c head code s hc own flow hphase hfrom hto h => ?_⟩
  · by_cases own : RowOfItsOwn c
    · exact exec_of_taking hc own flow rfl fun _ => takeCommand_of_unanswerable h
    · exact exec_of_foreign_row s own
  · exact exec_of_taking hc own flow rfl fun _ => takeCommand_of_length hphase h hlen hne
  · have unknown := commandLength_eq_none_iff.mpr hkind
    exact congrArg _ ((if_pos unknown).trans (takeCommand_of_unknown hphase h unknown))
  · exact congrArg _ ((if_neg (by omega)).trans (takeCommand_of_taken taken rfl))
  · exact exec_of_taking hc own flow rfl fun _ => takeCommand_of_configFault hphase hfrom hto h

/-! ### The commands that answer in their event (R116, R124, R125, R141, R145, R168) -/

theorem keyMatches_iff {source kind channel : Nat} {a : AlarmRecord} :
    keyMatches source kind channel a = true ↔ a.source = source ∧ kindCode a.kind = kind ∧ a.channel = channel := by
  simp [keyMatches]

theorem leBytes_bit (b : Bool) : leBytes 1 (bit b) = if b then [1] else [0] := by
  cases b <;> rfl

theorem recordBytes_eq (a : AlarmRecord) :
    recordBytes a = leBytes 1 a.source ++ leBytes 1 (kindCode a.kind) ++ leBytes 1 a.channel ++
      leBytes 1 (latchCode a.action) ++ leBytes 2 a.count ++ leBytes 4 a.firstTag.toNat ++ leBytes 4 a.lastTag.toNat ++
      leBytes 2 a.lam ++ leBytes 4 a.step ++ (if a.acked then [1] else [0]) := by
  rw [recordBytes, leBytes_bit]

/-- Settles O46: each of the commands at its owner. -/
theorem immediateCommandsAnswerInTheirEvent : Obligations.ImmediateCommandsAnswerInTheirEvent := by
  refine ⟨⟨fun head all source kind channel s taken => ?_, fun head l s taken => ?_⟩, fun head tag s taken => ?_,
    fun head l s taken => ?_, fun head start s taken => ?_, fun head half s taken => ?_, fun head n s taken => ?_⟩
  · have acks : exec (.ack head all source kind channel) s = .next (ackRequest head all source kind channel s) :=
      congrArg _ (takeCommand_of_taken taken rfl)
    rw [acks]
    refine ⟨fun h => congrArg _ (if_pos h), fun h => congrArg _ ?_, fun h found => congrArg _ ?_,
      fun h missing => congrArg _ ?_⟩
    · rw [ackRequest, if_neg (by omega), if_pos h]
      rfl
    · have any : s.alarm.records.any (keyMatches source kind channel) = true := by
        simpa [keyMatches_iff] using found
      rw [ackRequest, if_neg (by omega), if_neg (by omega), if_pos any]
      simp [acknowledge, keyMatches_iff, answerDone, answer, placeReply, replied, ackCode]
    · have none : ¬ s.alarm.records.any (keyMatches source kind channel) = true := by
        simpa [keyMatches_iff] using missing
      rw [ackRequest, if_neg (by omega), if_neg (by omega), if_neg none]
      rfl
  · have accepts : exec (.accept head l) s = .next (acceptRequest head l s) :=
      congrArg _ (takeCommand_of_taken taken rfl)
    rw [accepts]
    refine ⟨fun h => congrArg _ (if_pos h), fun h hstate => congrArg _ ?_, fun h hstate => congrArg _ ?_⟩
    · exact (if_neg (by omega)).trans (if_neg hstate)
    · exact (if_neg (by omega)).trans (if_pos hstate)
  · exact congrArg _ (takeCommand_of_taken taken rfl)
  · have asks : exec (.queryCrack head l) s = .next (queryCrackRequest head l s) :=
      congrArg _ (takeCommand_of_taken taken rfl)
    rw [asks]
    refine ⟨fun h => congrArg _ (if_pos h), fun h => congrArg _ ((if_neg (by omega)).trans ?_)⟩
    refine congrArg (fun data => replied head 0x4C .done .none data s) ?_
    rw [crackData, leBytes_bit]
    cases s.crack.entries.getD l none with
    | none => rfl
    | some e => simp [entryFieldBytes]
  · refine congrArg _ ((takeCommand_of_taken taken rfl).trans ?_)
    have length : ((s.alarm.records.drop start).take 2).length = min 2 (s.alarm.records.length - start) := by simp
    refine congrArg (fun data => replied head 0x4C .done .none data s) ?_
    simp only [alarmsData, length, leBytes_bit, funext recordBytes_eq]
  · have asks : exec (.queryStrain head half) s = .next (queryStrainRequest head half s) :=
      congrArg _ (takeCommand_of_taken taken rfl)
    rw [asks]
    exact ⟨fun h => congrArg _ (if_pos h), fun h => congrArg _ (if_neg (by omega))⟩
  · have asks : exec (.queryPeer head n) s = .next (queryPeerRequest head n s) :=
      congrArg _ (takeCommand_of_taken taken rfl)
    rw [asks]
    exact ⟨fun h => congrArg _ (if_pos h), fun hfrom hto => congrArg _ (if_neg (by omega))⟩

end Sys2Proof.Machine

/-! The crack monitor (chapter 7): the loop scan and a taken reading (O36), the hits of an AE input (O37). -/
namespace Sys2Proof.Machine

open Sys2Proof

-- One proof after the other: the threads of the check, which compiles the whole text at once, share one memory limit.
set_option Elab.async false

/-! ### The record of a loop and of an input -/

theorem loopAt_of_loops {l : Nat} {s t : State} (h : t.crack.loops = s.crack.loops) : loopAt l t = loopAt l s := by
  rw [loopAt, loopAt, h]

theorem loopAt_updateLoop {f : LoopRecord → LoopRecord} {l : Nat} {s : State} (hl : l < s.crack.loops.length) :
    loopAt l (updateLoop f l s) = f (loopAt l s) := by
  rw [loopAt, updateLoop, modifyAt_getD, if_pos ⟨rfl, hl⟩]
  rfl

theorem loopAt_updateLoop_ne {f : LoopRecord → LoopRecord} {l m : Nat} {s : State} (h : m ≠ l) :
    loopAt m (updateLoop f l s) = loopAt m s :=
  modifyAt_getD_ne _ _ _ h.symm

theorem aeAt_of_inputs {i : Nat} {s t : State} (h : t.crack.inputs = s.crack.inputs) : aeAt i t = aeAt i s := by
  rw [aeAt, aeAt, h]

theorem aeAt_updateAe {f : AeInput → AeInput} {i : Nat} {s : State} (hi : i < s.crack.inputs.length) :
    aeAt i (updateAe f i s) = f (aeAt i s) := by
  rw [aeAt, updateAe, modifyAt_getD, if_pos ⟨rfl, hi⟩]
  rfl

theorem aeAt_updateAe_ne {f : AeInput → AeInput} {i m : Nat} {s : State} (h : m ≠ i) :
    aeAt m (updateAe f i s) = aeAt m s :=
  modifyAt_getD_ne _ _ _ h.symm

theorem causeOn_alarmsGrow (c : Cause) (s : State) : AlarmsGrow s (causeOn c s) where
  latch := by simp
  records a ha hacked := ⟨a, by simpa using ha, rfl, hacked⟩
  line := .of_line_eq (by simp)

theorem causeOff_alarmsGrow (c : Cause) (s : State) : AlarmsGrow s (causeOff c s) where
  latch := by simp
  records a ha hacked := ⟨a, by simpa using ha, rfl, hacked⟩
  line := .of_line_eq (by simp)

theorem setEvent_alarmsGrow (e : Event) (s : State) : AlarmsGrow s (setEvent e s) :=
  .of_alarm_eq (by simp) (setEvent_lineGrows e s)

theorem Listed.grows {kind : AlarmKind} {channel : Nat} {s t u : State} (h : Listed kind channel s t)
    (grows : AlarmsGrow t u) : Listed kind channel s u := by
  obtain ⟨a, ha, hkey, hacked⟩ := h
  obtain ⟨b, hb, hkey', hunacked⟩ := grows.records a ha hacked
  exact ⟨b, hb, hkey'.trans hkey, hunacked⟩

theorem Listed.of_loader {kind : AlarmKind} {channel : Nat} {s s' t : State} (h : Listed kind channel s' t)
    (hloader : s'.loader = s.loader) : Listed kind channel s t := by
  have same : ownStation s' = ownStation s := by rw [ownStation, ownStation, hloader]
  rwa [Listed, same] at h

/-! ### What the sensing of loops leaves alone (R118) -/

/-- From `s` to `t` only the loops of `P` have been sensed, with at most `n` raises. -/
structure LoopsSensed (P : Nat → Prop) (n : Nat) (s t : State) : Prop where
  frame : t.cfg = s.cfg ∧ t.loader = s.loader ∧ t.crack.inputs = s.crack.inputs
  length : t.crack.loops.length = s.crack.loops.length
  others : ∀ m, ¬ P m → loopAt m t = loopAt m s
  grows : AlarmsGrow s t
  room : t.alarm.records.length ≤ s.alarm.records.length + n
  causes : ∀ i, Cause.ae i ∈ t.alarm.causes ↔ Cause.ae i ∈ s.alarm.causes

namespace LoopsSensed

variable {P Q : Nat → Prop} {n k : Nat} {s t u : State}

theorem trans (h : LoopsSensed P n s t) (h' : LoopsSensed P k t u) : LoopsSensed P (n + k) s u where
  frame := by simp [h'.frame, h.frame]
  length := h'.length.trans h.length
  others m hm := (h'.others m hm).trans (h.others m hm)
  grows := h.grows.trans h'.grows
  room := by have := h.room; have := h'.room; omega
  causes i := (h'.causes i).trans (h.causes i)

theorem mono (h : LoopsSensed P n s t) (hP : ∀ m, P m → Q m) (hn : n ≤ k) : LoopsSensed Q k s t :=
  { h with others := fun m hm => h.others m fun hp => hm (hP m hp), room := h.room.trans (by omega) }

/-- A step that leaves the loops alone, with at most one raise and no change of an AE input's cause. -/
theorem of_loops (hframe : t.cfg = s.cfg ∧ t.loader = s.loader ∧ t.crack = s.crack) (grows : AlarmsGrow s t)
    (room : t.alarm.records.length ≤ s.alarm.records.length + n)
    (causes : ∀ i, Cause.ae i ∈ t.alarm.causes ↔ Cause.ae i ∈ s.alarm.causes) : LoopsSensed P n s t := by
  obtain ⟨hcfg, hloader, hcrack⟩ := hframe
  exact ⟨⟨hcfg, hloader, by rw [hcrack]⟩, by rw [hcrack], fun _ _ => loopAt_of_loops (by rw [hcrack]), grows, room,
    causes⟩

theorem refl (s : State) : LoopsSensed P 0 s s :=
  .of_loops ⟨rfl, rfl, rfl⟩ (.refl s) (by simp) fun _ => Iff.rfl

theorem updateLoop (f : LoopRecord → LoopRecord) {l : Nat} (hl : P l) (s : State) :
    LoopsSensed P 0 s (updateLoop f l s) where
  frame := ⟨rfl, rfl, rfl⟩
  length := modifyAt_length f l _
  others _ hm := loopAt_updateLoop_ne fun h => hm (h ▸ hl)
  grows := .of_alarm_eq rfl (.of_line_eq rfl)
  room := Nat.le_refl _
  causes _ := Iff.rfl

theorem fillEntry (l : Nat) (s : State) : LoopsSensed P 0 s (fillEntry l s) := by
  unfold Machine.fillEntry
  split
  · exact .refl s
  · exact ⟨⟨rfl, rfl, rfl⟩, rfl, fun _ _ => rfl, .of_alarm_eq rfl (.of_line_eq rfl), Nat.le_refl _, fun _ => Iff.rfl⟩

theorem raiseOwn (kind : AlarmKind) (channel : Nat) (action : Latch) (s : State) :
    LoopsSensed P 1 s (raiseOwn kind channel action s) :=
  .of_loops (by simp) (raiseOwn_alarmsGrow kind channel action s)
    (by rw [raiseOwn_records]; exact storeRaise_room) (by simp)

theorem causeOn (l : Nat) (s : State) : LoopsSensed P 0 s (causeOn (.loop l) s) :=
  .of_loops (by simp) (causeOn_alarmsGrow _ s) (by simp) (by simp [mem_causeOn])

theorem causeOff (l : Nat) (s : State) : LoopsSensed P 0 s (causeOff (.loop l) s) :=
  .of_loops (by simp) (causeOff_alarmsGrow _ s) (by simp) (by simp)

theorem loopFaults {l : Nat} (hl : P l) (s : State) : LoopsSensed P 1 s (loopFaults l s) :=
  (updateLoop _ hl s).trans (raiseOwn .loopFault l .note _)

theorem loopBreaks {l : Nat} (hl : P l) (s : State) : LoopsSensed P 1 s (loopBreaks l s) :=
  ((((fillEntry l s).trans (updateLoop _ hl _)).trans
    (.of_loops (n := 0) (by simp) (setEvent_alarmsGrow .crackBreak _) (by simp) (by simp))).trans
      (raiseOwn .crackWire l _ _)).trans (causeOn l _)

theorem actOnReading {l : Nat} (hl : P l) (r : LoopReading) (s : State) : LoopsSensed P 1 s (actOnReading l r s) := by
  unfold Machine.actOnReading
  split
  · exact loopBreaks hl _
  · exact loopFaults hl _
  · exact (loopFaults hl _).trans (causeOff l _)
  · exact loopFaults hl _
  · exact (refl _).mono (fun _ h => h) (by decide)

theorem takeReading {l : Nat} (hl : P l) (r : LoopReading) (s : State) : LoopsSensed P 1 s (takeReading l r s) :=
  (updateLoop _ hl s).trans (actOnReading hl r _)

theorem senseLoop {l : Nat} (hl : P l) (r : LoopReading) (s : State) : LoopsSensed P 1 s (senseLoop l r s) := by
  unfold Machine.senseLoop
  dsimp only
  split
  · exact (refl s).mono (fun _ h => h) (by decide)
  · split
    · exact (updateLoop _ hl s).mono (fun _ h => h) (by decide)
    · split
      · exact takeReading hl r s
      · exact (updateLoop _ hl s).mono (fun _ h => h) (by decide)

end LoopsSensed

theorem senseLoops_sensed (readings : List LoopReading) (l : Nat) (s : State) :
    LoopsSensed (fun m => l ≤ m ∧ m < l + readings.length) readings.length s (senseLoops l readings s) := by
  induction readings generalizing l s with
  | nil => exact .refl s
  | cons r rest ih =>
    have first : LoopsSensed (fun m => l ≤ m ∧ m < l + (r :: rest).length) 1 s (senseLoop l r s) :=
      .senseLoop (by simp) r s
    have others := (ih (l + 1) (senseLoop l r s)).mono (Q := fun m => l ≤ m ∧ m < l + (r :: rest).length)
      (fun m hm => by simp at *; omega) (Nat.le_refl _)
    exact (first.trans others).mono (fun _ h => h) (by simp; omega)

theorem senseLoops_append (before after : List LoopReading) (l : Nat) (s : State) :
    senseLoops l (before ++ after) s = senseLoops (l + before.length) after (senseLoops l before s) := by
  induction before generalizing l s with
  | nil => rfl
  | cons r rest ih =>
    rw [List.cons_append, senseLoops, ih, List.length_cons, Nat.add_right_comm, Nat.add_assoc]
    rfl

/-! ### A taken reading (R121 to R123) -/

/-- A loop with the reading taken, before it is acted on. -/
def loopTaken (l : Nat) (r : LoopReading) (s : State) : State :=
  updateLoop (fun rec => { rec with taken := some r, candidate := none }) l s

theorem loopAt_loopTaken {l : Nat} (r : LoopReading) {s : State} (hl : l < s.crack.loops.length) :
    loopAt l (loopTaken l r s) = { loopAt l s with taken := some r, candidate := none } :=
  loopAt_updateLoop hl

/-- An INTACT loop that takes OPEN (R121, R123). -/
theorem takeReading_breaks {l : Nat} {s : State} (hstate : (loopAt l s).state = .intact) :
    takeReading l .opened s = loopBreaks l (loopTaken l .opened s) := by
  have hl := (lt_of_loopAt_ne_disabled (show (loopAt l s).state ≠ .disabled by simp [hstate])).1
  have state : (loopAt l (loopTaken l .opened s)).state = .intact := by rw [loopAt_loopTaken _ hl, hstate]
  change actOnReading l .opened (loopTaken l .opened s) = _
  simp only [actOnReading, state]

theorem loopAt_takeReading_breaks {l : Nat} {s : State} (hstate : (loopAt l s).state = .intact) :
    loopAt l (takeReading l .opened s) = { state := .broken, taken := some .opened, candidate := none } := by
  have hl := (lt_of_loopAt_ne_disabled (show (loopAt l s).state ≠ .disabled by simp [hstate])).1
  have filled : (fillEntry l (loopTaken l .opened s)).crack.loops = (loopTaken l .opened s).crack.loops := by
    unfold fillEntry
    split <;> rfl
  have length : l < (fillEntry l (loopTaken l .opened s)).crack.loops.length := by
    rw [filled]
    simpa [loopTaken, updateLoop] using hl
  have same : (takeReading l .opened s).crack.loops =
      (setLoopState .broken l (fillEntry l (loopTaken l .opened s))).crack.loops := by
    rw [takeReading_breaks hstate]
    simp [loopBreaks]
  rw [loopAt_of_loops same, setLoopState, loopAt_updateLoop length, loopAt_of_loops filled, loopAt_loopTaken _ hl]

theorem takeReading_breaks_entries {l : Nat} {s : State} (hstate : (loopAt l s).state = .intact)
    (hentries : s.crack.entries.length = 8) (hl : l < 8) :
    (takeReading l .opened s).crack.entries.getD l none =
        some ((s.crack.entries.getD l none).getD (breakConditions s)) ∧
      ∀ m, m ≠ l → (takeReading l .opened s).crack.entries.getD m none = s.crack.entries.getD m none := by
  have same : (takeReading l .opened s).crack.entries = (fillEntry l (loopTaken l .opened s)).crack.entries := by
    rw [takeReading_breaks hstate]
    simp [loopBreaks, setLoopState, updateLoop]
  have before : (loopTaken l .opened s).crack.entries = s.crack.entries := rfl
  rw [same]
  unfold fillEntry
  rw [before]
  split
  · rename_i hfilled
    obtain ⟨e, he⟩ := Option.isSome_iff_exists.mp hfilled
    rw [before, he]
    exact ⟨rfl, fun _ _ => rfl⟩
  · rename_i hempty
    have none : s.crack.entries.getD l none = none := by simpa using hempty
    dsimp only
    rw [setAt_getD, if_pos ⟨rfl, by omega⟩, none]
    exact ⟨rfl, fun m hm => by rw [setAt_getD, if_neg fun h => hm h.1.symm]⟩

theorem takeReading_breaks_told {l : Nat} {s : State} (hstate : (loopAt l s).state = .intact) :
    HasEvent 2 (takeReading l .opened s) ∧ HasEvent 5 (takeReading l .opened s) ∧
      Cause.loop l ∈ (takeReading l .opened s).alarm.causes ∧
      (takeReading l .opened s).alarm.latch = latchMax s.alarm.latch (loopCfg l s).action ∧
      (RoomFor 1 s → Listed .crackWire l s (takeReading l .opened s)) := by
  rw [takeReading_breaks hstate]
  refine ⟨?_, ?_, (mem_causeOn _ _ _).mpr (.inr rfl), by simp [loopTaken, loopCfg], fun room => ?_⟩
  · have raised := (raiseOwn_alarmsGrow .crackWire l (loopCfg l (loopTaken l .opened s)).action (setEvent .crackBreak
      (setLoopState .broken l (fillEntry l (loopTaken l .opened s))))).trans (causeOn_alarmsGrow (.loop l) _)
    exact raised.line.events 2 (hasEvent_setEvent .crackBreak _)
  · exact (causeOn_alarmsGrow (.loop l) _).line.events 5 (raiseOwn_event _ _ _ _)
  · exact ((raiseOwn_lists (by simpa [RoomFor, loopTaken] using room)).grows
      (causeOn_alarmsGrow (.loop l) _)).of_loader (by simp [loopTaken])

/-- A taken reading that makes a loop FAULT (R122). -/
theorem takeReading_faults {l : Nat} {r : LoopReading} {s : State} (h : FaultReading (loopAt l s).state r) :
    takeReading l r s = if (loopAt l s).state = .broken then causeOff (.loop l) (loopFaults l (loopTaken l r s))
      else loopFaults l (loopTaken l r s) := by
  have enabled : (loopAt l s).state ≠ .disabled := by rcases h with ⟨h, -⟩ | ⟨h | h, -⟩ <;> simp [h]
  have state : (loopAt l (loopTaken l r s)).state = (loopAt l s).state := by
    rw [loopAt_loopTaken _ (lt_of_loopAt_ne_disabled enabled).1]
  change actOnReading l r (loopTaken l r s) = _
  rcases h with ⟨h, rfl⟩ | ⟨h | h, rfl⟩ <;> simp [actOnReading, state, h]

theorem loopAt_takeReading_faults {l : Nat} {r : LoopReading} {s : State} (h : FaultReading (loopAt l s).state r) :
    loopAt l (takeReading l r s) = { state := .fault, taken := some r, candidate := none } := by
  have enabled : (loopAt l s).state ≠ .disabled := by rcases h with ⟨h, -⟩ | ⟨h | h, -⟩ <;> simp [h]
  have hl := (lt_of_loopAt_ne_disabled enabled).1
  have same : (takeReading l r s).crack.loops = (setLoopState .fault l (loopTaken l r s)).crack.loops := by
    rw [takeReading_faults h]
    split <;> simp [loopFaults]
  rw [loopAt_of_loops same, setLoopState, loopAt_updateLoop (by simpa [loopTaken, updateLoop] using hl),
    loopAt_loopTaken _ hl]

theorem takeReading_faults_told {l : Nat} {r : LoopReading} {s : State} (h : FaultReading (loopAt l s).state r) :
    HasEvent 5 (takeReading l r s) ∧
      (takeReading l r s).alarm.causes = (if (loopAt l s).state = .broken then
        s.alarm.causes.filter (fun c => decide (c ≠ .loop l)) else s.alarm.causes) ∧
      (takeReading l r s).alarm.latch = latchMax s.alarm.latch .note ∧
      (takeReading l r s).crack.entries = s.crack.entries ∧
      (RoomFor 1 s → Listed .loopFault l s (takeReading l r s)) := by
  have lists (room : RoomFor 1 s) : Listed .loopFault l s (loopFaults l (loopTaken l r s)) :=
    (raiseOwn_lists (by exact room)).of_loader rfl
  have raised : HasEvent 5 (loopFaults l (loopTaken l r s)) := raiseOwn_event _ _ _ _
  have grows := causeOff_alarmsGrow (.loop l) (loopFaults l (loopTaken l r s))
  rw [takeReading_faults h]
  split
  · refine ⟨grows.line.events 5 raised, ?_, ?_, ?_, fun room => (lists room).grows grows⟩
    all_goals simp [loopFaults, causeOff, loopTaken, setLoopState, updateLoop]
  · refine ⟨raised, ?_, ?_, ?_, lists⟩
    all_goals simp [loopFaults, loopTaken, setLoopState, updateLoop]

/-- Any other taken reading changes the reading and no more. -/
theorem takeReading_rests {l : Nat} {r : LoopReading} {s : State} (hl : l < s.crack.loops.length)
    (hbreak : ¬ ((loopAt l s).state = .intact ∧ r = .opened)) (hfault : ¬ FaultReading (loopAt l s).state r) :
    takeReading l r s = loopTaken l r s := by
  have state : (loopAt l (loopTaken l r s)).state = (loopAt l s).state := by rw [loopAt_loopTaken _ hl]
  change actOnReading l r (loopTaken l r s) = _
  simp only [actOnReading, state]
  revert hbreak hfault
  cases (loopAt l s).state <;> cases r <;> simp [FaultReading]

theorem loopAt_takeReading {l : Nat} {r : LoopReading} {s : State} (hl : l < s.crack.loops.length) :
    loopAt l (takeReading l r s) =
      { state := loopStateAfter (loopAt l s).state r, taken := some r, candidate := none } := by
  by_cases hbreak : (loopAt l s).state = .intact ∧ r = .opened
  · obtain ⟨hstate, rfl⟩ := hbreak
    rw [loopAt_takeReading_breaks hstate, hstate]
    rfl
  by_cases hfault : FaultReading (loopAt l s).state r
  · rw [loopAt_takeReading_faults hfault]
    rcases hfault with ⟨h, rfl⟩ | ⟨h | h, rfl⟩ <;> rw [h] <;> rfl
  · rw [takeReading_rests hl hbreak hfault, loopAt_loopTaken _ hl]
    have same : loopStateAfter (loopAt l s).state r = (loopAt l s).state := by
      revert hbreak hfault
      cases (loopAt l s).state <;> cases r <;> simp [FaultReading, loopStateAfter]
    rw [same]

/-! ### The debounce (R119) -/

theorem debounceScans_eq (l : Nat) (s : State) : debounceScans l s = debounceOf l s := by
  rw [debounceScans, debounceOf, ceilDiv]
  rfl

theorem nextCandidate_eq (r : LoopReading) (rec : LoopRecord) :
    nextCandidate r rec.candidate = (r, candidateCount r rec) := by
  unfold nextCandidate candidateCount
  cases rec.candidate with
  | none => rfl
  | some c => dsimp only; split <;> rfl

/-- What the debounce makes of a reading of loop `l`, in a list with room for `n` raises more. -/
structure LoopRead (n l : Nat) (r : LoopReading) (s t : State) : Prop where
  disabled : (loopAt l s).state = .disabled → loopAt l t = loopAt l s
  same : (loopAt l s).state ≠ .disabled → (loopAt l s).taken = some r →
    loopAt l t = { loopAt l s with candidate := none }
  waits : (loopAt l s).state ≠ .disabled → (loopAt l s).taken ≠ some r →
    candidateCount r (loopAt l s) < debounceOf l s →
    loopAt l t = { loopAt l s with candidate := some (r, candidateCount r (loopAt l s)) }
  taken : (loopAt l s).state ≠ .disabled → (loopAt l s).taken ≠ some r →
    debounceOf l s ≤ candidateCount r (loopAt l s) →
    loopAt l t = { state := loopStateAfter (loopAt l s).state r, taken := some r, candidate := none } ∧
      ((loopAt l s).state = .intact → r = .opened → RoomFor n s → Listed .crackWire l s t) ∧
      (FaultReading (loopAt l s).state r → RoomFor n s → Listed .loopFault l s t)

theorem senseLoop_read {l : Nat} (r : LoopReading) {s : State} (hl : l < s.crack.loops.length) :
    LoopRead 1 l r s (senseLoop l r s) where
  disabled h := congrArg (loopAt l) (if_pos h)
  same h hsame := (congrArg (loopAt l) ((if_neg h).trans (if_pos hsame))).trans (loopAt_updateLoop hl)
  waits h hnew hfew := by
    have waits : senseLoop l r s =
        updateLoop (fun rec => { rec with candidate := some (r, candidateCount r (loopAt l s)) }) l s := by
      rw [senseLoop, if_neg h, if_neg hnew, nextCandidate_eq, debounceScans_eq]
      exact if_neg (Nat.not_le.mpr hfew)
    rw [waits, loopAt_updateLoop hl]
  taken h hnew hmany := by
    have takes : senseLoop l r s = takeReading l r s := by
      rw [senseLoop, if_neg h, if_neg hnew, nextCandidate_eq, debounceScans_eq]
      exact if_pos hmany
    rw [takes]
    refine ⟨loopAt_takeReading hl, fun hintact hopen room => ?_, fun hfault room => ?_⟩
    · subst hopen
      exact (takeReading_breaks_told hintact).2.2.2.2 room
    · exact (takeReading_faults_told hfault).2.2.2.2 room

namespace LoopRead

variable {n k l : Nat} {r : LoopReading} {s t u : State}

theorem mono (h : LoopRead n l r s t) (hn : n ≤ k) : LoopRead k l r s t where
  disabled := h.disabled
  same := h.same
  waits := h.waits
  taken henabled hnew hmany := by
    obtain ⟨hrecord, hbreak, hfault⟩ := h.taken henabled hnew hmany
    have room (hk : RoomFor k s) : RoomFor n s := Nat.le_trans (Nat.add_le_add_left hn _) hk
    exact ⟨hrecord, fun hi ho hk => hbreak hi ho (room hk), fun hf hk => hfault hf (room hk)⟩

/-- What follows leaves the loop's record and takes no unacknowledged record out of the list. -/
theorem followed (h : LoopRead n l r s t) (hloop : loopAt l u = loopAt l t) (grows : AlarmsGrow t u) :
    LoopRead n l r s u where
  disabled hd := hloop.trans (h.disabled hd)
  same he hs := hloop.trans (h.same he hs)
  waits he hnew hfew := hloop.trans (h.waits he hnew hfew)
  taken henabled hnew hmany := by
    obtain ⟨hrecord, hbreak, hfault⟩ := h.taken henabled hnew hmany
    exact ⟨hloop.trans hrecord, fun hi ho hn => (hbreak hi ho hn).grows grows, fun hf hn => (hfault hf hn).grows grows⟩

/-- The loops before it leave its record, and each of them takes one place of the list at most. -/
theorem preceded {P : Nat → Prop} (h : LoopRead n l r u t) (before : LoopsSensed P k s u) (hl : ¬ P l) :
    LoopRead (n + k) l r s t := by
  obtain ⟨hcfg, hloader, -⟩ := before.frame
  have record := before.others l hl
  have debounce : debounceOf l u = debounceOf l s := by rw [debounceOf, debounceOf, loopCfg, loopCfg, hcfg]
  have room (hs : RoomFor (n + k) s) : RoomFor n u := by
    have := before.room
    unfold RoomFor at *
    omega
  obtain ⟨hdisabled, hsame, hwaits, htaken⟩ := h
  rw [record] at hdisabled hsame hwaits htaken
  rw [debounce] at hwaits htaken
  refine ⟨hdisabled, hsame, hwaits, fun henabled hnew hmany => ?_⟩
  obtain ⟨hrecord, hbreak, hfault⟩ := htaken henabled hnew hmany
  exact ⟨hrecord, fun hi ho hs => (hbreak hi ho (room hs)).of_loader hloader,
    fun hf hs => (hfault hf (room hs)).of_loader hloader⟩

end LoopRead

/-- Loop `l` in a scan: the loops before it and after it leave its record, and take a place of the list each at most. -/
theorem senseLoops_read {l : Nat} {r : LoopReading} {readings : List LoopReading} {s : State}
    (hr : readings[l]? = some r) (hloops : readings.length ≤ s.crack.loops.length) :
    LoopRead readings.length l r s (senseLoops 0 readings s) := by
  obtain ⟨hl, hget⟩ := List.getElem?_eq_some_iff.mp hr
  have split : readings = readings.take l ++ r :: readings.drop (l + 1) := by
    rw [← hget, ← List.drop_eq_getElem_cons hl, List.take_append_drop]
  have length : (readings.take l).length = l := by simp; omega
  have before := senseLoops_sensed (readings.take l) 0 s
  have after := senseLoops_sensed (readings.drop (l + 1)) (l + 1) (senseLoop l r (senseLoops 0 (readings.take l) s))
  have read : LoopRead 1 l r (senseLoops 0 (readings.take l) s) (senseLoop l r (senseLoops 0 (readings.take l) s)) :=
    senseLoop_read r (by rw [before.length]; omega)
  have whole : senseLoops 0 readings s =
      senseLoops (l + 1) (readings.drop (l + 1)) (senseLoop l r (senseLoops 0 (readings.take l) s)) := by
    conv_lhs => rw [split, senseLoops_append, length, Nat.zero_add]
    rfl
  rw [whole]
  exact ((read.preceded before (by omega)).followed (after.others l (by omega)) after.grows).mono (by omega)

/-! ### The hit lists and their bands (R127, R128) -/

/-- What the judgement of input `i` leaves alone, and what it makes of the input's cause. -/
structure BandJudged (i : Nat) (s t : State) : Prop where
  frame : t.cfg = s.cfg ∧ t.age = s.age ∧ t.crack.loops = s.crack.loops
  length : t.crack.inputs.length = s.crack.inputs.length
  others : ∀ m, m ≠ i → aeAt m t = aeAt m s
  causes : ∀ m, m ≠ i → (Cause.ae m ∈ t.alarm.causes ↔ Cause.ae m ∈ s.alarm.causes)
  falls : (aeAt i s).band = .burst → (aeAt i t).band ≠ .burst → Cause.ae i ∉ t.alarm.causes
  still : (aeAt i s).band = (aeAt i t).band → (Cause.ae i ∈ t.alarm.causes ↔ Cause.ae i ∈ s.alarm.causes)
  grows : AlarmsGrow s t

theorem bandOf_eq (n : Nat) (cfg : AeCfg) :
    bandOf n cfg = if n < cfg.nElev then .normal else if n < cfg.nBurst then .elevated else .burst := rfl

theorem bandChanged_alarmsGrow (i : Nat) (old new : AeBand) (s : State) : AlarmsGrow s (bandChanged i old new s) := by
  have bursts : AlarmsGrow s (causeOn (.ae i) (raiseOwn .aeBurst i (aeCfg i s).action (setEvent .aeBurst s))) :=
    ((setEvent_alarmsGrow .aeBurst s).trans (raiseOwn_alarmsGrow _ _ _ _)).trans (causeOn_alarmsGrow _ _)
  unfold bandChanged
  split
  · exact setEvent_alarmsGrow .aeElevated s
  · exact bursts
  · exact bursts
  · exact causeOff_alarmsGrow _ s
  · exact causeOff_alarmsGrow _ s
  · exact .refl s

theorem bandChanged_causes (i : Nat) (old new : AeBand) (s : State) {m : Nat} (hm : m ≠ i) :
    Cause.ae m ∈ (bandChanged i old new s).alarm.causes ↔ Cause.ae m ∈ s.alarm.causes := by
  unfold bandChanged
  split <;> simp [mem_causeOn, causeOff, hm]

theorem judgeBand_of_same {i : Nat} {s : State} (h : (aeAt i s).band = bandOf (aeAt i s).hits.length (aeCfg i s)) :
    judgeBand i s = s :=
  if_pos h

theorem judgeBand_of_change {i : Nat} {s : State} (h : (aeAt i s).band ≠ bandOf (aeAt i s).hits.length (aeCfg i s)) :
    judgeBand i s = bandChanged i (aeAt i s).band (bandOf (aeAt i s).hits.length (aeCfg i s))
      (updateAe (fun a => { a with band := bandOf (aeAt i s).hits.length (aeCfg i s) }) i s) :=
  if_neg h

theorem aeAt_judgeBand {i : Nat} {s : State} (hi : i < s.crack.inputs.length) :
    aeAt i (judgeBand i s) = { aeAt i s with band := bandOf (aeAt i s).hits.length (aeCfg i s) } := by
  by_cases h : (aeAt i s).band = bandOf (aeAt i s).hits.length (aeCfg i s)
  · rw [judgeBand_of_same h, ← h]
  · rw [judgeBand_of_change h, aeAt_of_inputs (by simp; rfl), aeAt_updateAe hi]

theorem judgeBand_judged {i : Nat} {s : State} (hi : i < s.crack.inputs.length) : BandJudged i s (judgeBand i s) := by
  by_cases h : (aeAt i s).band = bandOf (aeAt i s).hits.length (aeCfg i s)
  · rw [judgeBand_of_same h]
    exact ⟨⟨rfl, rfl, rfl⟩, rfl, fun _ _ => rfl, fun _ _ => Iff.rfl, fun hb hn => absurd hb hn, fun _ => Iff.rfl,
      .refl s⟩
  have band := congrArg AeInput.band (aeAt_judgeBand hi)
  refine ⟨⟨by simp, by simp, by simp⟩, ?_, fun m hm => ?_, fun m hm => ?_, fun hb hn => ?_, fun hs => ?_, ?_⟩
  · rw [judgeBand_of_change h]
    simp [updateAe]
  · rw [judgeBand_of_change h, aeAt_of_inputs (by simp; rfl), aeAt_updateAe_ne hm]
  · rw [judgeBand_of_change h, bandChanged_causes _ _ _ _ hm]
    rfl
  · rw [band] at hn
    rw [judgeBand_of_change h, hb]
    cases hnew : bandOf (aeAt i s).hits.length (aeCfg i s) with
    | burst => exact absurd hnew hn
    | normal => simp [bandChanged]
    | elevated => simp [bandChanged]
  · exact absurd (hs.trans band) h
  · rw [judgeBand_of_change h]
    exact (bandChanged_alarmsGrow i _ _ _).of_same rfl rfl

/-- What a scan makes of input `i`'s list, band and cause (R127, R128). -/
structure ListAged (i : Nat) (s t : State) : Prop where
  kept : agedHits i s = (aeAt i s).hits → aeAt i t = aeAt i s
  left : agedHits i s ≠ (aeAt i s).hits → aeAt i t =
    { aeAt i s with hits := agedHits i s, band := bandOf (agedHits i s).length (aeCfg i s) }
  falls : (aeAt i s).band = .burst → (aeAt i t).band ≠ .burst → Cause.ae i ∉ t.alarm.causes
  still : (aeAt i s).band = (aeAt i t).band → (Cause.ae i ∈ t.alarm.causes ↔ Cause.ae i ∈ s.alarm.causes)

theorem ageInput_aged {i : Nat} {s : State} (hi : i < s.crack.inputs.length) :
    ListAged i s (ageInput i s) ∧ BandJudged i s (ageInput i s) := by
  have same : (agedHits i s).length = (aeAt i s).hits.length ↔ agedHits i s = (aeAt i s).hits := by
    unfold agedHits
    exact ⟨fun h => List.filter_eq_self.mpr (List.length_filter_eq_length_iff.mp h), fun h => by rw [h]⟩
  by_cases h : agedHits i s = (aeAt i s).hits
  · have none : ageInput i s = s := if_pos (same.mpr h)
    rw [none]
    exact ⟨⟨fun _ => rfl, fun hn => absurd h hn, fun hb hn => absurd hb hn, fun _ => Iff.rfl⟩,
      ⟨rfl, rfl, rfl⟩, rfl, fun _ _ => rfl, fun _ _ => Iff.rfl, fun hb hn => absurd hb hn, fun _ => Iff.rfl, .refl s⟩
  · have judges : ageInput i s = judgeBand i (updateAe (fun a => { a with hits := agedHits i s }) i s) :=
      if_neg (mt same.mp h)
    have length : i < (updateAe (fun a => { a with hits := agedHits i s }) i s).crack.inputs.length := by
      simpa [updateAe] using hi
    have judged := judgeBand_judged length
    have before : aeAt i (updateAe (fun a => { a with hits := agedHits i s }) i s) =
        { aeAt i s with hits := agedHits i s } := aeAt_updateAe hi
    have after := aeAt_judgeBand length
    rw [before] at after
    obtain ⟨hframe, hlength, hothers, hcauses, hfalls, hstill, hgrows⟩ := judged
    rw [before] at hfalls hstill
    rw [judges]
    exact ⟨⟨fun hk => absurd hk h, fun _ => after, hfalls, hstill⟩, hframe, hlength.trans (modifyAt_length _ _ _),
      fun m hm => (hothers m hm).trans (aeAt_updateAe_ne hm), hcauses, hfalls, hstill, hgrows.of_same rfl rfl⟩

namespace ListAged

variable {i j : Nat} {s t u : State}

theorem followed (h : ListAged i s t) (other : BandJudged j t u) (hne : i ≠ j) : ListAged i s u := by
  obtain ⟨hkept, hleft, hfalls, hstill⟩ := h
  rw [← other.others i hne] at hkept hleft hfalls hstill
  exact ⟨hkept, hleft, fun hb hn hc => hfalls hb hn ((other.causes i hne).mp hc),
    fun hs => (other.causes i hne).trans (hstill hs)⟩

/-- The station before may be another one with the same age, settings, input and cause. -/
theorem of_before (h : ListAged i t u) (hage : t.age = s.age) (hcfg : t.cfg = s.cfg) (hin : aeAt i t = aeAt i s)
    (hcause : Cause.ae i ∈ t.alarm.causes ↔ Cause.ae i ∈ s.alarm.causes) : ListAged i s u := by
  have aged : agedHits i t = agedHits i s := by rw [agedHits, agedHits, hin, hage, aeCfg, aeCfg, hcfg]
  have cfg : aeCfg i t = aeCfg i s := by rw [aeCfg, aeCfg, hcfg]
  obtain ⟨hkept, hleft, hfalls, hstill⟩ := h
  rw [hin, aged] at hkept hleft
  rw [hin] at hfalls hstill
  rw [cfg] at hleft
  exact ⟨hkept, hleft, hfalls, fun hs => (hstill hs).trans hcause⟩

theorem preceded (h : ListAged i t u) (other : BandJudged j s t) (hne : i ≠ j) : ListAged i s u := by
  obtain ⟨hcfg, hage, -⟩ := other.frame
  exact h.of_before hage hcfg (other.others i hne) (other.causes i hne)

end ListAged

/-- The four inputs in their order. -/
def inputsAged (s : State) : State :=
  ageInput 3 (ageInput 2 (ageInput 1 (ageInput 0 s)))

theorem inputsAged_frame (s : State) :
    (inputsAged s).crack.loops = s.crack.loops ∧ (inputsAged s).crack.timer = s.crack.timer ∧
      (inputsAged s).pins.loopReadings = s.pins.loopReadings := by
  simp [inputsAged]

theorem inputsAged_aged {i : Nat} {s : State} (hi : i < 4) (hinputs : s.crack.inputs.length = 4) :
    ListAged i s (inputsAged s) := by
  obtain ⟨aged0, judged0⟩ := ageInput_aged (i := 0) (s := s) (by omega)
  have length1 := judged0.length
  obtain ⟨aged1, judged1⟩ := ageInput_aged (i := 1) (s := ageInput 0 s) (by omega)
  have length2 := judged1.length
  obtain ⟨aged2, judged2⟩ := ageInput_aged (i := 2) (s := ageInput 1 (ageInput 0 s)) (by omega)
  have length3 := judged2.length
  obtain ⟨aged3, judged3⟩ := ageInput_aged (i := 3) (s := ageInput 2 (ageInput 1 (ageInput 0 s))) (by omega)
  match i, hi with
  | 0, _ => exact ((aged0.followed judged1 (by decide)).followed judged2 (by decide)).followed judged3 (by decide)
  | 1, _ => exact ((aged1.preceded judged0 (by decide)).followed judged2 (by decide)).followed judged3 (by decide)
  | 2, _ => exact ((aged2.preceded judged1 (by decide)).preceded judged0 (by decide)).followed judged3 (by decide)
  | 3, _ => exact ((aged3.preceded judged2 (by decide)).preceded judged1 (by decide)).preceded judged0 (by decide)

theorem ageInput_alarmsGrow (i : Nat) (s : State) : AlarmsGrow s (ageInput i s) := by
  have judges (u : State) : AlarmsGrow u (judgeBand i u) := by
    unfold judgeBand
    dsimp only
    split
    · exact .refl u
    · exact (bandChanged_alarmsGrow i _ _ _).of_same rfl rfl
  unfold ageInput
  dsimp only
  split
  · exact .refl s
  · exact (judges _).of_same rfl rfl

theorem inputsAged_alarmsGrow (s : State) : AlarmsGrow s (inputsAged s) :=
  (((ageInput_alarmsGrow 0 s).trans (ageInput_alarmsGrow 1 _)).trans (ageInput_alarmsGrow 2 _)).trans
    (ageInput_alarmsGrow 3 _)

/-! ### The loop scan and the reading taken (O36) -/

/-- The station at the scan, its timer reloaded and the readings sensed, before the first loop's debounce. -/
def scanBegun (readings : List LoopReading) (s : State) : State :=
  { s with crack.timer := some (s.age + 100), pins.loopReadings := readings.take 8 }

theorem exec_loopScan {s : State} {readings : List LoopReading} {due : Nat} (hphase : s.loader.phase = .running)
    (htimer : s.crack.timer = some due) (hdue : due ≤ s.age) :
    exec (.loopScan readings) s =
      .next (startCommands (inputsAged (senseLoops 0 (readings.take 8) (scanBegun readings s)))) :=
  congrArg (fun u => Host.Outcome.next (startCommands u)) (timerEvent_of_due hphase htimer hdue)

theorem exec_loopReadingTaken {l : Nat} {s : State} (hphase : s.loader.phase = .running) :
    exec (.loopReadingTaken l) s = .next (startCommands (takeCandidate l s)) :=
  congrArg (fun u => Host.Outcome.next (startCommands u)) (whenRunning_of_running hphase)

theorem takeCandidate_of_reached {l n : Nat} {r : LoopReading} {s : State}
    (hcandidate : (loopAt l s).candidate = some (r, n))
    (henabled : (loopAt l s).state ≠ .disabled) (hcount : debounceOf l s ≤ n + 1) :
    takeCandidate l s = takeReading l r s := by
  unfold takeCandidate
  rw [hcandidate]
  exact if_pos ⟨henabled, by rwa [debounceScans_eq]⟩

theorem takeCandidate_of_waiting {l : Nat} {s : State}
    (h : (loopAt l s).candidate = none ∨ (loopAt l s).state = .disabled ∨
      ∃ r n, (loopAt l s).candidate = some (r, n) ∧ n + 1 < debounceOf l s) : takeCandidate l s = s := by
  unfold takeCandidate
  split
  · rename_i r n hcandidate
    refine if_neg fun ⟨henabled, hcount⟩ => ?_
    rcases h with h | h | ⟨r', n', h, hlt⟩
    · exact absurd (h.symm.trans hcandidate) (by simp)
    · exact henabled h
    · cases h.symm.trans hcandidate
      rw [debounceScans_eq] at hcount
      omega
  · rfl

/-- Settles O36: each loop through its debounce, each input through its list, and the reading taken alone. -/
theorem loopReadingsAreDebouncedAndTaken : Obligations.LoopReadingsAreDebouncedAndTaken := by
  refine ⟨fun s readings due hphase htimer hdue hreadings hloops => ?_,
    fun s readings due hphase htimer hdue hinputs => ?_, fun s l hphase hrest => ?_,
    fun s l n hphase hstate hcandidate hcount hentries hl => ?_, fun s l n r hphase hfault hcandidate hcount => ?_⟩
  · obtain ⟨hloopsKept, htimerKept, hreadingsKept⟩ :=
      inputsAged_frame (senseLoops 0 (readings.take 8) (scanBegun readings s))
    have all : readings.take 8 = readings := List.take_of_length_le (by omega)
    refine ⟨_, exec_loopScan hphase htimer hdue, htimerKept.trans (by simp [scanBegun]),
      hreadingsKept.trans (by simp [scanBegun, all]), fun l r hr => ?_⟩
    have read : LoopRead readings.length l r (scanBegun readings s) (senseLoops 0 readings (scanBegun readings s)) :=
      senseLoops_read hr (by rw [hreadings]; exact Nat.le_of_eq hloops.symm)
    rw [hreadings] at read
    rw [all] at hloopsKept ⊢
    obtain ⟨hdisabled, hsame, hwaits, htaken⟩ := read.followed (loopAt_of_loops hloopsKept) (inputsAged_alarmsGrow _)
    exact ⟨hdisabled, hsame, hwaits, htaken⟩
  · refine ⟨_, exec_loopScan hphase htimer hdue, fun i hi => ?_⟩
    have sensed := senseLoops_sensed (readings.take 8) 0 (scanBegun readings s)
    obtain ⟨hcfg, -, hin⟩ := sensed.frame
    have aged := inputsAged_aged (s := senseLoops 0 (readings.take 8) (scanBegun readings s)) hi
      (by rw [hin]; exact hinputs)
    obtain ⟨hkept, hleft, hfalls, hstill⟩ := aged.of_before (s := s) (by simp [scanBegun]) hcfg (aeAt_of_inputs hin)
      (sensed.causes i)
    exact ⟨hkept, hleft, hfalls, hstill⟩
  · exact (exec_loopReadingTaken hphase).trans (by rw [takeCandidate_of_waiting hrest])
  · have takes := (exec_loopReadingTaken (l := l) hphase).trans
      (by rw [takeCandidate_of_reached hcandidate (by simp [hstate]) hcount])
    obtain ⟨hentry, hentries'⟩ := takeReading_breaks_entries hstate hentries hl
    obtain ⟨hevent, hraised, hcause, hlatch, hlists⟩ := takeReading_breaks_told hstate
    have sensed : LoopsSensed (fun m => m = l) 1 s (takeReading l .opened s) := .takeReading (l := l) (by exact rfl) _ _
    exact ⟨_, takes, loopAt_takeReading_breaks hstate, hentry, fun m hm => ⟨sensed.others m hm, hentries' m hm⟩, hevent,
      hraised, hcause, hlatch, hlists⟩
  · have enabled : (loopAt l s).state ≠ .disabled := by rcases hfault with ⟨h, -⟩ | ⟨h | h, -⟩ <;> simp [h]
    have takes := (exec_loopReadingTaken (l := l) hphase).trans
      (by rw [takeCandidate_of_reached hcandidate enabled hcount])
    obtain ⟨hraised, hcauses, hlatch, hentries, hlists⟩ := takeReading_faults_told hfault
    have sensed : LoopsSensed (fun m => m = l) 1 s (takeReading l r s) := .takeReading (l := l) (by exact rfl) _ _
    exact ⟨_, takes, loopAt_takeReading_faults hfault, hentries, fun m hm => sensed.others m hm, hraised, hcauses,
      hlatch, hlists⟩

/-! ### The hits of an AE input (O37) -/

/-- The input with the hit in its list, its count raised and its dead time begun, before its band is judged (R126,
R127). -/
def hitListed (i : Nat) (s : State) : State :=
  updateAe (fun a => { a with
    hits := (if 32 ≤ (agedHits i s).length then (agedHits i s).drop 1 else agedHits i s) ++ [s.age]
    dead := some (s.age + (aeCfg i s).deadTime)
    count := if a.count < 255 then a.count + 1 else a.count }) i s

theorem inDeadTime_of_dead {i due : Nat} {s : State} (h : (aeAt i s).dead = some due) :
    inDeadTime i s = decide (s.age ≤ due) := by
  rw [inDeadTime, h]

theorem takePulse_of_accepted {i : Nat} {s : State} (hi : i < s.crack.inputs.length)
    (h : ∀ due, (aeAt i s).dead = some due → due < s.age) : takePulse i s = judgeBand i (hitListed i s) := by
  refine if_neg fun hmerged => ?_
  rcases hmerged with hdead | hpast
  · cases hcase : (aeAt i s).dead with
    | none =>
      rw [inDeadTime, hcase] at hdead
      exact absurd hdead Bool.false_ne_true
    | some due =>
      rw [inDeadTime_of_dead hcase] at hdead
      exact absurd (of_decide_eq_true hdead) (Nat.not_le.mpr (h due hcase))
  · exact absurd hi (Nat.not_lt.mpr hpast)

/-- Settles O37: the hit merged, the hit accepted and its band judged, and the end of the dead time. -/
theorem hitsAreMergedOrAccepted : Obligations.HitsAreMergedOrAccepted := by
  have hits (i : Nat) {s : State} (hphase : s.loader.phase = .running) :
      exec (.aeHit i) s = .next (startCommands (pulseEvent i s)) :=
    congrArg (fun u => Host.Outcome.next (startCommands u)) (whenRunning_of_running hphase)
  refine ⟨fun s i due hphase hdead hwithin => ?_, fun s i hphase htimer hi hdead => ?_,
    fun s i due hphase hdead hdue => congrArg _ (timerEvent_of_due hphase hdead hdue)⟩
  · have merged : takePulse i s = s := if_pos (.inl (by rw [inDeadTime_of_dead hdead]; exact decide_eq_true hwithin))
    have rests : pulseEvent i s = s := by
      unfold pulseEvent
      rw [merged]
      exact ite_self s
    rw [hits i hphase, rests]
  · have started : s.crack.timer.isSome = true := Option.isSome_iff_ne_none.mpr htimer
    have accepts : exec (.aeHit i) s = .next (startCommands (judgeBand i (hitListed i s))) := by
      rw [hits i hphase, pulseEvent, if_pos started, takePulse_of_accepted hi hdead]
    have length : i < (hitListed i s).crack.inputs.length := by simpa [hitListed, updateAe] using hi
    have listed : aeAt i (hitListed i s) = _ := aeAt_updateAe hi
    have after := aeAt_judgeBand length
    have judged := judgeBand_judged length
    have bandBefore : (aeAt i (hitListed i s)).band = (aeAt i s).band :=
      (congrArg AeInput.band listed).trans rfl
    have bandAfter : (aeAt i (judgeBand i (hitListed i s))).band =
      bandOf (aeAt i (hitListed i s)).hits.length (aeCfg i (hitListed i s)) := congrArg AeInput.band after
    have changed {old new : AeBand} (hold : (aeAt i s).band = old)
        (hnew : (aeAt i (judgeBand i (hitListed i s))).band = new) (hne : old ≠ new) :
        judgeBand i (hitListed i s) =
          bandChanged i old new (updateAe (fun a => { a with band := new }) i (hitListed i s)) := by
      rw [judgeBand_of_change (by rw [bandBefore, ← bandAfter, hold, hnew]; exact hne), ← bandAfter, hnew, bandBefore,
        hold]
    refine ⟨_, accepts, after.trans (by rw [listed]; rfl),
      fun m hm => (judged.others m hm).trans (aeAt_updateAe_ne hm), fun hold hnew => ?_, fun hold hnew => ?_,
      fun hsame => ?_⟩
    · rw [changed hold hnew (by decide)]
      exact ⟨hasEvent_setEvent .aeElevated _, by simp [bandChanged, hitListed, updateAe]⟩
    · rw [changed hold hnew (by decide)]
      refine ⟨?_, ?_, (mem_causeOn _ _ _).mpr (.inr rfl), by simp [bandChanged, hitListed, updateAe, aeCfg]⟩
      · exact ((raiseOwn_alarmsGrow _ _ _ _).trans (causeOn_alarmsGrow _ _)).line.events 3
          (hasEvent_setEvent .aeBurst _)
      · exact (causeOn_alarmsGrow _ _).line.events 5 (raiseOwn_event _ _ _ _)
    · rw [judgeBand_of_same (bandBefore.trans (hsame.trans bandAfter))]
      exact ⟨rfl, rfl⟩

end Sys2Proof.Machine

/-! The strain scanner (chapter 6): what an operation leaves of the channels, the limit check and the settle judgement
(O33), the ZERO (O34) and the shunt (O35). -/
namespace Sys2Proof.Machine

open Sys2Proof

-- One proof after the other: the threads of the check, which compiles the whole text at once, share one memory limit.
set_option Elab.async false

/-! ### The record of a channel -/

theorem map_mapFrom {α β : Type} {f : Nat → α → α} {g : α → β} (hf : ∀ c x, g (f c x) = g x) (k : Nat) (l : List α) :
    (mapFrom f k l).map g = l.map g := by
  induction l generalizing k with
  | nil => rfl
  | cons x r ih => rw [mapFrom, List.map_cons, List.map_cons, hf, ih]

theorem channelAt_of_channels {c : Nat} {s t : State} (h : t.scan.channels = s.scan.channels) :
    channelAt c t = channelAt c s := by
  rw [channelAt, channelAt, h]

/-- A number past the last channel reads a DISABLED one. -/
theorem lt_of_channelAt_ne_disabled {c : Nat} {s : State} (h : (channelAt c s).state ≠ .disabled) :
    c < s.scan.channels.length := by
  refine Nat.lt_of_not_le fun hle => h ?_
  rw [channelAt, List.getD_eq_default _ _ hle]
  rfl

theorem channelAt_updateEnabled (f : Nat → Channel → Channel) (c : Nat) (s : State) :
    channelAt c (updateEnabled f s) =
      if (channelAt c s).state = .disabled then channelAt c s else f c (channelAt c s) := by
  rw [channelAt, updateEnabled, mapFrom_getD]
  by_cases hc : c < s.scan.channels.length
  · rw [if_pos hc, Nat.zero_add]
    by_cases hstate : (channelAt c s).state = .disabled
    · rw [if_pos hstate]
      exact if_neg (by simpa [channelEnabled, channelAt] using hstate)
    · rw [if_neg hstate]
      exact if_pos (by simpa [channelEnabled, channelAt] using hstate)
  · have disabled : channelAt c s = Channel.reset := List.getD_eq_default _ _ (Nat.not_lt.mp hc)
    rw [if_neg hc, disabled]
    rfl

theorem channelAt_updateEnabled_of_enabled {f : Nat → Channel → Channel} {c : Nat} {s : State}
    (h : (channelAt c s).state ≠ .disabled) : channelAt c (updateEnabled f s) = f c (channelAt c s) := by
  rw [channelAt_updateEnabled, if_neg h]

theorem channelAt_updateEnabled_of_disabled {f : Nat → Channel → Channel} {c : Nat} {s : State}
    (h : (channelAt c s).state = .disabled) : channelAt c (updateEnabled f s) = channelAt c s := by
  rw [channelAt_updateEnabled, if_pos h]

theorem channelAt_updateChannel {f : Channel → Channel} {c : Nat} {s : State} (h : (channelAt c s).state ≠ .disabled) :
    channelAt c (updateChannel f c s) = f (channelAt c s) := by
  rw [channelAt, updateChannel, modifyAt_getD, if_pos ⟨rfl, lt_of_channelAt_ne_disabled h⟩]
  rfl

theorem channelAt_updateChannel_ne {f : Channel → Channel} {c m : Nat} {s : State} (h : m ≠ c) :
    channelAt m (updateChannel f c s) = channelAt m s :=
  modifyAt_getD_ne _ _ _ h.symm

/-! ### What an operation leaves of every channel -/

/-- The channels of `s` and `t` agree in what `g` reads of them. -/
def ChannelsAgree {α : Type} (g : Channel → α) (s t : State) : Prop :=
  t.scan.channels.map g = s.scan.channels.map g

/-- What `g` reads is neither the settle reference nor a sum of the shunt, which a change of state discards. -/
structure Blind {α : Type} (g : Channel → α) : Prop where
  ref : ∀ ch r, g { ch with ref := r } = g ch
  sums : ∀ ch a b, g { ch with beforeSum := a, onSum := b } = g ch

/-- The averaging run and the latest average of a channel. -/
def averagesOf (ch : Channel) : Int × Bool × Bool × Int × Bool × Bool :=
  (ch.sum, ch.overMark, ch.shuntMark, ch.latest, ch.latestOver, ch.latestShunt)

/-- The state of a channel, its exceed run and its cause. -/
def limitsOf (ch : Channel) : ChannelState × Nat × Bool :=
  (ch.state, ch.exceed, ch.cause)

theorem blind_averagesOf : Blind averagesOf := ⟨fun _ _ => rfl, fun _ _ _ => rfl⟩

theorem blind_limitsOf : Blind limitsOf := ⟨fun _ _ => rfl, fun _ _ _ => rfl⟩

namespace ChannelsAgree

variable {α : Type} {g : Channel → α} {s t u : State}

theorem refl (s : State) : ChannelsAgree g s s := rfl

theorem trans (h : ChannelsAgree g s t) (k : ChannelsAgree g t u) : ChannelsAgree g s u :=
  Eq.trans k h

theorem of_channels (h : t.scan.channels = s.scan.channels) : ChannelsAgree g s t :=
  congrArg (List.map g) h

theorem of_mapFrom {f : Nat → Channel → Channel} {k : Nat} (h : t.scan.channels = mapFrom f k s.scan.channels)
    (hf : ∀ c ch, g (f c ch) = g ch) : ChannelsAgree g s t := by
  rw [ChannelsAgree, h, map_mapFrom hf]

/-- What `g` reads of channel `c`. -/
theorem read (h : ChannelsAgree g s t) (c : Nat) : g (channelAt c t) = g (channelAt c s) := by
  have mapped (u : State) : g (channelAt c u) = (u.scan.channels.map g).getD c (g Channel.reset) := by
    rw [channelAt, List.getD_eq_getElem?_getD, List.getD_eq_getElem?_getD, List.getElem?_map]
    cases u.scan.channels[c]? <;> rfl
  rw [mapped, mapped, h]

theorem updateEnabled {f : Nat → Channel → Channel} (hf : ∀ c ch, g (f c ch) = g ch) (s : State) :
    ChannelsAgree g s (updateEnabled f s) :=
  of_mapFrom rfl fun c ch => by
    split
    · exact hf c ch
    · rfl

theorem updateChannel {f : Channel → Channel} (hf : ∀ ch, g (f ch) = g ch) (c : Nat) (s : State) :
    ChannelsAgree g s (updateChannel f c s) := by
  refine List.ext_getElem? fun i => ?_
  simp only [Machine.updateChannel, List.getElem?_map, modifyAt_getElem?]
  split <;> cases s.scan.channels[i]? <;> simp [hf]

theorem leaveDwellIf (hg : Blind g) (was : Bool) (s : State) : ChannelsAgree g s (leaveDwellIf was s) := by
  unfold Machine.leaveDwellIf
  split
  · exact of_mapFrom rfl fun _ ch => hg.ref ch none
  · exact refl s

theorem setSequencer (q : Sequencer) (s : State) : ChannelsAgree g s (setSequencer q s) :=
  of_channels (by simp)

theorem leaveShunt (hg : Blind g) (s : State) : ChannelsAgree g s (leaveShunt s) :=
  of_mapFrom (f := fun _ ch => { ch with beforeSum := 0, onSum := 0 }) (k := 0) (by simp [Machine.leaveShunt])
    fun _ ch => hg.sums ch 0 0

theorem scannerOnLatch (hg : Blind g) (new : Latch) (s : State) : ChannelsAgree g s (scannerOnLatch new s) := by
  unfold Machine.scannerOnLatch
  split
  · refine (leaveShunt hg s).trans (of_channels ?_)
    simp [abortShunt]
  · exact refl s

theorem sequencerOnLatch (hg : Blind g) (new : Latch) (s : State) : ChannelsAgree g s (sequencerOnLatch new s) := by
  have held : ChannelsAgree g s (enterHeld s) := (setSequencer _ s).trans (leaveDwellIf hg _ _)
  have unloading : ChannelsAgree g s (enterUnloading s) := (setSequencer _ s).trans (leaveDwellIf hg _ _)
  unfold Machine.sequencerOnLatch
  dsimp only
  split
  · split
    · exact unloading
    · split
      · exact held
      · exact refl s
  · split
    · exact unloading
    · exact refl s
  · split
    · exact unloading
    · exact refl s
  · exact refl s

theorem actuatorOnLatch (hg : Blind g) (new : Latch) (s : State) : ChannelsAgree g s (actuatorOnLatch new s) := by
  unfold Machine.actuatorOnLatch
  split
  · have idle (u : State) : ChannelsAgree g u (tripIdle u) := (setSequencer _ u).trans (leaveDwellIf hg _ _)
    unfold enterTripped
    exact (of_channels (by simp)).trans (idle _)
  · exact refl s

theorem raiseAlarm (hg : Blind g) (r : Raise) (s : State) : ChannelsAgree g s (raiseAlarm r s) := by
  have recorded : ChannelsAgree g s (raiseRecorded r s) := of_channels (by simp)
  rw [raiseAlarm_eq]
  split
  · exact recorded
  · exact ((recorded.trans (actuatorOnLatch hg _ _)).trans (sequencerOnLatch hg _ _)).trans (scannerOnLatch hg _ _)

theorem raiseOwn (hg : Blind g) (kind : AlarmKind) (channel : Nat) (action : Latch) (s : State) :
    ChannelsAgree g s (raiseOwn kind channel action s) :=
  raiseAlarm hg _ s

theorem advanceZero (hzero : ∀ ch v, g { ch with zero := v } = g ch) (hraw : ∀ ch v, g { ch with rawSum := v } = g ch)
    (codes : List Int) (s : State) : ChannelsAgree g s (advanceZero codes s) := by
  unfold Machine.advanceZero
  split
  · exact refl s
  · dsimp only
    split
    · have taken := updateEnabled (f := fun c ch => { ch with rawSum := ch.rawSum + codes.getD c 0 })
        (fun _ ch => hraw ch _) s
      split
      · refine (taken.trans (updateEnabled (fun _ ch => hzero ch (roundDiv ch.rawSum 64)) _)).trans (of_channels ?_)
        simp [zeroCompletes]
      · exact taken
    · exact of_channels (by simp)

end ChannelsAgree

/-! ### Judging the channels one by one (R99, R114) -/

/-- From `s` to `t` only the channels of `P` have been judged, with at most `n` raises: the others keep what `g` reads
of them and their cause, and no channel's average changes. -/
structure ChannelsJudged {α : Type} (g : Channel → α) (P : Nat → Prop) (n : Nat) (s t : State) : Prop where
  frame : t.cfg = s.cfg ∧ t.loader = s.loader
  others : ∀ c, ¬ P c → g (channelAt c t) = g (channelAt c s)
  averages : ChannelsAgree averagesOf s t
  grows : AlarmsGrow s t
  room : t.alarm.records.length ≤ s.alarm.records.length + n
  causes : ∀ c, ¬ P c → (Cause.strain c ∈ t.alarm.causes ↔ Cause.strain c ∈ s.alarm.causes)
  quiet : s.scan.shunt = .none → t.scan.shunt = .none

namespace ChannelsJudged

variable {α : Type} {g : Channel → α} {P Q : Nat → Prop} {n k c : Nat} {s t u : State}

theorem trans (h : ChannelsJudged g P n s t) (h' : ChannelsJudged g P k t u) : ChannelsJudged g P (n + k) s u where
  frame := by simp [h'.frame, h.frame]
  others c hc := (h'.others c hc).trans (h.others c hc)
  averages := h.averages.trans h'.averages
  grows := h.grows.trans h'.grows
  room := by have := h.room; have := h'.room; omega
  causes c hc := (h'.causes c hc).trans (h.causes c hc)
  quiet hs := h'.quiet (h.quiet hs)

theorem mono (h : ChannelsJudged g P n s t) (hP : ∀ c, P c → Q c) (hn : n ≤ k) : ChannelsJudged g Q k s t :=
  { h with
    others := fun c hc => h.others c fun hp => hc (hP c hp)
    room := h.room.trans (by omega)
    causes := fun c hc => h.causes c fun hp => hc (hP c hp) }

/-- A step that leaves the alarm unit alone, and of each channel what `g` reads and its average. -/
theorem of_agree (hframe : t.cfg = s.cfg ∧ t.loader = s.loader ∧ t.alarm = s.alarm)
    (hshunt : s.scan.shunt = .none → t.scan.shunt = .none) (hline : LineGrows s t) (agree : ChannelsAgree g s t)
    (averages : ChannelsAgree averagesOf s t) : ChannelsJudged g P 0 s t := by
  obtain ⟨hcfg, hloader, halarm⟩ := hframe
  exact ⟨⟨hcfg, hloader⟩, fun c _ => agree.read c, averages, .of_alarm_eq halarm hline, by rw [halarm]; rfl,
    fun _ _ => by rw [halarm], hshunt⟩

theorem of_channels (hframe : t.cfg = s.cfg ∧ t.loader = s.loader ∧ t.alarm = s.alarm)
    (hshunt : s.scan.shunt = .none → t.scan.shunt = .none) (hline : LineGrows s t)
    (hchannels : t.scan.channels = s.scan.channels) : ChannelsJudged g P 0 s t :=
  of_agree hframe hshunt hline (.of_channels hchannels) (.of_channels hchannels)

theorem refl (s : State) : ChannelsJudged g P 0 s s :=
  of_channels ⟨rfl, rfl, rfl⟩ id (.refl s) rfl

theorem updateChannel {f : Channel → Channel} (hP : P c) (hf : ∀ ch, averagesOf (f ch) = averagesOf ch) (s : State) :
    ChannelsJudged g P 0 s (updateChannel f c s) where
  frame := ⟨rfl, rfl⟩
  others _ hm := congrArg g (channelAt_updateChannel_ne fun h => hm (h ▸ hP))
  averages := .updateChannel hf c s
  grows := .of_alarm_eq rfl (.of_line_eq rfl)
  room := Nat.le_refl _
  causes _ _ := Iff.rfl
  quiet h := h

theorem causeOn (hP : P c) (s : State) : ChannelsJudged g P 0 s (causeOn (.strain c) s) where
  frame := by simp
  others _ _ := congrArg g (channelAt_of_channels (by simp))
  averages := .of_channels (by simp)
  grows := causeOn_alarmsGrow _ s
  room := by simp
  causes m hm := by
    have other : m ≠ c := fun h => hm (h ▸ hP)
    simp [mem_causeOn, other]
  quiet := by simp

theorem causeOff (hP : P c) (s : State) : ChannelsJudged g P 0 s (causeOff (.strain c) s) where
  frame := by simp
  others _ _ := congrArg g (channelAt_of_channels (by simp))
  averages := .of_channels (by simp)
  grows := causeOff_alarmsGrow _ s
  room := by simp
  causes m hm := by
    have other : m ≠ c := fun h => hm (h ▸ hP)
    rw [mem_causeOff]
    simp [other]
  quiet := by simp

theorem raiseOwn (hg : Blind g) (kind : AlarmKind) (channel : Nat) (action : Latch) (s : State) :
    ChannelsJudged g P 1 s (raiseOwn kind channel action s) where
  frame := by simp
  others c _ := (ChannelsAgree.raiseOwn hg kind channel action s).read c
  averages := .raiseOwn blind_averagesOf kind channel action s
  grows := raiseOwn_alarmsGrow kind channel action s
  room := by rw [raiseOwn_records]; exact storeRaise_room
  causes _ _ := by simp
  quiet hs := by
    have recorded : (raiseRecorded (ownRaise kind channel action s) s).scan.shunt = .none := by simpa using hs
    rw [Machine.raiseOwn, raiseAlarm_eq]
    split
    · exact recorded
    · rw [handLatch, scannerOnLatch_of_quiet (by simpa using recorded)]
      simpa using recorded

end ChannelsJudged

/-! ### The limit check (R100) -/

theorem isBeyond_iff (c : Nat) (s : State) : isBeyond (channelCfg c s) (channelAt c s) = true ↔ Beyond c s := by
  simp [isBeyond, Beyond, or_assoc]

/-- Neither does an average within its limits agree with a cause that stands, nor one beyond them with a clear one. -/
theorem isBeyond_eq_cause_iff (c : Nat) (s : State) :
    isBeyond (channelCfg c s) (channelAt c s) = (channelAt c s).cause ↔
      (Beyond c s ↔ (channelAt c s).cause = true) := by
  rw [← isBeyond_iff]
  cases isBeyond (channelCfg c s) (channelAt c s) <;> cases (channelAt c s).cause <;> simp

section
variable {c : Nat} {s : State}

theorem limitCheck_of_rest (h : (channelAt c s).state ≠ .ok ∨ (channelAt c s).latestShunt = true) :
    limitCheck c s = s := by
  refine if_neg fun ⟨hok, hclear⟩ => ?_
  rcases h with h | h
  · exact h hok
  · rw [hclear] at h
    exact Bool.false_ne_true h

theorem limitCheck_of_agreed (hok : (channelAt c s).state = .ok) (hclear : (channelAt c s).latestShunt = false)
    (h : Beyond c s ↔ (channelAt c s).cause = true) :
    limitCheck c s = updateChannel (fun ch => { ch with exceed := 0 }) c s :=
  (if_pos ⟨hok, hclear⟩).trans (if_pos ((isBeyond_eq_cause_iff c s).mpr h))

theorem limitCheck_of_counted (hok : (channelAt c s).state = .ok) (hclear : (channelAt c s).latestShunt = false)
    (h : ¬ (Beyond c s ↔ (channelAt c s).cause = true))
    (hfew : (channelAt c s).exceed + 1 < (channelCfg c s).exceedCount) :
    limitCheck c s = updateChannel (fun ch => { ch with exceed := ch.exceed + 1 }) c s :=
  (if_pos ⟨hok, hclear⟩).trans ((if_neg (mt (isBeyond_eq_cause_iff c s).mp h)).trans (if_neg (Nat.not_le.mpr hfew)))

theorem limitCheck_of_reached (hok : (channelAt c s).state = .ok) (hclear : (channelAt c s).latestShunt = false)
    (h : ¬ (Beyond c s ↔ (channelAt c s).cause = true))
    (hmany : (channelCfg c s).exceedCount ≤ (channelAt c s).exceed + 1) :
    limitCheck c s = exceedReached c s :=
  (if_pos ⟨hok, hclear⟩).trans ((if_neg (mt (isBeyond_eq_cause_iff c s).mp h)).trans (if_pos hmany))

/-- The exceed run at M with the cause set: the cause is gone (R100). -/
theorem exceedReached_of_cause (hcause : (channelAt c s).cause = true) :
    exceedReached c s =
      causeOff (.strain c) (updateChannel (fun ch => { ch with cause := false, exceed := 0 }) c s) :=
  if_pos hcause

/-- The exceed run at M with the cause clear: STRAIN_LIMIT is raised and the cause reported (R100). -/
theorem exceedReached_of_clear (hcause : (channelAt c s).cause = false) :
    exceedReached c s =
      causeOn (.strain c) (updateChannel (fun ch => { ch with cause := true, exceed := 0 }) c
        (raiseOwn .strainLimit c (channelCfg c s).action s)) :=
  if_neg (by rw [hcause]; exact Bool.false_ne_true)

theorem exceedReached_judged {P : Nat → Prop} (hP : P c) : ChannelsJudged limitsOf P 1 s (exceedReached c s) := by
  unfold exceedReached
  split
  · exact ((ChannelsJudged.updateChannel (f := fun ch => { ch with cause := false, exceed := 0 }) hP (fun _ => rfl)
      s).trans (.causeOff hP _)).mono (k := 1) (fun _ h => h) (by decide)
  · exact ((ChannelsJudged.raiseOwn blind_limitsOf .strainLimit c (channelCfg c s).action s).trans
      (.updateChannel (f := fun ch => { ch with cause := true, exceed := 0 }) hP (fun _ => rfl) _)).trans
        (.causeOn hP _)

theorem limitCheck_judged {P : Nat → Prop} (hP : P c) : ChannelsJudged limitsOf P 1 s (limitCheck c s) := by
  unfold limitCheck
  dsimp only
  split
  · split
    · exact (ChannelsJudged.updateChannel (f := fun ch => { ch with exceed := 0 }) hP (fun _ => rfl) s).mono (k := 1)
        (fun _ h => h) (by decide)
    · split
      · exact exceedReached_judged hP
      · exact (ChannelsJudged.updateChannel (f := fun ch => { ch with exceed := ch.exceed + 1 }) hP (fun _ => rfl)
          s).mono (k := 1) (fun _ h => h) (by decide)
  · exact (ChannelsJudged.refl s).mono (k := 1) (fun _ h => h) (by decide)

/-- What an exceed run at M with the cause clear leaves (R100). -/
theorem exceedReached_sets (hok : (channelAt c s).state = .ok) (hcause : (channelAt c s).cause = false) :
    (channelAt c (exceedReached c s)).cause = true ∧ (channelAt c (exceedReached c s)).exceed = 0 ∧
      Cause.strain c ∈ (exceedReached c s).alarm.causes ∧ HasEvent 5 (exceedReached c s) ∧
      (exceedReached c s).alarm.latch = latchMax s.alarm.latch (channelCfg c s).action ∧
      (RoomFor 1 s → Listed .strainLimit c s (exceedReached c s)) := by
  have state : (channelAt c (raiseOwn .strainLimit c (channelCfg c s).action s)).state = .ok :=
    (congrArg Prod.fst ((ChannelsAgree.raiseOwn blind_limitsOf .strainLimit c (channelCfg c s).action s).read c)).trans
      hok
  have record : channelAt c (exceedReached c s) =
      { channelAt c (raiseOwn .strainLimit c (channelCfg c s).action s) with cause := true, exceed := 0 } := by
    rw [exceedReached_of_clear hcause, channelAt_of_channels (by simp; rfl), channelAt_updateChannel (by simp [state])]
  refine ⟨by rw [record], by rw [record], ?_, ?_, ?_, fun room => ?_⟩
  · rw [exceedReached_of_clear hcause]
    exact (mem_causeOn _ _ _).mpr (.inr rfl)
  · rw [exceedReached_of_clear hcause]
    exact (causeOn_alarmsGrow _ _).line.events 5 (raiseOwn_event .strainLimit c (channelCfg c s).action s)
  · rw [exceedReached_of_clear hcause]
    simp [updateChannel]
  · rw [exceedReached_of_clear hcause]
    exact (raiseOwn_lists room).grows ((causeOn_alarmsGrow (.strain c) _).of_same rfl rfl)

/-- What an exceed run at M with the cause set leaves (R100). -/
theorem exceedReached_clears (hok : (channelAt c s).state = .ok)
    (hcause : (channelAt c s).cause = true) :
    (channelAt c (exceedReached c s)).exceed = 0 ∧ (channelAt c (exceedReached c s)).cause = false ∧
      Cause.strain c ∉ (exceedReached c s).alarm.causes := by
  have record : channelAt c (exceedReached c s) = { channelAt c s with cause := false, exceed := 0 } := by
    rw [exceedReached_of_cause hcause, channelAt_of_channels (by simp; rfl), channelAt_updateChannel (by simp [hok])]
  refine ⟨by rw [record], by rw [record], ?_⟩
  rw [exceedReached_of_cause hcause]
  simp

end

theorem limitChecks_judged (n c : Nat) (s : State) :
    ChannelsJudged limitsOf (fun m => c ≤ m ∧ m < c + n) n s (limitChecks c n s) := by
  induction n generalizing c s with
  | zero => exact .refl s
  | succ n ih =>
    have first : ChannelsJudged limitsOf (fun m => c ≤ m ∧ m < c + (n + 1)) 1 s (limitCheck c s) :=
      limitCheck_judged (by omega)
    have others := (ih (c + 1) (limitCheck c s)).mono (Q := fun m => c ≤ m ∧ m < c + (n + 1)) (fun m hm => by omega)
      (Nat.le_refl _)
    exact (first.trans others).mono (fun _ h => h) (by omega)

theorem limitChecks_split (k n c : Nat) (s : State) :
    limitChecks c (k + (n + 1)) s = limitChecks (c + k + 1) n (limitCheck (c + k) (limitChecks c k s)) := by
  induction k generalizing c s with
  | zero => rw [Nat.zero_add]; rfl
  | succ k ih =>
    rw [Nat.add_right_comm k 1, limitChecks, ih, Nat.add_right_comm c 1 k]
    rfl

/-! ### The scan (R96 to R99) -/

/-- The station whose scan has entered the averaging run. -/
def sampled (codes : List Int) (load : Int) (s : State) : State :=
  accumulateScan (scanSamples codes s)
    { s with
      scan.timer := some (s.age + 10 * s.cfg.scanPeriod)
      pins.bridgeCodes := takenCodes codes
      pins.loadCode := load }

/-- The averages of the run formed (R98). -/
def averaged (s : State) : State :=
  updateEnabled (fun _ ch => formAverage s.scan.runLength ch) s

/-- The sets of averages handed on and the next run begun, behind the limit checks (R99). -/
def runHandedOn (s : State) : State :=
  { takeAverages s with scan.runLength := decimation (takeAverages s), scan.runTaken := 0 }

theorem completeRun_eq (s : State) : completeRun s = runHandedOn (limitChecks 0 16 (averaged s)) := by
  simp only [completeRun, runHandedOn, averaged]

theorem exec_scan {s : State} {codes : List Int} {load : Int} {due : Nat} (hphase : s.loader.phase = .running)
    (htimer : s.scan.timer = some due) (hdue : due ≤ s.age) :
    exec (.scan codes load) s = .next (startCommands (scanCompleted (advanceShunt (scanSamples codes s)
      (advanceZero codes (completeIfDue (sampled codes load s)))))) :=
  congrArg (fun u => Host.Outcome.next (startCommands u)) (timerEvent_of_due hphase htimer hdue)

theorem completeIfDue_of_due {s : State} (h : s.scan.runLength ≤ s.scan.runTaken) : completeIfDue s = completeRun s :=
  if_pos h

theorem completeIfDue_of_short {s : State} (h : s.scan.runTaken < s.scan.runLength) : completeIfDue s = s :=
  if_neg (Nat.not_le.mpr h)

theorem advanceShunt_of_quiet {samples : List (Int × Bool)} {s : State} (h : s.scan.shunt = .none) :
    advanceShunt samples s = s := by
  rw [advanceShunt, h]

theorem advanceZero_of_none {codes : List Int} {s : State} (h : s.scan.zero = none) : advanceZero codes s = s := by
  rw [advanceZero, h]

theorem takeAverages_lineGrows (s : State) : LineGrows s (takeAverages s) := by
  have sealed (u : State) : LineGrows u (sealIfOld u) := by
    unfold sealIfOld
    split
    · split
      · exact sealBlock_lineGrows .time none u
      · exact .refl u
    · exact .refl u
  have written (counts : List Nat) (n : Nat) (u : State) : LineGrows u (writeSample counts n u) := by
    unfold writeSample
    dsimp only
    split
    · refine LineGrows.trans ?_ (sealBlock_lineGrows .full none _)
      exact .of_line_eq rfl
    · exact .of_line_eq rfl
  have dropped (u : State) : LineGrows u (dropSample u) := by
    refine LineGrows.trans ?_ (setEvent_lineGrows .gap _)
    exact .of_line_eq rfl
  have stored (counts : List Nat) (u : State) : LineGrows u (storeSample counts u) := by
    unfold storeSample
    split
    · exact written _ _ _
    · split
      · split
        · exact (LineGrows.of_line_eq (by simp)).trans (written _ _ _)
        · exact dropped u
      · exact dropped u
  refine LineGrows.trans (LineGrows.trans ?_ (sealed _)) (stored _ _)
  exact .of_line_eq rfl

theorem runHandedOn_judged {α : Type} {g : Channel → α} {P : Nat → Prop} (s : State) :
    ChannelsJudged g P 0 s (runHandedOn s) :=
  .of_channels (by simp [runHandedOn]) (by simp [runHandedOn])
    ((takeAverages_lineGrows s).trans (.of_line_eq rfl)) (by simp [runHandedOn])

theorem advanceZero_lineGrows (codes : List Int) (s : State) : LineGrows s (advanceZero codes s) := by
  unfold advanceZero
  split
  · exact .refl s
  · dsimp only
    split
    · split
      · refine LineGrows.trans (LineGrows.trans ?_ (setEvent_lineGrows .zeroDone _)) (endCommandOf_lineGrows _ _ _ _)
        exact .of_line_eq rfl
      · exact .of_line_eq rfl
    · refine LineGrows.trans ?_ (endCommandOf_lineGrows _ _ _ _)
      exact .of_line_eq rfl

theorem advanceZero_judged {P : Nat → Prop} (codes : List Int) (s : State) :
    ChannelsJudged limitsOf P 0 s (advanceZero codes s) :=
  .of_agree (by simp) (by simp) (advanceZero_lineGrows codes s) (.advanceZero (fun _ _ => rfl) (fun _ _ => rfl) codes s)
    (.advanceZero (fun _ _ => rfl) (fun _ _ => rfl) codes s)

/-- Channel `c` in a run that completes: it is checked once, the channels before it and after it on their own. -/
theorem completeRun_checks {c : Nat} (hc : c < 16) (s : State) :
    ∃ v, ChannelsJudged limitsOf (· < c) c (averaged s) v ∧
      ChannelsJudged limitsOf (c < ·) (15 - c) (limitCheck c v) (completeRun s) := by
  refine ⟨limitChecks 0 c (averaged s), (limitChecks_judged c 0 _).mono (fun m hm => by omega) (Nat.le_refl _), ?_⟩
  have split := limitChecks_split c (15 - c) 0 (averaged s)
  rw [show c + (15 - c + 1) = 16 by omega, Nat.zero_add] at split
  rw [completeRun_eq, split]
  exact ((limitChecks_judged (15 - c) (c + 1) _).mono (Q := (c < ·)) (fun m hm => by omega) (Nat.le_refl _)).trans
    (runHandedOn_judged _)

theorem sampled_limits (codes : List Int) (load : Int) (s : State) :
    ChannelsAgree limitsOf s (averaged (sampled codes load s)) := by
  have accumulated : ChannelsAgree limitsOf s (sampled codes load s) :=
    .updateEnabled (f := fun c ch => accumulate ((scanSamples codes s).getD c (0, false)) (shuntMarked s) ch)
      (fun _ _ => rfl) s
  exact accumulated.trans (.updateEnabled (f := fun _ ch => formAverage s.scan.runLength ch) (fun _ _ => rfl) _)

/-! ### The settle window (R103, R104) -/

theorem exec_settleWindowExpiry {s : State} {due : Nat} (hphase : s.loader.phase = .running)
    (htimer : s.scan.settleTimer = some due) (hdue : due ≤ s.age) :
    exec .settleWindowExpiry s = .next (settleWindowEnds s) :=
  congrArg Host.Outcome.next (timerEvent_of_due hphase htimer hdue)

theorem settleJudged_iff (c : Nat) (s : State) : settleJudged c (channelAt c s) s = true ↔ SettleChecked c s := by
  simp [settleJudged, SettleChecked]

theorem channelHolds_iff (c : Nat) (s : State) :
    channelHolds s.cfg.driftLimit (channelAt c s) = true ↔ HoldsStill c s := by
  unfold channelHolds HoldsStill
  cases (channelAt c s).ref <;> simp [and_assoc]

theorem allHold_iff (s : State) : allHold s = true ↔ ∀ c, c < 16 → SettleChecked c s → HoldsStill c s := by
  simp only [allHold, List.all_eq_true, List.mem_range, Bool.or_eq_true, Bool.not_eq_true', ← channelHolds_iff,
    ← settleJudged_iff]
  refine forall_congr' fun c => forall_congr' fun _ => ?_
  cases settleJudged c (channelAt c s) s <;> simp

theorem settleWindowEnds_of_held {s : State} (h : ∀ c, c < 16 → SettleChecked c s → HoldsStill c s) :
    settleWindowEnds s = sequencerOnSettled { s with scan.settled := true, scan.settleTimer := none } :=
  if_pos ((allHold_iff s).mpr h)

/-- The phase after DONE is not DWELL: the run has ended, has entered its next segment, or waits. The pass counters are
those of the choice. -/
theorem AsksInDone.leaves {c : Nat} {g : Segment} {s t : State} (h : AsksInDone c g s t)
    (hphase : s.seq.phase = some .done) :
    t.seq.phase ≠ some .dwell ∧ t.seq.counters = s.seq.counters := by
  obtain ⟨hboth, hgate, hdigest⟩ := h
  by_cases digests : ∀ n, PresentMember n t → (peerAt n t).digest = s.seq.digest
  · by_cases gate : GateOpen s.seq.step t
    · rcases Nat.lt_or_ge s.seq.step 4294967295 with hstep | hstep
      · rw [(hboth gate digests).1 hstep]
        exact ⟨nofun, rfl⟩
      · rw [(hboth gate digests).2 hstep]
        exact ⟨nofun, rfl⟩
    · rw [hgate gate digests]
      exact ⟨by simp [hphase], rfl⟩
  · rw [hdigest digests]
    exact ⟨by simp [hphase], rfl⟩

theorem DoneReached.leaves {q : Sequencer} {s t : State} (h : DoneReached q s t) :
    t.seq.phase ≠ some .dwell ∧ t.seq.counters = setAt q.segment (choiceOf q).1 q.counters := by
  obtain ⟨-, -, hended, hasks⟩ := h
  cases hentry : q.table.getD (choiceOf q).2 none with
  | none =>
    rw [hended hentry]
    exact ⟨nofun, rfl⟩
  | some g => exact (hasks g hentry).leaves rfl

/-- A settle judgement that does not hold takes the references afresh and starts the window again (R103). -/
theorem settleWindowEnds_of_moved {s : State} (h : ∃ c, c < 16 ∧ SettleChecked c s ∧ ¬ HoldsStill c s) :
    settleWindowEnds s =
      { s with
        scan.settleTimer := some (s.age + 10000 * s.cfg.settleWindow)
        scan.channels := mapFrom (fun c ch =>
          { ch with ref := if ch.state = .ok ∧ (channelCfg c s).settleChecked = true then some ch.latest else none })
          0 s.scan.channels } := by
  obtain ⟨c, hc, hchecked, hmoved⟩ := h
  refine (if_neg fun hall => hmoved ((allHold_iff s).mp hall c hc hchecked)).trans ?_
  have window : ms (1000 * s.cfg.settleWindow) = 10000 * s.cfg.settleWindow := by
    rw [ms, ← Nat.mul_assoc]
    rfl
  simp [startSettleWindow, takeReferences, settleJudged, window]

theorem sequencerOnSettled_of_stopped {s : State} (h : timerRuns s.seq.extension = false) :
    sequencerOnSettled s = s := by
  unfold sequencerOnSettled
  cases hcase : s.seq.extension with
  | running due => rw [hcase] at h; exact absurd h (by simp [timerRuns])
  | _ => rfl

theorem sequencerOnSettled_of_running {s : State} (h : timerRuns s.seq.extension = true) (hdwell : inDwell s = true) :
    sequencerOnSettled s = becomeDone s := by
  unfold sequencerOnSettled
  cases hcase : s.seq.extension with
  | running due => exact if_pos hdwell
  | _ => rw [hcase] at h; exact absurd h (by simp [timerRuns])

/-- Settles O33: the limit check of each channel in the scan, the row alone, and the settle judgement. -/
theorem limitAndSettleJudgeTheAverages : Obligations.LimitAndSettleJudgeTheAverages := by
  have reaches {c : Nat} {s : State} (hphase : s.loader.phase = .running) (hok : (channelAt c s).state = .ok)
      (hcount : 0 < (channelAt c s).exceed) :
      exec (.exceedRunReachesM c) s = .next (startCommands (exceedReached c s)) :=
    congrArg (fun u => Host.Outcome.next (startCommands u)) ((whenRunning_of_running hphase).trans
      (if_pos (by simp [countsExceed, hok, hcount])))
  refine ⟨fun s codes load due hphase htimer hdue hrun hshunt => ?_,
    ⟨fun s c hphase hok hcount hclear => ?_, fun s c hphase hok hcount hcause => ?_⟩,
    fun s due hphase htimer hdue hmoved => ?_, fun s due hphase htimer hdue hheld hextension => ?_,
    fun s due hphase htimer hdue hheld hextension hdwell => ?_⟩
  · have completes : completeIfDue (sampled codes load s) = completeRun (sampled codes load s) :=
      completeIfDue_of_due (by simpa [sampled] using hrun)
    obtain ⟨w, before0, after0⟩ := completeRun_checks (c := 0) (by decide) (sampled codes load s)
    have quiet : (completeRun (sampled codes load s)).scan.shunt = .none :=
      after0.quiet ((limitCheck_judged (P := fun _ => True) trivial).quiet
        (before0.quiet (by simpa [averaged, sampled] using hshunt)))
    refine ⟨_, by rw [exec_scan hphase htimer hdue, completes, advanceShunt_of_quiet (by simpa using quiet)],
      fun c hc => ?_⟩
    obtain ⟨v, before, checked⟩ := completeRun_checks hc (sampled codes load s)
    have after := (checked.trans (advanceZero_judged codes _)).trans
      (.of_channels (t := scanCompleted (advanceZero codes (completeRun (sampled codes load s)))) (by simp) (by simp)
        (.of_line_eq (by simp)) (by simp))
    generalize scanCompleted (advanceZero codes (completeRun (sampled codes load s))) = t at after ⊢
    have limitsV : limitsOf (channelAt c v) = limitsOf (channelAt c s) :=
      (before.others c (Nat.lt_irrefl c)).trans ((sampled_limits codes load s).read c)
    have cfgV : v.cfg = s.cfg := before.frame.1.trans (by simp [averaged, sampled])
    have loaderV : v.loader = s.loader := before.frame.2.trans (by simp [averaged, sampled])
    have roomV (room : RoomFor 16 s) : RoomFor 1 v := by
      have start : (averaged (sampled codes load s)).alarm = s.alarm := by simp [averaged, sampled]
      have := before.room
      rw [start] at this
      unfold RoomFor at *
      omega
    have judged : ChannelsJudged limitsOf (fun _ => True) 1 v (limitCheck c v) := limitCheck_judged trivial
    have cfgT := after.frame.1.trans (judged.frame.1.trans cfgV)
    have limitsT := after.others c (Nat.lt_irrefl c)
    have averagesT := (judged.averages.trans after.averages).read c
    have stateV : (channelAt c v).state = (channelAt c s).state := congrArg (·.1) limitsV
    have exceedV : (channelAt c v).exceed = (channelAt c s).exceed := congrArg (·.2.1) limitsV
    have causeV : (channelAt c v).cause = (channelAt c s).cause := congrArg (·.2.2) limitsV
    have settingsV : channelCfg c v = channelCfg c s := by rw [channelCfg, cfgV, channelCfg]
    have shuntT : (channelAt c t).latestShunt = (channelAt c v).latestShunt := congrArg (·.2.2.2.2.2) averagesT
    have beyondT : Beyond c t ↔ Beyond c v := by
      have latest : (channelAt c t).latest = (channelAt c v).latest := congrArg (·.2.2.2.1) averagesT
      have clamped : (channelAt c t).latestOver = (channelAt c v).latestOver := congrArg (·.2.2.2.2.1) averagesT
      rw [Beyond, Beyond, latest, clamped, channelCfg, channelCfg, cfgT, cfgV]
    rw [shuntT, beyondT, ← stateV, ← exceedV, ← causeV, ← settingsV]
    refine ⟨fun hrest => ?_, fun hok hclear => ⟨fun hagreed => ?_, fun hdiffers hfew => ?_, fun hdiffers hmany => ?_⟩⟩
    · rw [limitCheck_of_rest hrest] at limitsT
      exact ⟨congrArg (·.2.1) limitsT, congrArg (·.2.2) limitsT⟩
    · rw [limitCheck_of_agreed hok hclear hagreed, channelAt_updateChannel (by simp [hok])] at limitsT
      exact ⟨congrArg (·.2.1) limitsT, congrArg (·.2.2) limitsT⟩
    · rw [limitCheck_of_counted hok hclear hdiffers hfew, channelAt_updateChannel (by simp [hok])] at limitsT
      exact ⟨congrArg (·.2.1) limitsT, congrArg (·.2.2) limitsT⟩
    · have causesT := after.causes c (Nat.lt_irrefl c)
      have growsT := after.grows
      rw [limitCheck_of_reached hok hclear hdiffers hmany] at limitsT causesT growsT
      refine ⟨?_, fun hclearCause => ?_, fun hset => ?_⟩
      · cases hcause : (channelAt c v).cause with
        | false => exact (congrArg (·.2.1) limitsT).trans (exceedReached_sets hok hcause).2.1
        | true => exact (congrArg (·.2.1) limitsT).trans (exceedReached_clears hok hcause).1
      · obtain ⟨hset, -, hreported, hevent, hlatch, hlists⟩ := exceedReached_sets hok hclearCause
        refine ⟨(congrArg (·.2.2) limitsT).trans hset, causesT.mpr hreported, growsT.line.events 5 hevent,
          fun room => ((hlists (roomV room)).grows growsT).of_loader loaderV, Nat.le_trans ?_ growsT.latch⟩
        rw [hlatch, latchCode_latchMax]
        exact Nat.le_max_right _ _
      · obtain ⟨-, hcleared, hgone⟩ := exceedReached_clears hok hset
        exact ⟨(congrArg (·.2.2) limitsT).trans hcleared, mt causesT.mp hgone⟩
  · have judged : ChannelsJudged limitsOf (· = c) 1 s (exceedReached c s) := exceedReached_judged (by exact rfl)
    obtain ⟨hcause, hexceed, hreported, hevent, hlatch, hlists⟩ := exceedReached_sets hok hclear
    refine ⟨_, reaches hphase hok hcount, hcause, hexceed, hreported, hevent, hlatch, hlists, fun m hm => ?_⟩
    have other := judged.others m hm
    exact ⟨congrArg (·.2.2) other, congrArg (·.2.1) other⟩
  · rw [reaches hphase hok hcount, exceedReached_of_cause hcause]
    rfl
  · rw [exec_settleWindowExpiry hphase htimer hdue, settleWindowEnds_of_moved hmoved]
  · rw [exec_settleWindowExpiry hphase htimer hdue, settleWindowEnds_of_held hheld,
      sequencerOnSettled_of_stopped (by exact hextension)]
  · have running : s.seq.state = .run := (of_decide_eq_true hdwell).1
    have done := becomeDone_reaches (s := { s with scan.settled := true, scan.settleTimer := none }) running
    obtain ⟨hphase', hcounters⟩ := done.leaves
    obtain ⟨hsettled, hsettleTimer, -, -⟩ := done
    refine ⟨_, ?_, hsettled, hsettleTimer, hphase', becomeDone_alarm _, hcounters⟩
    rw [exec_settleWindowExpiry hphase htimer hdue, settleWindowEnds_of_held hheld,
      sequencerOnSettled_of_running (by exact hextension) (by exact hdwell)]

end Sys2Proof.Machine

/-! The ZERO (O34) and the shunt calibration (O35) of the strain scanner (chapter 6). -/
namespace Sys2Proof.Machine

open Sys2Proof

-- One proof after the other: the threads of the check, which compiles the whole text at once, share one memory limit.
set_option Elab.async false

/-! ### The samples of a scan (R97) -/

theorem sampleOf_eq (code : Int) (c : Nat) (s : State) :
    sampleOf code (channelAt c s).zero (channelCfg c s).scale = (sampleValue code c s, sampleOver code c s) := by
  have clamped : decide (clampTo (-320000) 320000 (converted code c s) ≠ converted code c s) = sampleOver code c s := by
    rw [sampleOver, decide_eq_decide]
    unfold clampTo
    split_ifs <;> omega
  exact congrArg (Prod.mk _) clamped

theorem scanSamples_getD (codes : List Int) (s : State) {c : Nat} (hc : c < 16) :
    (scanSamples codes s).getD c (0, false) = (sampleValue (codes.getD c 0) c s, sampleOver (codes.getD c 0) c s) := by
  rw [List.getD_eq_getElem?_getD, scanSamples, List.getElem?_map, List.getElem?_range hc]
  exact sampleOf_eq _ _ _

/-- What the averaging run does not take (R98) is as it was behind the scan's first step. -/
theorem sampled_agree {α : Type} {g : Channel → α}
    (hg : ∀ ch a o m, g { ch with sum := a, overMark := o, shuntMark := m } = g ch)
    (codes : List Int) (load : Int) (s : State) : ChannelsAgree g s (sampled codes load s) :=
  .updateEnabled (f := fun c ch => accumulate ((scanSamples codes s).getD c (0, false)) (shuntMarked s) ch)
    (fun _ ch => hg ch _ _ _) s

/-- A SCAN that does not complete its averaging run: the ZERO and the shunt advance, and nothing else. -/
theorem exec_scan_of_short {s : State} {codes : List Int} {load : Int} {due : Nat} (hphase : s.loader.phase = .running)
    (htimer : s.scan.timer = some due) (hdue : due ≤ s.age) (hshort : s.scan.runTaken + 1 < s.scan.runLength) :
    exec (.scan codes load) s = .next (startCommands (scanCompleted (advanceShunt (scanSamples codes s)
      (advanceZero codes (sampled codes load s))))) := by
  rw [exec_scan hphase htimer hdue, completeIfDue_of_short (by simpa [sampled] using hshort)]

/-! ### The ZERO (R106, R107) -/

/-- The codes of a scan in the sums of the ZERO that runs. -/
def zeroTaken (codes : List Int) (s : State) : State :=
  updateEnabled (fun c ch => { ch with rawSum := ch.rawSum + codes.getD c 0 }) s

/-- The ZERO that runs with one scan more. -/
def zeroCounted (z : ZeroRun) (s : State) : ZeroRun :=
  { loadSum := z.loadSum + s.pins.loadCode, count := z.count + 1, vented := z.vented && decide (s.act.state = .vented) }

section
variable {codes : List Int} {z : ZeroRun} {s : State}

theorem advanceZero_of_room (hzero : s.scan.zero = some z) (hidle : s.seq.state = .idle) (hlam : s.servo.lam = 0)
    (hcount : z.count + 1 < 64) :
    advanceZero codes s = { zeroTaken codes s with scan.zero := some (zeroCounted z s) } := by
  rw [advanceZero, hzero]
  exact (if_pos ⟨hidle, hlam⟩).trans (if_neg (Nat.not_le.mpr hcount))

theorem advanceZero_of_last (hzero : s.scan.zero = some z) (hidle : s.seq.state = .idle) (hlam : s.servo.lam = 0)
    (hcount : z.count = 63) : advanceZero codes s = zeroCompletes (zeroCounted z s) (zeroTaken codes s) := by
  rw [advanceZero, hzero]
  exact (if_pos ⟨hidle, hlam⟩).trans (if_pos (by simp [hcount]))

theorem advanceZero_of_moved (hzero : s.scan.zero = some z) (h : s.seq.state ≠ .idle ∨ s.servo.lam ≠ 0) :
    advanceZero codes s = endCommandOf .zero .refused .state { s with scan.zero := none } := by
  rw [advanceZero, hzero]
  exact if_neg fun ⟨hidle, hlam⟩ => h.elim (absurd hidle) (absurd hlam)

end

/-- The end of the command in progress with room for its REPLY (R165). -/
theorem endCommandOf_answers {kind : QueuedKind} {result : ReplyResult} {reason : Reason} {console : Nat} {s : State}
    (hcurrent : s.cmd.current = some { kind := kind, console := console }) (hroom : s.line.replyQ.length < 4) :
    (endCommandOf kind result reason s).cmd.current = none ∧ HasEvent 9 (endCommandOf kind result reason s) ∧
      (endCommandOf kind result reason s).line.replyQ = s.line.replyQ ++
        [{ dest := console, kindCode := queuedKindCode kind, result := result, reason := reason, data := [] }] := by
  obtain ⟨hnone, hevent, hlate, -⟩ := endCommand_ends (result := result) (reason := reason) hcurrent
  rw [endCommandOf_of_kind hcurrent]
  exact ⟨hnone, hevent, (hlate hroom).1⟩

/-- The complete ZERO (R107): the zeros written and the load cell's where every scan found the actuator VENTED,
ZERO_DONE, and the command answered DONE. -/
theorem zeroCompletes_sets {z : ZeroRun} {console : Nat} {s : State}
    (hcurrent : s.cmd.current = some { kind := .zero, console := console }) (hroom : s.line.replyQ.length < 4) :
    (zeroCompletes z s).scan.zero = none ∧ HasEvent 7 (zeroCompletes z s) ∧ HasEvent 9 (zeroCompletes z s) ∧
      (zeroCompletes z s).cmd.current = none ∧
      (zeroCompletes z s).line.replyQ = s.line.replyQ ++
        [{ dest := console, kindCode := 0x52, result := .done, reason := .none, data := [] }] ∧
      (zeroCompletes z s).servo = { s.servo with
        loadZero := if z.vented then roundDiv z.loadSum 64 else s.servo.loadZero } ∧
      (∀ c, (channelAt c s).state ≠ .disabled →
        channelAt c (zeroCompletes z s) = { channelAt c s with zero := roundDiv (channelAt c s).rawSum 64 }) ∧
      ∀ c, (channelAt c s).state = .disabled → channelAt c (zeroCompletes z s) = channelAt c s := by
  have ends := endCommandOf_answers (kind := .zero) (result := .done) (reason := .none) (console := console)
    (s := setEvent .zeroDone { updateEnabled (fun _ ch => { ch with zero := roundDiv ch.rawSum 64 }) s with
      scan.zero := none
      servo.loadZero := if z.vented then roundDiv z.loadSum 64 else s.servo.loadZero }) (by simpa using hcurrent)
    (by simpa using hroom)
  have read (c : Nat) : channelAt c (zeroCompletes z s) =
      channelAt c (updateEnabled (fun _ ch => { ch with zero := roundDiv ch.rawSum 64 }) s) :=
    channelAt_of_channels (by simp [zeroCompletes])
  obtain ⟨hnone, hevent, hreplies⟩ := ends
  refine ⟨by simp [zeroCompletes], ?_, hevent, hnone, hreplies.trans (by simp; rfl), by simp [zeroCompletes],
    fun c hc => ?_, fun c hc => ?_⟩
  · exact (endCommandOf_lineGrows .zero .done .none _).events 7 (hasEvent_setEvent .zeroDone _)
  · rw [read, channelAt_updateEnabled_of_enabled hc]
  · rw [read, channelAt_updateEnabled_of_disabled hc]

/-! ### The judgement of a shunt (R114) -/

/-- What the judgement of a channel leaves alone: its raise is a NOTE, which sends nothing and orders no capture. -/
structure OnlyJudged (s t : State) : Prop where
  frame : t.cmd = s.cmd ∧ t.servo = s.servo ∧ t.cfg = s.cfg ∧ t.loader = s.loader
  zero : t.scan.zero = s.scan.zero
  replies : t.line.replyQ = s.line.replyQ
  slot : t.line.shuntSlot = s.line.shuntSlot

namespace OnlyJudged

variable {s t u : State}

theorem refl (s : State) : OnlyJudged s s := ⟨⟨rfl, rfl, rfl, rfl⟩, rfl, rfl, rfl⟩

theorem trans (h : OnlyJudged s t) (k : OnlyJudged t u) : OnlyJudged s u where
  frame := by simp [k.frame, h.frame]
  zero := k.zero.trans h.zero
  replies := k.replies.trans h.replies
  slot := k.slot.trans h.slot

theorem raiseOwn_note (kind : AlarmKind) (channel : Nat) (s : State) :
    OnlyJudged s (raiseOwn kind channel .note s) := by
  have noted : raiseOwn kind channel .note s = raiseRecorded (ownRaise kind channel .note s) s := raiseAlarm_of_note rfl
  rw [noted]
  refine ⟨by simp, by simp, ?_, by simp⟩
  rw [raiseRecorded_of_note _ (by rfl)]
  simp

theorem judgeChannel (c : Nat) (s : State) : OnlyJudged s (judgeChannel c s) := by
  unfold Machine.judgeChannel
  dsimp only
  split
  · split
    · exact ⟨⟨rfl, rfl, rfl, rfl⟩, rfl, rfl, rfl⟩
    · refine trans ?_ (raiseOwn_note .shuntFail c _)
      exact ⟨⟨rfl, rfl, rfl, rfl⟩, rfl, rfl, rfl⟩
  · exact refl s

theorem judgeChannels (n c : Nat) (s : State) : OnlyJudged s (judgeChannels c n s) := by
  induction n generalizing c s with
  | zero => exact refl s
  | succ n ih => exact (judgeChannel c s).trans (ih (c + 1) _)

end OnlyJudged

theorem shuntPasses_iff (c : Nat) (s : State) :
    shuntPasses (channelCfg c s).shuntStep (channelAt c s) = true ↔ StepWithin c s :=
  decide_eq_true_iff

section
variable {c : Nat} {s : State}

theorem judgeChannel_of_unjudged (h : (channelAt c s).state = .disabled ∨ (channelCfg c s).shuntStep = 0) :
    judgeChannel c s = s := by
  refine if_neg fun ⟨henabled, hstep⟩ => ?_
  rcases h with h | h
  · simp [channelEnabled, h] at henabled
  · exact hstep h

theorem judgeChannel_of_passed (henabled : (channelAt c s).state ≠ .disabled) (hstep : (channelCfg c s).shuntStep ≠ 0)
    (h : StepWithin c s) : judgeChannel c s = updateChannel (fun ch => { ch with state := .ok }) c s :=
  (if_pos ⟨by simpa [channelEnabled] using henabled, hstep⟩).trans (if_pos ((shuntPasses_iff c s).mpr h))

theorem judgeChannel_of_failed (henabled : (channelAt c s).state ≠ .disabled) (hstep : (channelCfg c s).shuntStep ≠ 0)
    (h : ¬ StepWithin c s) : judgeChannel c s = channelFails c s :=
  (if_pos ⟨by simpa [channelEnabled] using henabled, hstep⟩).trans (if_neg (mt (shuntPasses_iff c s).mp h))

theorem raiseOwn_note_judged {α : Type} {g : Channel → α} {P : Nat → Prop} (kind : AlarmKind) (channel : Nat)
    (s : State) :
    ChannelsJudged g P 1 s (raiseOwn kind channel .note s) where
  frame := by simp
  others _ _ := congrArg g (channelAt_of_scan (raiseOwn_note_scan kind channel s))
  averages := .of_channels (congrArg Scanner.channels (raiseOwn_note_scan kind channel s))
  grows := raiseOwn_alarmsGrow kind channel .note s
  room := by rw [raiseOwn_records]; exact storeRaise_room
  causes _ _ := by simp
  quiet h := (congrArg Scanner.shunt (raiseOwn_note_scan kind channel s)).trans h

theorem channelFails_judged {P : Nat → Prop} (hP : P c) : ChannelsJudged id P 1 s (channelFails c s) :=
  ((ChannelsJudged.updateChannel (f := fun ch => { ch with state := .faulty, exceed := 0, cause := false }) hP
    (fun _ => rfl) s).trans (.causeOff hP _)).trans (raiseOwn_note_judged .shuntFail c _)

theorem judgeChannel_judged {P : Nat → Prop} (hP : P c) : ChannelsJudged id P 1 s (judgeChannel c s) := by
  unfold judgeChannel
  dsimp only
  split
  · split
    · exact (ChannelsJudged.updateChannel (f := fun ch => { ch with state := .ok }) hP (fun _ => rfl) s).mono (k := 1)
        (fun _ h => h) (by decide)
    · exact channelFails_judged hP
  · exact (ChannelsJudged.refl s).mono (k := 1) (fun _ h => h) (by decide)

/-- A channel that fails its shunt is FAULTY, its cause gone and SHUNT_FAIL raised (R101, R114). -/
theorem channelFails_sets (henabled : (channelAt c s).state ≠ .disabled) :
    channelAt c (channelFails c s) = { channelAt c s with state := .faulty, exceed := 0, cause := false } ∧
      Cause.strain c ∉ (channelFails c s).alarm.causes ∧ HasEvent 5 (channelFails c s) ∧
      (RoomFor 1 s → Listed .shuntFail c s (channelFails c s)) := by
  refine ⟨?_, by simp [channelFails], raiseOwn_event _ _ _ _, fun room => ?_⟩
  · rw [channelFails, channelAt_of_scan (raiseOwn_note_scan _ _ _)]
    exact channelAt_updateChannel henabled
  · exact (raiseOwn_lists (by exact room)).of_loader rfl

end

theorem judgeChannels_judged (n c : Nat) (s : State) :
    ChannelsJudged id (fun m => c ≤ m ∧ m < c + n) n s (judgeChannels c n s) := by
  induction n generalizing c s with
  | zero => exact .refl s
  | succ n ih =>
    have first : ChannelsJudged id (fun m => c ≤ m ∧ m < c + (n + 1)) 1 s (judgeChannel c s) :=
      judgeChannel_judged (by omega)
    have others := (ih (c + 1) (judgeChannel c s)).mono (Q := fun m => c ≤ m ∧ m < c + (n + 1)) (fun m hm => by omega)
      (Nat.le_refl _)
    exact (first.trans others).mono (fun _ h => h) (by omega)

theorem judgeChannels_split (k n c : Nat) (s : State) :
    judgeChannels c (k + (n + 1)) s = judgeChannels (c + k + 1) n (judgeChannel (c + k) (judgeChannels c k s)) := by
  induction k generalizing c s with
  | zero => rw [Nat.zero_add]; rfl
  | succ k ih =>
    rw [Nat.add_right_comm k 1, judgeChannels, ih, Nat.add_right_comm c 1 k]
    rfl

/-- Channel `c` in the judgement: it is judged once, the channels before it and after it on their own. -/
theorem judgeChannels_checks {c : Nat} (hc : c < 16) (s : State) :
    ∃ v, ChannelsJudged id (· < c) c s v ∧
      ChannelsJudged id (c < ·) (15 - c) (judgeChannel c v) (judgeChannels 0 16 s) := by
  refine ⟨judgeChannels 0 c s, (judgeChannels_judged c 0 _).mono (fun m hm => by omega) (Nat.le_refl _), ?_⟩
  have split := judgeChannels_split c (15 - c) 0 s
  rw [show c + (15 - c + 1) = 16 by omega, Nat.zero_add] at split
  rw [split]
  exact (judgeChannels_judged (15 - c) (c + 1) _).mono (fun m hm => by omega) (Nat.le_refl _)

/-- The group released at the end of a shunt, where the station has one (R114). -/
def groupReleased (s : State) : State :=
  if s.cfg.excitation = 0 then s else placeShuntDone s

theorem shuntEnds_eq (s : State) :
    shuntEnds s = endCommandOf .shunt .done .none (leaveShunt (groupReleased (judgeChannels 0 16 s))) := by
  simp only [shuntEnds, groupReleased]

@[simp] theorem groupReleased_frame (s : State) :
    (groupReleased s).cmd = s.cmd ∧ (groupReleased s).servo = s.servo ∧ (groupReleased s).scan = s.scan ∧
      (groupReleased s).alarm = s.alarm ∧ (groupReleased s).cfg = s.cfg ∧ (groupReleased s).loader = s.loader ∧
      (groupReleased s).line.replyQ = s.line.replyQ ∧ (groupReleased s).line.events = s.line.events := by
  unfold groupReleased
  split <;> simp

theorem leaveShunt_lineGrows (s : State) : LineGrows s (leaveShunt s) := by
  refine LineGrows.trans ?_ (setEvent_lineGrows .shuntDone _)
  exact .of_line_eq rfl

/-- What the end of the shunt does behind the judgements: no channel is judged again, and the alarm unit is not told. -/
theorem shuntEnds_leaves (s : State) :
    ChannelsJudged limitsOf (fun _ => False) 0 (judgeChannels 0 16 s) (shuntEnds s) := by
  rw [shuntEnds_eq]
  have sums : ChannelsAgree limitsOf (judgeChannels 0 16 s) (leaveShunt (groupReleased (judgeChannels 0 16 s))) :=
    (ChannelsAgree.of_channels (by simp)).trans (.leaveShunt blind_limitsOf _)
  have averages : ChannelsAgree averagesOf (judgeChannels 0 16 s) (leaveShunt (groupReleased (judgeChannels 0 16 s))) :=
    (ChannelsAgree.of_channels (by simp)).trans (.leaveShunt blind_averagesOf _)
  refine .of_agree (by simp) (by simp) ?_ (sums.trans (.of_channels (by simp)))
    (averages.trans (.of_channels (by simp)))
  have released : LineGrows (judgeChannels 0 16 s) (groupReleased (judgeChannels 0 16 s)) :=
    ⟨fun bit h => by simpa [HasEvent] using h, by simp⟩
  exact (released.trans (leaveShunt_lineGrows _)).trans (endCommandOf_lineGrows _ _ _ _)

/-- Scan 40 (R114): the channels judged, the switches off, the group released and the command ended DONE. -/
theorem shuntEnds_judged {console : Nat} {s : State}
    (hcurrent : s.cmd.current = some { kind := .shunt, console := console }) :
    ShuntJudged console s (shuntEnds s) := by
  have only := OnlyJudged.judgeChannels 16 0 s
  obtain ⟨⟨hcmd, -, hcfg, hloader⟩, -, hreplies, hslot⟩ := only
  have current : (leaveShunt (groupReleased (judgeChannels 0 16 s))).cmd.current =
      some { kind := .shunt, console := console } := by simp [hcmd, hcurrent]
  obtain ⟨hnone, hdone, hlate, -⟩ := endCommand_ends (result := .done) (reason := .none) current
  have leaves := shuntEnds_leaves s
  refine ⟨by simp [shuntEnds_eq], by simp [shuntEnds_eq], by simp [shuntEnds_eq], ?_, ?_, ?_, fun room => ?_,
    fun hgroup hempty => ?_, fun c hc => ?_⟩
  · rw [shuntEnds_eq]
    exact (endCommandOf_lineGrows .shunt .done .none _).events 6 (leaveShunt_event _)
  · rw [shuntEnds_eq, endCommandOf_of_kind current]
    exact hdone
  · rw [shuntEnds_eq, endCommandOf_of_kind current]
    exact hnone
  · rw [shuntEnds_eq, endCommandOf_of_kind current]
    exact (hlate (by simpa [hreplies] using room)).1.trans (by simp [hreplies]; rfl)
  · have released : groupReleased (judgeChannels 0 16 s) = placeShuntDone (judgeChannels 0 16 s) :=
      if_neg (by rw [hcfg]; exact hgroup)
    rw [shuntEnds_eq, released, placeShuntDone_of_empty (hslot.trans hempty)]
    simp [ownDone]
  · obtain ⟨v, before, after⟩ := judgeChannels_checks hc s
    have recordV : channelAt c v = channelAt c s := before.others c (Nat.lt_irrefl c)
    have settingsV : channelCfg c v = channelCfg c s := by rw [channelCfg, channelCfg, before.frame.1]
    have within : StepWithin c v ↔ StepWithin c s := by rw [StepWithin, StepWithin, recordV, settingsV]
    have recordAfter : channelAt c (judgeChannels 0 16 s) = channelAt c (judgeChannel c v) := by
      simpa only [id] using after.others c (Nat.lt_irrefl c)
    have limits : limitsOf (channelAt c (shuntEnds s)) = limitsOf (channelAt c (judgeChannel c v)) := by
      rw [leaves.others c id, recordAfter]
    have causes := (leaves.causes c id).trans (after.causes c (Nat.lt_irrefl c))
    have grows := after.grows.trans leaves.grows
    generalize shuntEnds s = t at limits causes grows ⊢
    rw [← recordV, ← settingsV, ← within]
    refine ⟨fun hrest => ?_, fun henabled hstep => ⟨fun hpassed => ?_, fun hfailed => ?_⟩⟩
    · rw [judgeChannel_of_unjudged hrest] at limits
      exact ⟨congrArg (·.1) limits, congrArg (·.2.2) limits⟩
    · rw [judgeChannel_of_passed henabled hstep hpassed, channelAt_updateChannel henabled] at limits
      exact ⟨congrArg (·.1) limits, congrArg (·.2.2) limits⟩
    · rw [judgeChannel_of_failed henabled hstep hfailed] at limits causes grows
      obtain ⟨hrecord, hgone, hevent, hlists⟩ := channelFails_sets henabled
      rw [hrecord] at limits
      have room (h : RoomFor 16 s) : RoomFor 1 v := by
        have := before.room
        unfold RoomFor at *
        omega
      exact ⟨congrArg (·.1) limits, congrArg (·.2.2) limits, congrArg (·.2.1) limits, mt causes.mp hgone,
        grows.line.events 5 hevent, fun h => ((hlists (room h)).grows grows).of_loader before.frame.2⟩

/-! ### The spans of a shunt (R112) -/

theorem testBit_maskOf (test : Channel → Bool) (l : List Channel) (c : Nat) :
    (maskOf test l).testBit c = (l[c]?.map test).getD false := by
  induction l generalizing c with
  | nil => simp [maskOf]
  | cons ch rest ih =>
    cases c with
    | zero => cases h : test ch <;> simp [maskOf, bit, h, Nat.testBit_zero]
    | succ c =>
      have half : (bit (test ch) + 2 * maskOf test rest) / 2 = maskOf test rest := by
        cases test ch with
        | false => simp [bit]
        | true => simp only [bit, if_pos]; omega
      rw [maskOf, Nat.testBit_succ, half, ih]
      rfl

theorem enabledMask_iff {c : Nat} (hc : c < 16) (s : State) :
    (enabledMask s).getLsbD c = true ↔ (channelAt c s).state ≠ .disabled := by
  have enabled : (s.scan.channels[c]?.map channelEnabled).getD false = channelEnabled (channelAt c s) := by
    rw [channelAt, List.getD_eq_getElem?_getD]
    cases s.scan.channels[c]? <;> rfl
  rw [enabledMask, BitVec.getLsbD_ofNat, testBit_maskOf, enabled]
  simp [hc, channelEnabled]

/-- The scan of a span that has scans left (R112). -/
def spanCounted (s : State) : State :=
  { s with scan.shuntScans := s.scan.shuntScans + 1 }

section
variable {samples : List (Int × Bool)} {s : State}

theorem advanceShunt_before (h : s.scan.shunt = .before) :
    advanceShunt samples s =
      if 16 ≤ s.scan.shuntScans + 1 then
        spanEnds (updateEnabled (fun c ch => { ch with beforeSum := ch.beforeSum + (samples.getD c (0, false)).1 }) s)
      else spanCounted
        (updateEnabled (fun c ch => { ch with beforeSum := ch.beforeSum + (samples.getD c (0, false)).1 }) s) := by
  rw [advanceShunt, h]
  rfl

theorem advanceShunt_onSettle (h : s.scan.shunt = .onSettle) :
    advanceShunt samples s = if 20 ≤ s.scan.shuntScans + 1 then spanEnds s else spanCounted s := by
  rw [advanceShunt, h]
  rfl

theorem advanceShunt_on (h : s.scan.shunt = .on) :
    advanceShunt samples s =
      if 36 ≤ s.scan.shuntScans + 1 then
        spanEnds (updateEnabled (fun c ch => { ch with onSum := ch.onSum + (samples.getD c (0, false)).1 }) s)
      else spanCounted
        (updateEnabled (fun c ch => { ch with onSum := ch.onSum + (samples.getD c (0, false)).1 }) s) := by
  rw [advanceShunt, h]
  rfl

theorem advanceShunt_offSettle (h : s.scan.shunt = .offSettle) :
    advanceShunt samples s = if 40 ≤ s.scan.shuntScans + 1 then shuntEnds s else spanCounted s := by
  rw [advanceShunt, h]
  rfl

theorem spanEnds_before (h : s.scan.shunt = .before) :
    spanEnds s = { s with pins.shunts := enabledMask s, scan.shunt := .onSettle, scan.shuntScans := 16 } := by
  rw [spanEnds, h]

theorem spanEnds_onSettle (h : s.scan.shunt = .onSettle) :
    spanEnds s = { s with scan.shunt := .on, scan.shuntScans := 20 } := by
  rw [spanEnds, h]

theorem spanEnds_on (h : s.scan.shunt = .on) :
    spanEnds s = { s with pins.shunts := 0, scan.shunt := .offSettle, scan.shuntScans := 36 } := by
  rw [spanEnds, h]

end

theorem exec_shuntSpanEnd {s : State} (hphase : s.loader.phase = .running) (hspan : spanUnderWay s = true) :
    exec .shuntSpanEnd s = .next (spanEnds s) :=
  congrArg Host.Outcome.next ((whenRunning_of_running hphase).trans (if_pos hspan))

/-- The station whose scan has entered the averaging run and the sums before the switches turn on. -/
def beforeSummed (codes : List Int) (load : Int) (s : State) : State :=
  updateEnabled (fun c ch => { ch with beforeSum := ch.beforeSum + ((scanSamples codes s).getD c (0, false)).1 })
    (sampled codes load s)

/-- The station whose scan has entered the averaging run and the sums with the switches on. -/
def onSummed (codes : List Int) (load : Int) (s : State) : State :=
  updateEnabled (fun c ch => { ch with onSum := ch.onSum + ((scanSamples codes s).getD c (0, false)).1 })
    (sampled codes load s)

section
variable {codes : List Int} {load : Int} {s : State} {c : Nat}

@[simp] theorem sampled_frame (codes : List Int) (load : Int) (s : State) :
    (sampled codes load s).cmd = s.cmd ∧ (sampled codes load s).cfg = s.cfg ∧
      (sampled codes load s).pins.shunts = s.pins.shunts ∧
      (sampled codes load s).pins.loadCode = load ∧ (sampled codes load s).seq = s.seq ∧
      (sampled codes load s).servo = s.servo ∧ (sampled codes load s).act = s.act ∧
      (sampled codes load s).line = s.line ∧ (sampled codes load s).scan.zero = s.scan.zero ∧
      (sampled codes load s).scan.shunt = s.scan.shunt ∧
      (sampled codes load s).scan.shuntScans = s.scan.shuntScans := by
  simp [sampled]

@[simp] theorem beforeSummed_frame (codes : List Int) (load : Int) (s : State) :
    (beforeSummed codes load s).cmd = s.cmd ∧ (beforeSummed codes load s).pins.shunts = s.pins.shunts ∧
      (beforeSummed codes load s).scan.shunt = s.scan.shunt ∧
      (beforeSummed codes load s).scan.shuntScans = s.scan.shuntScans := by
  simp [beforeSummed]

@[simp] theorem onSummed_frame (codes : List Int) (load : Int) (s : State) :
    (onSummed codes load s).cmd = s.cmd ∧ (onSummed codes load s).pins.shunts = s.pins.shunts ∧
      (onSummed codes load s).scan.shunt = s.scan.shunt ∧
      (onSummed codes load s).scan.shuntScans = s.scan.shuntScans := by
  simp [onSummed]

theorem channelAt_beforeSummed (hc : c < 16) (h : (channelAt c s).state ≠ .disabled) :
    (channelAt c (beforeSummed codes load s)).beforeSum =
      (channelAt c s).beforeSum + sampleValue (codes.getD c 0) c s := by
  have state : (channelAt c (sampled codes load s)).state = (channelAt c s).state :=
    (sampled_agree (g := Channel.state) (fun _ _ _ _ => rfl) codes load s).read c
  have sum : (channelAt c (sampled codes load s)).beforeSum = (channelAt c s).beforeSum :=
    (sampled_agree (g := Channel.beforeSum) (fun _ _ _ _ => rfl) codes load s).read c
  rw [beforeSummed, channelAt_updateEnabled_of_enabled (by rwa [state])]
  simp only [sum, scanSamples_getD codes s hc]

theorem channelAt_onSummed (hc : c < 16) (h : (channelAt c s).state ≠ .disabled) :
    (channelAt c (onSummed codes load s)).onSum = (channelAt c s).onSum + sampleValue (codes.getD c 0) c s := by
  have state : (channelAt c (sampled codes load s)).state = (channelAt c s).state :=
    (sampled_agree (g := Channel.state) (fun _ _ _ _ => rfl) codes load s).read c
  have sum : (channelAt c (sampled codes load s)).onSum = (channelAt c s).onSum :=
    (sampled_agree (g := Channel.onSum) (fun _ _ _ _ => rfl) codes load s).read c
  rw [onSummed, channelAt_updateEnabled_of_enabled (by rwa [state])]
  simp only [sum, scanSamples_getD codes s hc]

theorem channelAt_beforeSummed_state (c : Nat) :
    (channelAt c (beforeSummed codes load s)).state = (channelAt c s).state :=
  ((sampled_agree (g := Channel.state) (fun _ _ _ _ => rfl) codes load s).trans
    (.updateEnabled
      (f := fun c ch => { ch with beforeSum := ch.beforeSum + ((scanSamples codes s).getD c (0, false)).1 })
      (fun _ _ => rfl) _)).read c

theorem channelAt_scanCompleted (c : Nat) (s : State) : channelAt c (scanCompleted s) = channelAt c s :=
  channelAt_of_scan (by simp)

/-- What a step of the shunt leaves of the ZERO and the servo. -/
theorem advanceShunt_leaves (samples : List (Int × Bool)) (s : State) :
    (advanceShunt samples s).scan.zero = s.scan.zero ∧ (advanceShunt samples s).servo = s.servo := by
  have ended : (shuntEnds s).scan.zero = s.scan.zero ∧ (shuntEnds s).servo = s.servo := by
    obtain ⟨⟨-, hservo, -, -⟩, hzero, -, -⟩ := OnlyJudged.judgeChannels 16 0 s
    simp [shuntEnds_eq, hservo]
  have span (u : State) : (spanEnds u).scan.zero = u.scan.zero ∧ (spanEnds u).servo = u.servo := by
    unfold spanEnds
    split <;> exact ⟨rfl, rfl⟩
  cases hspan : s.scan.shunt with
  | before => rw [advanceShunt_before hspan]; split; exacts [span _, ⟨rfl, rfl⟩]
  | onSettle => rw [advanceShunt_onSettle hspan]; split; exacts [span _, ⟨rfl, rfl⟩]
  | on => rw [advanceShunt_on hspan]; split; exacts [span _, ⟨rfl, rfl⟩]
  | offSettle => rw [advanceShunt_offSettle hspan]; split; exacts [ended, ⟨rfl, rfl⟩]
  | _ => rw [advanceShunt, hspan]; exact ⟨rfl, rfl⟩

/-- What `g` reads is none of what a judgement of the channel writes (R114). -/
def BlindToLimits {α : Type} (g : Channel → α) : Prop :=
  ∀ ch st e k, g { ch with state := st, exceed := e, cause := k } = g ch

theorem judgeChannels_agree {α : Type} {g : Channel → α} (hg : BlindToLimits g) (n c : Nat) (s : State) :
    ChannelsAgree g s (judgeChannels c n s) := by
  have single (c : Nat) (s : State) : ChannelsAgree g s (judgeChannel c s) := by
    unfold judgeChannel
    dsimp only
    split
    · split
      · exact .updateChannel (fun ch => hg ch .ok ch.exceed ch.cause) c s
      · exact (ChannelsAgree.updateChannel (fun ch => hg ch .faulty 0 false) c s).trans
          (.of_channels (congrArg Scanner.channels (raiseOwn_note_scan _ _ _)))
    · exact .refl s
  induction n generalizing c s with
  | zero => exact .refl s
  | succ n ih => exact (single c s).trans (ih (c + 1) _)

theorem advanceShunt_agree {α : Type} {g : Channel → α} (hb : Blind g) (hl : BlindToLimits g)
    (samples : List (Int × Bool)) (s : State) : ChannelsAgree g s (advanceShunt samples s) := by
  have ended : ChannelsAgree g s (shuntEnds s) := by
    rw [shuntEnds_eq]
    have released : ChannelsAgree g s (groupReleased (judgeChannels 0 16 s)) :=
      (judgeChannels_agree hl 16 0 s).trans (.of_channels (congrArg Scanner.channels (by simp)))
    exact (released.trans (.leaveShunt hb _)).trans (.of_channels (by simp))
  have span (u : State) : ChannelsAgree g u (spanEnds u) := by
    refine .of_channels ?_
    unfold spanEnds
    split <;> rfl
  have before : ChannelsAgree g s
      (updateEnabled (fun c ch => { ch with beforeSum := ch.beforeSum + (samples.getD c (0, false)).1 }) s) :=
    .updateEnabled (fun _ ch => hb.sums ch _ ch.onSum) s
  have on : ChannelsAgree g s
      (updateEnabled (fun c ch => { ch with onSum := ch.onSum + (samples.getD c (0, false)).1 }) s) :=
    .updateEnabled (fun _ ch => hb.sums ch ch.beforeSum _) s
  cases hspan : s.scan.shunt with
  | before => rw [advanceShunt_before hspan]; split; exacts [before.trans (span _), before]
  | onSettle => rw [advanceShunt_onSettle hspan]; split; exacts [span _, .of_channels rfl]
  | on => rw [advanceShunt_on hspan]; split; exacts [on.trans (span _), on]
  | offSettle => rw [advanceShunt_offSettle hspan]; split; exacts [ended, .of_channels rfl]
  | _ => rw [advanceShunt, hspan]; exact .refl s

/-- A SCAN of a span: with no run complete and no ZERO running, it advances the shunt and starts no command. -/
theorem exec_scan_of_span {due : Nat} {t : State} (hphase : s.loader.phase = .running)
    (htimer : s.scan.timer = some due) (hdue : due ≤ s.age) (hshort : s.scan.runTaken + 1 < s.scan.runLength)
    (hzero : s.scan.zero = none) (flow : CommandsFlow s)
    (advances : advanceShunt (scanSamples codes s) (sampled codes load s) = t) (hcmd : t.cmd = s.cmd) :
    exec (.scan codes load) s = .next (scanCompleted t) := by
  rw [exec_scan_of_short hphase htimer hdue hshort, advanceZero_of_none (by simpa using hzero), advances,
    startCommands_of_flow flow (by simpa using hcmd)]

end

/-- The judgement of the scan that ends the last span is that of the station before the scan. -/
theorem ShuntJudged.of_sampled {codes : List Int} {load : Int} {console : Nat} {s t : State}
    (h : ShuntJudged console (sampled codes load s) t) : ShuntJudged console s (scanCompleted t) := by
  have record (c : Nat) : _ := (sampled_agree (g := fun ch => (ch.state, ch.cause, ch.onSum, ch.beforeSum))
    (fun _ _ _ _ => rfl) codes load s).read c
  have after (c : Nat) : channelAt c (scanCompleted t) = channelAt c t := channelAt_scanCompleted c t
  have within (c : Nat) : StepWithin c (sampled codes load s) ↔ StepWithin c s := by
    have on : (channelAt c (sampled codes load s)).onSum = (channelAt c s).onSum := congrArg (·.2.2.1) (record c)
    have before : (channelAt c (sampled codes load s)).beforeSum = (channelAt c s).beforeSum :=
      congrArg (·.2.2.2) (record c)
    rw [StepWithin, StepWithin, on, before]
    rfl
  obtain ⟨hshunt, hactive, hswitches, hdone, hcommand, hcurrent, hreplies, hslot, hchannels⟩ := h
  refine ⟨by simpa using hshunt, by simpa using hactive, by simpa using hswitches, by simpa [HasEvent] using hdone,
    by simpa [HasEvent] using hcommand, by simpa using hcurrent, fun room => by simpa using hreplies room,
    fun hgroup hempty => by simpa using hslot (by simpa using hgroup) (by simpa using hempty), fun c hc => ?_⟩
  obtain ⟨hrest, hjudged⟩ := hchannels c hc
  have state : (channelAt c (sampled codes load s)).state = (channelAt c s).state := congrArg (·.1) (record c)
  have cause : (channelAt c (sampled codes load s)).cause = (channelAt c s).cause := congrArg (·.2.1) (record c)
  rw [state, cause] at hrest hjudged
  rw [after]
  refine ⟨hrest, fun henabled hstep => ⟨fun hwithin => ?_, fun hfails => ?_⟩⟩
  · exact (hjudged henabled hstep).1 ((within c).mpr hwithin)
  · obtain ⟨hfaulty, hcleared, hzero, hgone, hraised, hlists⟩ := (hjudged henabled hstep).2 (mt (within c).mp hfails)
    refine ⟨hfaulty, hcleared, hzero, by simpa using hgone, by simpa [HasEvent] using hraised, fun room => ?_⟩
    simpa [Listed] using (hlists room).of_loader (s := s) rfl

/-- Settles O35: the rows alone, the scans of each span, and the judgement. -/
theorem shuntSpansAndJudgement : Obligations.ShuntSpansAndJudgement := by
  refine ⟨⟨fun s hphase hspan hcount => ?_, fun s hphase hspan hcount => ?_, fun s hphase hspan hcount => ?_,
    fun s console hphase hspan hcount hcurrent _ => ?_⟩,
    fun s codes load due hphase htimer hdue hshort hzero flow => ⟨fun hspan hcount => ?_, fun hspan hcount => ?_,
      fun hspan hcount => ?_, fun hspan hcount => ?_⟩,
    fun s codes load due console hphase htimer hdue hshort hzero hspan hcount hcurrent _ => ?_⟩
  · have ends : spanEnds s = { s with pins.shunts := enabledMask s, scan.shunt := .onSettle } := by
      rw [spanEnds_before hspan, ← hcount]
    refine ⟨_, exec_shuntSpanEnd hphase (by simp [spanUnderWay, hspan, hcount]), ?_⟩
    rw [ends]
    exact ⟨rfl, hcount, rfl, fun c hc => enabledMask_iff hc s⟩
  · rw [exec_shuntSpanEnd hphase (by simp [spanUnderWay, hspan, hcount]), spanEnds_onSettle hspan, ← hcount]
  · rw [exec_shuntSpanEnd hphase (by simp [spanUnderWay, hspan, hcount]), spanEnds_on hspan, ← hcount]
  · exact ⟨_, congrArg (fun u => Host.Outcome.next (startCommands u)) ((whenRunning_of_running hphase).trans
      (if_pos (by simp [judgementUnderWay, hspan, hcount]))), shuntEnds_judged hcurrent⟩
  · have advances : advanceShunt (scanSamples codes s) (sampled codes load s) =
        if 16 ≤ (sampled codes load s).scan.shuntScans + 1 then spanEnds (beforeSummed codes load s)
        else spanCounted (beforeSummed codes load s) := advanceShunt_before (by simpa using hspan)
    have span : (beforeSummed codes load s).scan.shunt = .before := by simpa using hspan
    by_cases hlast : s.scan.shuntScans = 15
    · have ends := advances.trans (if_pos (by simp [hlast]))
      refine ⟨_, exec_scan_of_span hphase htimer hdue hshort hzero flow (ends.trans (spanEnds_before span)) ?_, ?_⟩
      · simp
      · refine ⟨by simp [hlast], fun c hc henabled => ?_, fun hfew => absurd hfew (by omega),
          fun _ => ⟨by simp, fun c hc => ?_⟩⟩
        · rw [channelAt_of_channels (s := beforeSummed codes load s) (by simp)]
          exact channelAt_beforeSummed hc henabled
        · rw [← channelAt_beforeSummed_state (codes := codes) (load := load), ← enabledMask_iff hc]
          simp
    · have counts := advances.trans (if_neg (by simp; omega))
      refine ⟨_, exec_scan_of_span hphase htimer hdue hshort hzero flow counts ?_, ?_⟩
      · simp [spanCounted]
      · refine ⟨by simp [spanCounted], fun c hc henabled => ?_, fun _ => ?_, fun h => absurd h hlast⟩
        · rw [channelAt_of_channels (s := beforeSummed codes load s) (by simp [spanCounted])]
          exact channelAt_beforeSummed hc henabled
        · exact ⟨by simpa [spanCounted] using hspan, by simp [spanCounted]⟩
  · have advances := advanceShunt_onSettle (samples := scanSamples codes s) (s := sampled codes load s)
      (by simpa using hspan)
    have span : (sampled codes load s).scan.shunt = .onSettle := by simpa using hspan
    by_cases hlast : s.scan.shuntScans = 19
    · have ends := advances.trans (if_pos (by simp [hlast]))
      refine ⟨_, exec_scan_of_span hphase htimer hdue hshort hzero flow (ends.trans (spanEnds_onSettle span))
        (by simp), ?_⟩
      simp [hlast]
    · have counts := advances.trans (if_neg (by simp; omega))
      refine ⟨_, exec_scan_of_span hphase htimer hdue hshort hzero flow counts (by simp [spanCounted]), ?_⟩
      simp [spanCounted, hlast, hspan]
  · have advances : advanceShunt (scanSamples codes s) (sampled codes load s) =
        if 36 ≤ (sampled codes load s).scan.shuntScans + 1 then spanEnds (onSummed codes load s)
        else spanCounted (onSummed codes load s) := advanceShunt_on (by simpa using hspan)
    have span : (onSummed codes load s).scan.shunt = .on := by simpa using hspan
    by_cases hlast : s.scan.shuntScans = 35
    · have ends := advances.trans (if_pos (by simp [hlast]))
      refine ⟨_, exec_scan_of_span hphase htimer hdue hshort hzero flow (ends.trans (spanEnds_on span)) ?_, ?_⟩
      · simp
      · refine ⟨by simp [hlast], fun c hc henabled => ?_, fun hfew => absurd hfew (by omega), fun _ => by simp⟩
        rw [channelAt_of_channels (s := onSummed codes load s) (by simp)]
        exact channelAt_onSummed hc henabled
    · have counts := advances.trans (if_neg (by simp; omega))
      refine ⟨_, exec_scan_of_span hphase htimer hdue hshort hzero flow counts ?_, ?_⟩
      · simp [spanCounted]
      · refine ⟨by simp [spanCounted], fun c hc henabled => ?_, fun _ => ?_, fun h => absurd h hlast⟩
        · rw [channelAt_of_channels (s := onSummed codes load s) (by simp [spanCounted])]
          exact channelAt_onSummed hc henabled
        · exact ⟨by simpa [spanCounted] using hspan, by simp [spanCounted]⟩
  · have advances := advanceShunt_offSettle (samples := scanSamples codes s) (s := sampled codes load s)
      (by simpa using hspan)
    have counts := advances.trans (if_neg (by simp; omega))
    refine ⟨_, exec_scan_of_span hphase htimer hdue hshort hzero flow counts (by simp [spanCounted]), ?_⟩
    simpa [spanCounted] using hspan
  · have advances := advanceShunt_offSettle (samples := scanSamples codes s) (s := sampled codes load s)
      (by simpa using hspan)
    have ends := advances.trans (if_pos (by simp [hcount]))
    refine ⟨_, ?_, ShuntJudged.of_sampled (codes := codes) (load := load) (shuntEnds_judged (by simpa using hcurrent))⟩
    rw [exec_scan_of_short hphase htimer hdue hshort, advanceZero_of_none (by simpa using hzero), ends]

/-- Settles O34: the scans of a ZERO that runs, is abandoned or ends, and its row alone. -/
theorem zeroCollectsAndCompletes : Obligations.ZeroCollectsAndCompletes := by
  refine ⟨fun s codes load due z hphase htimer hdue hshort hzero hcount hidle hlam => ?_,
    fun s codes load due z console hphase htimer hdue hshort hzero hmoved hcurrent hroom hshunt => ?_,
    fun s codes load due z console hphase htimer hdue hshort hzero hcount hidle hlam hshunt hcurrent hroom => ?_,
    fun s z console hphase hzero hcount hcurrent hroom => ?_⟩
  · have advances := advanceZero_of_room (codes := codes) (s := sampled codes load s) (by simpa using hzero)
      (by simpa using hidle) (by simpa using hlam) hcount
    refine ⟨_, by rw [exec_scan_of_short hphase htimer hdue hshort, advances], ?_, ?_, fun c henabled => ?_⟩
    · simpa [zeroCounted] using (advanceShunt_leaves (scanSamples codes s) _).1
    · simpa [zeroTaken] using (advanceShunt_leaves (scanSamples codes s) _).2
    · have taken := advanceShunt_agree (g := fun ch => (ch.rawSum, ch.zero)) ⟨fun _ _ => rfl, fun _ _ _ => rfl⟩
        (fun _ _ _ _ => rfl) (scanSamples codes s)
        { zeroTaken codes (sampled codes load s) with scan.zero := some (zeroCounted z (sampled codes load s)) }
      have before := (sampled_agree (g := fun ch => (ch.state, ch.rawSum, ch.zero)) (fun _ _ _ _ => rfl) codes load
        s).read c
      have state : (channelAt c (sampled codes load s)).state = (channelAt c s).state := congrArg (·.1) before
      have record : channelAt c { zeroTaken codes (sampled codes load s) with
          scan.zero := some (zeroCounted z (sampled codes load s)) } =
          { channelAt c (sampled codes load s) with
            rawSum := (channelAt c (sampled codes load s)).rawSum + codes.getD c 0 } :=
        (channelAt_of_channels rfl).trans (channelAt_updateEnabled_of_enabled (by rwa [state]))
      have after := taken.read c
      rw [record] at after
      rw [channelAt_scanCompleted]
      refine ⟨(congrArg (·.1) after).trans ?_, (congrArg (·.2) after).trans (congrArg (·.2.2) before)⟩
      exact congrArg (· + codes.getD c 0) (congrArg (·.2.1) before)
  · have advances := advanceZero_of_moved (codes := codes) (s := sampled codes load s) (by simpa using hzero)
      (by simpa using hmoved)
    obtain ⟨hnone, hevent, hreplies⟩ := endCommandOf_answers (result := .refused) (reason := .state)
      (s := { sampled codes load s with scan.zero := none }) (by simpa using hcurrent) (by simpa using hroom)
    refine ⟨_, by rw [exec_scan_of_short hphase htimer hdue hshort, advances,
      advanceShunt_of_quiet (by simpa using hshunt)], by simp, by simpa using hnone, by simpa [HasEvent] using hevent,
      by simp, ?_, fun c => ?_⟩
    · simpa [queuedKindCode] using hreplies
    · rw [channelAt_of_channels (s := sampled codes load s) (by simp)]
      exact (sampled_agree (g := Channel.zero) (fun _ _ _ _ => rfl) codes load s).read c
  · have advances := advanceZero_of_last (codes := codes) (s := sampled codes load s) (by simpa using hzero)
      (by simpa using hidle) (by simpa using hlam) hcount
    obtain ⟨hnone, hzeroDone, hdone, hcommand, hreplies, hservo, henabled, hdisabled⟩ :=
      zeroCompletes_sets (z := zeroCounted z (sampled codes load s)) (console := console)
        (s := zeroTaken codes (sampled codes load s)) (by simpa [zeroTaken] using hcurrent)
        (by simpa [zeroTaken] using hroom)
    have before := (sampled_agree (g := fun ch => (limitsOf ch, ch.rawSum)) (fun _ _ _ _ => rfl) codes load s).read
    have state (c : Nat) : (channelAt c (sampled codes load s)).state = (channelAt c s).state :=
      congrArg (·.1.1) (before c)
    refine ⟨_, by rw [exec_scan_of_short hphase htimer hdue hshort, advances,
      advanceShunt_of_quiet (by simpa [zeroTaken] using hshunt)], by simp, by simpa [HasEvent] using hzeroDone,
      by simpa [HasEvent] using hdone, by simpa using hcommand, by simpa [zeroTaken] using hreplies, ?_,
      fun c hc hstate => ?_, fun c hstate => ?_⟩
    · have written : (scanCompleted (zeroCompletes (zeroCounted z (sampled codes load s))
          (zeroTaken codes (sampled codes load s)))).servo = _ := (by simp : _ = _).trans hservo
      rw [written]
      simp [zeroTaken, zeroCounted]
    · have taken : channelAt c (zeroTaken codes (sampled codes load s)) =
          { channelAt c (sampled codes load s) with
            rawSum := (channelAt c (sampled codes load s)).rawSum + codes.getD c 0 } :=
        channelAt_updateEnabled_of_enabled (by rwa [state])
      rw [channelAt_scanCompleted, henabled c (by rw [taken]; rwa [state]), taken]
      have raw : (channelAt c (sampled codes load s)).rawSum = (channelAt c s).rawSum := congrArg (·.2) (before c)
      exact ⟨by rw [raw], state c, congrArg (·.1.2.1) (before c), congrArg (·.1.2.2) (before c)⟩
    · have taken : channelAt c (zeroTaken codes (sampled codes load s)) = channelAt c (sampled codes load s) :=
        channelAt_updateEnabled_of_disabled (by rwa [state])
      rw [channelAt_scanCompleted, hdisabled c (by rw [taken]; rwa [state]), taken]
      exact channelAt_updateEnabled_of_disabled hstate
  · have ends : exec .zeroComplete s = .next (startCommands (zeroCompletes z s)) := by
      refine congrArg (fun u => Host.Outcome.next (startCommands u)) ((whenRunning_of_running hphase).trans ?_)
      rw [endZero, hzero]
      exact if_pos (by omega)
    obtain ⟨hnone, hzeroDone, hdone, hcommand, hreplies, hservo, henabled, hdisabled⟩ :=
      zeroCompletes_sets (z := z) hcurrent hroom
    exact ⟨_, ends, hnone, hzeroDone, hdone, hcommand, hreplies, hservo, fun c hc => by rw [henabled c hc], hdisabled⟩

end Sys2Proof.Machine

/-! ### Telegrams as bytes: what is sent is what is read (R1, R3 to R5, Tables 1-1 to 1-6) -/

namespace Sys2Proof.Machine
open Sys2Proof

-- One proof after the other: the threads of the check, which compiles the whole text at once, share one memory limit.
set_option Elab.async false

/-! #### Fields of a payload -/

@[simp] theorem leBytes_length (n v : Nat) : (leBytes n v).length = n := by
  induction n generalizing v with
  | zero => rfl
  | succ n ih => simp [leBytes, ih]

theorem leNat_leBytes {n v : Nat} (h : v < 256 ^ n) : leNat (leBytes n v) = v := by
  induction n generalizing v with
  | zero => simp only [leBytes, leNat]; omega
  | succ n ih =>
    have hrest : v / 256 < 256 ^ n := by rw [Nat.div_lt_iff_lt_mul (by decide)]; rwa [pow_succ] at h
    simp only [leBytes, leNat, ih hrest, BitVec.toNat_ofNat]
    omega

@[simp] theorem leSigned_length (n : Nat) (v : Int) : (leSigned n v).length = n := leBytes_length ..

@[simp] theorem fieldAt_leBytes (n v : Nat) : fieldAt (leBytes n v) 0 n = leBytes n v :=
  List.take_of_length_le (by simp)

@[simp] theorem fieldAt_leBytes_append (n v : Nat) (rest : List Byte) :
    fieldAt (leBytes n v ++ rest) 0 n = leBytes n v :=
  List.take_left' (by simp)

@[simp] theorem fieldAt_leSigned_append (n : Nat) (v : Int) (rest : List Byte) :
    fieldAt (leSigned n v ++ rest) 0 n = leSigned n v :=
  List.take_left' (by simp)

@[simp] theorem fieldAt_append_of_le {first rest : List Byte} {offset width : Nat} (h : first.length ≤ offset) :
    fieldAt (first ++ rest) offset width = fieldAt rest (offset - first.length) width := by
  rw [fieldAt, List.drop_append, List.drop_of_length_le h, List.nil_append, fieldAt]

section
variable {payload : List Byte} {offset v : Nat}

theorem payloadNat_byte (hfield : fieldAt payload offset 1 = leBytes 1 v) (h : v < 256) :
    payloadNat payload offset 1 = v := by
  rw [payloadNat, hfield, leNat_leBytes (by omega)]

theorem payloadNat_half (hfield : fieldAt payload offset 2 = leBytes 2 v) (h : v < 65536) :
    payloadNat payload offset 2 = v := by
  rw [payloadNat, hfield, leNat_leBytes (by omega)]

theorem payloadNat_word (hfield : fieldAt payload offset 4 = leBytes 4 v) (h : v < 4294967296) :
    payloadNat payload offset 4 = v := by
  rw [payloadNat, hfield, leNat_leBytes (by omega)]

end

theorem leInt_leSigned {v : Int} (hlow : -2147483648 ≤ v) (hhigh : v < 2147483648) : leInt (leSigned 4 v) = v := by
  have hfour : (256 : Int) ^ 4 = 4294967296 := by norm_num
  have hmod : (v.emod (256 ^ 4)).toNat < 256 ^ 4 := by rw [hfour]; change (v % 4294967296).toNat < _; omega
  rw [leInt, leSigned, leNat_leBytes hmod, leBytes_length, hfour]
  change (if 2 * (v % 4294967296).toNat < 4294967296 then ((v % 4294967296).toNat : Int)
    else ((v % 4294967296).toNat : Int) - 4294967296) = v
  split <;> omega

theorem leNat_singleton (b : Byte) : leNat [b] = b.toNat := by
  simp [leNat]

/-! #### A telegram as sent (R1) -/

/-- The bytes of a telegram before its check. -/
def telegramBody (cls sender dest kind : Nat) (payload : List Byte) : List Byte :=
  BitVec.ofNat 8 (arbitrationField cls sender) :: BitVec.ofNat 8 dest :: BitVec.ofNat 8 kind ::
    BitVec.ofNat 8 payload.length :: payload

theorem frame_eq (cls sender dest kind : Nat) (payload : List Byte) :
    frame cls sender dest kind payload = telegramBody cls sender dest kind payload ++
      leBytes 2 (crc16 (telegramBody cls sender dest kind payload)).toNat := rfl

section
variable (cls sender dest kind : Nat) (payload : List Byte)

theorem telegramBody_length : (telegramBody cls sender dest kind payload).length = payload.length + 4 := rfl

theorem frame_length : (frame cls sender dest kind payload).length = payload.length + 6 := by
  simp [frame_eq, telegramBody_length]

theorem frame_field : payloadNat (frame cls sender dest kind payload) 0 1 = arbitrationField cls sender % 256 :=
  (leNat_singleton _).trans (by simp)

theorem frame_dest : payloadNat (frame cls sender dest kind payload) 1 1 = dest % 256 :=
  (leNat_singleton _).trans (by simp)

theorem frame_kind : payloadNat (frame cls sender dest kind payload) 2 1 = kind % 256 :=
  (leNat_singleton _).trans (by simp)

theorem frame_payloadLength : payloadNat (frame cls sender dest kind payload) 3 1 = payload.length % 256 :=
  (leNat_singleton _).trans (by simp)

theorem frame_payload :
    ((frame cls sender dest kind payload).drop 4).take payload.length = payload :=
  List.take_left' rfl

theorem frame_check :
    payloadNat (frame cls sender dest kind payload) ((frame cls sender dest kind payload).length - 2) 2 =
      (crc16 ((frame cls sender dest kind payload).take ((frame cls sender dest kind payload).length - 2))).toNat := by
  have hbody : (frame cls sender dest kind payload).length - 2 =
      (telegramBody cls sender dest kind payload).length := by
    rw [frame_length, telegramBody_length]; omega
  rw [hbody, payloadNat, fieldAt, frame_eq, List.drop_left, List.take_left, List.take_of_length_le (by simp),
    leNat_leBytes (by have := (crc16 (telegramBody cls sender dest kind payload)).isLt; omega)]

/-- A telegram as sent is whole exactly with a payload of the length R4 allows. -/
theorem telegramWhole_frame :
    telegramWhole (frame cls sender dest kind payload) = true ↔ payload.length ≤ 66 := by
  have hcheck := frame_check cls sender dest kind payload
  simp only [frame_length] at hcheck
  simp only [telegramWhole, frame_payloadLength, Bool.and_eq_true, decide_eq_true_eq, frame_length]
  omega

end

/-- What a whole telegram hands on at station `own` (R5). -/
def telegramRead (own cls sender dest kind : Nat) (payload : List Byte) : Option Instr :=
  if 32 ≤ dest then none
  else if cls = 2 then
    if (28 ≤ sender ∧ sender ≤ 31) ∧ (dest = 0 ∨ dest = own) then
      some (consoleCommandOf { sender := sender, dest := dest, len := payload.length } kind payload)
    else none
  else if 1 ≤ sender ∧ sender ≤ 27 then peerTelegramOf cls sender kind payload
  else none

theorem decodeTelegram_frame {own cls sender dest kind : Nat} {payload : List Byte} (hcls : cls < 8)
    (hsender : sender < 32) (hdest : dest < 256) (hkind : kind < 256) (hlen : payload.length ≤ 66) :
    decodeTelegram own (frame cls sender dest kind payload) = telegramRead own cls sender dest kind payload := by
  have hfield : arbitrationField cls sender % 256 = arbitrationField cls sender :=
    Nat.mod_eq_of_lt (by unfold arbitrationField; omega)
  have hclass : arbitrationField cls sender / 32 = cls := by unfold arbitrationField; omega
  have hfrom : arbitrationField cls sender % 32 = sender := by unfold arbitrationField; omega
  have hmod : payload.length % 256 = payload.length := Nat.mod_eq_of_lt (by omega)
  rw [decodeTelegram, if_pos ((telegramWhole_frame ..).mpr hlen), frame_field, frame_dest, frame_kind,
    frame_payloadLength, hfield, hclass, hfrom, hmod, Nat.mod_eq_of_lt hdest, Nat.mod_eq_of_lt hkind,
    frame_payload, telegramRead]
  simp only [decodeTelegram.isConsoleNumber, decodeTelegram.isFrameNumber, decide_eq_true_eq]

theorem decodeTelegram_of_broken {own : Nat} {bytes : List Byte} (h : telegramWhole bytes = false) :
    decodeTelegram own bytes = none := by
  rw [decodeTelegram, if_neg (by simp [h])]

/-! #### Discarded bytes, and bytes that are a command (R3 to R5) -/

theorem peerTelegramOf_of_foreign {cls sender kind : Nat} {payload : List Byte}
    (h : ¬ KindOfClass cls kind payload.length) : peerTelegramOf cls sender kind payload = none := by
  unfold KindOfClass at h
  push Not at h
  obtain ⟨halarm, hcharge, hshunt, hstatus⟩ := h
  unfold peerTelegramOf
  rw [if_neg (by tauto), if_neg (by tauto), if_neg (by tauto), if_neg (by tauto), if_neg (by tauto)]

theorem kindOfClass_class {cls kind len : Nat} (h : KindOfClass cls kind len) :
    cls = 0 ∨ cls = 1 ∨ cls = 3 ∨ cls = 4 := by
  unfold KindOfClass at h
  omega

/-- A command that some telegram spells means what its owner does with the telegram. -/
theorem exec_consoleCommandOf (head : CommandHead) (kind : Nat) (payload : List Byte) (s : State) :
    exec (consoleCommandOf head kind payload) s = .next (handOn (consoleCommandOf head kind payload) s) := by
  unfold consoleCommandOf
  split
  case h_13 =>
    unfold queryOf
    split <;> rfl
  all_goals rfl

theorem exec_peerTelegramOf {cls sender kind : Nat} {payload : List Byte} {c : Instr} (s : State)
    (h : peerTelegramOf cls sender kind payload = some c) : exec c s = .next (handOn c s) := by
  unfold peerTelegramOf at h
  split_ifs at h <;> cases h <;> rfl

theorem exec_decodeTelegram {own : Nat} {bytes : List Byte} {c : Instr} (s : State)
    (h : decodeTelegram own bytes = some c) : exec c s = .next (handOn c s) := by
  unfold decodeTelegram at h
  split_ifs at h with hwhole
  simp only at h
  split_ifs at h
  · cases h
    exact exec_consoleCommandOf ..
  · exact exec_peerTelegramOf s h

theorem exec_discard_of_none {bytes : List Byte} {mark : ClosingMark} {s : State}
    (h : decodeTelegram (ownStation s) bytes = none) :
    exec (.receivedTelegramDiscard { bytes := bytes, mark := mark }) s = .next s := by
  refine congrArg Host.Outcome.next ?_
  cases mark <;> simp [receiveBytes, heardCommand, h]

/-- Settles O13: a telegram as sent is read by its class, kind, length, sender and destination alone. -/
theorem receivedBytesAreDiscardedOrHandedOn : Obligations.ReceivedBytesAreDiscardedOrHandedOn := by
  refine ⟨fun own cls sender dest kind payload hcls hsender hdest hkind h => ?_, fun bytes s => rfl,
    fun bytes mark s h => exec_discard_of_none (decodeTelegram_of_broken h),
    fun bytes mark s h => exec_discard_of_none h, fun bytes s c h => ?_⟩
  · by_cases hlen : payload.length ≤ 66
    · rw [decodeTelegram_frame hcls hsender hdest hkind hlen, telegramRead]
      split_ifs with hupper hconsole hto hfrom
      · rfl
      · omega
      · rfl
      · by_cases hclass : KindOfClass cls kind payload.length
        · have := kindOfClass_class hclass
          simp only [hclass, not_true_eq_false, and_false, false_or] at h
          omega
        · exact peerTelegramOf_of_foreign hclass
      · rfl
    · exact decodeTelegram_of_broken (by simpa using mt (telegramWhole_frame ..).mp hlen)
  · rw [exec_decodeTelegram s h]
    refine congrArg Host.Outcome.next ?_
    simp [receiveBytes, heardCommand, h]

/-! #### What a station sends (Tables 1-3 to 1-5) -/

theorem seqOfCode_seqCode (x : SeqState) : seqOfCode (seqCode x) = some x := by cases x <;> rfl

theorem phaseOfCode_phaseCode (x : Option RunPhase) : phaseOfCode (phaseCode x) = some x := by
  rcases x with _ | _ | _ | _ <;> rfl

theorem actOfCode_actCode (x : ActState) : actOfCode (actCode x) = some x := by cases x <;> rfl

theorem latchOfCode_latchCode (x : Latch) : latchOfCode (latchCode x) = some x := by cases x <;> rfl

theorem seqCode_lt (x : SeqState) : seqCode x < 256 := by cases x <;> decide

theorem phaseCode_lt (x : Option RunPhase) : phaseCode x < 256 := by rcases x with _ | _ | _ | _ <;> decide

theorem actCode_lt (x : ActState) : actCode x < 256 := by cases x <;> decide

theorem latchCode_lt (x : Latch) : latchCode x < 256 := by cases x <;> decide

theorem kindCode_lt (x : AlarmKind) : kindCode x < 256 := by cases x <;> decide

theorem causeCode_lt (x : StartCause) : causeCode x < 256 := by cases x <;> decide

theorem bit_le (b : Bool) : bit b ≤ 1 := by cases b <;> decide

theorem statusFlags_lt (s : State) : statusFlags s < 512 := by
  have hlagging := bit_le s.servo.lagging
  have hsettled := bit_le s.scan.settled
  have hcause := bit_le (causePresent s)
  have hshunt := bit_le s.scan.shuntActive
  have hpressure := bit_le s.recs.pressure
  have hfault := bit_le s.line.lineFault
  have hcapture := bit_le s.recs.capture
  have habsent := bit_le s.peers.memberAbsent
  have hdigest := bit_le s.peers.digestMismatch
  unfold statusFlags
  omega

theorem statusReportOf_statusPayload {s : State} (hstep : s.seq.step < 4294967296) (hsegment : s.seq.segment < 256)
    (hlam : s.servo.lam < 65536) (hlow : -2147483648 ≤ s.servo.fMeas) (hhigh : s.servo.fMeas < 2147483648)
    (hgroup : s.line.loadGroup < 8) (hpages : s.recs.freePages < 65536) :
    statusReportOf (statusPayload s) =
      { seqState := s.seq.state, phase := reportedPhase s.seq, step := s.seq.step, segment := s.seq.segment
        lam := s.servo.lam, fMeas := s.servo.fMeas, actuator := s.act.state, latch := s.alarm.latch
        flags := BitVec.ofNat 9 (statusFlags s), loadGroup := s.line.loadGroup, digest := s.seq.digest
        events := s.line.events, freePages := s.recs.freePages, startCause := causeCode (reportedCause s) } := by
  have hflags := statusFlags_lt s
  have seqState : payloadNat (statusPayload s) 0 1 = seqCode s.seq.state :=
    payloadNat_byte (by simp [statusPayload]) (seqCode_lt _)
  have phase : payloadNat (statusPayload s) 1 1 = phaseCode (reportedPhase s.seq) :=
    payloadNat_byte (by simp [statusPayload]) (phaseCode_lt _)
  have step : payloadNat (statusPayload s) 2 4 = s.seq.step := payloadNat_word (by simp [statusPayload]) hstep
  have segment : payloadNat (statusPayload s) 6 1 = s.seq.segment := payloadNat_byte (by simp [statusPayload]) hsegment
  have lam : payloadNat (statusPayload s) 7 2 = s.servo.lam := payloadNat_half (by simp [statusPayload]) hlam
  have forceField : fieldAt (statusPayload s) 9 4 = leSigned 4 s.servo.fMeas := by simp [statusPayload]
  have force : leInt (fieldAt (statusPayload s) 9 4) = s.servo.fMeas := forceField ▸ leInt_leSigned hlow hhigh
  have actuator : payloadNat (statusPayload s) 13 1 = actCode s.act.state :=
    payloadNat_byte (by simp [statusPayload]) (actCode_lt _)
  have latch : payloadNat (statusPayload s) 14 1 = latchCode s.alarm.latch :=
    payloadNat_byte (by simp [statusPayload]) (latchCode_lt _)
  have flags : payloadNat (statusPayload s) 15 2 = flagsField s :=
    payloadNat_half (by simp [statusPayload]) (by unfold flagsField; omega)
  have digest : payloadNat (statusPayload s) 17 2 = s.seq.digest.toNat :=
    payloadNat_half (by simp [statusPayload]) s.seq.digest.isLt
  have events : payloadNat (statusPayload s) 19 2 = s.line.events.toNat :=
    payloadNat_half (by simp [statusPayload]) s.line.events.isLt
  have pages : payloadNat (statusPayload s) 21 2 = s.recs.freePages := payloadNat_half (by simp [statusPayload]) hpages
  have cause : payloadNat (statusPayload s) 23 1 = causeCode (reportedCause s) :=
    payloadNat_byte (by simp [statusPayload]) (causeCode_lt _)
  have flagBits : BitVec.ofNat 9 (flagsField s) = BitVec.ofNat 9 (statusFlags s) := by
    apply BitVec.eq_of_toNat_eq
    simp only [BitVec.toNat_ofNat, flagsField]
    omega
  have groupBits : flagsField s / 4096 % 8 = s.line.loadGroup := by
    unfold flagsField
    omega
  simp only [statusReportOf, seqState, phase, step, segment, lam, force, actuator, latch, flags, digest, events, pages,
    cause, flagBits, groupBits, seqOfCode_seqCode, phaseOfCode_phaseCode, actOfCode_actCode, latchOfCode_latchCode,
    Option.getD_some, BitVec.ofNat_toNat, BitVec.setWidth_eq]

theorem alarmReportOf_alarmPayload {a : AlarmTelegram} (hchannel : a.channel < 256) (hlam : a.lam < 65536)
    (hstep : a.step < 4294967296) (hlow : -2147483648 ≤ a.fMeas) (hhigh : a.fMeas < 2147483648) :
    alarmReportOf (alarmPayload a) =
      { kindCode := kindCode a.kind, channel := a.channel, actionCode := latchCode a.action, lam := a.lam
        step := a.step, fMeas := a.fMeas, timeTag := a.timeTag } := by
  have kind : payloadNat (alarmPayload a) 0 1 = kindCode a.kind := payloadNat_byte rfl (kindCode_lt _)
  have channel : payloadNat (alarmPayload a) 1 1 = a.channel := payloadNat_byte rfl hchannel
  have action : payloadNat (alarmPayload a) 2 1 = latchCode a.action := payloadNat_byte rfl (latchCode_lt _)
  have lam : payloadNat (alarmPayload a) 3 2 = a.lam := payloadNat_half rfl hlam
  have step : payloadNat (alarmPayload a) 5 4 = a.step := payloadNat_word rfl hstep
  have force : leInt (fieldAt (alarmPayload a) 9 4) = a.fMeas := leInt_leSigned hlow hhigh
  have tag : payloadNat (alarmPayload a) 13 4 = a.timeTag.toNat := payloadNat_word rfl a.timeTag.isLt
  simp only [alarmReportOf, kind, channel, action, lam, step, force, tag, BitVec.ofNat_toNat, BitVec.setWidth_eq]

/-- A telegram of a frame station to all, of a class other than a console's, is read by its class and kind. -/
theorem decodeTelegram_ofStation {own cls sender kind : Nat} {payload : List Byte} (hlow : 1 ≤ sender)
    (hhigh : sender ≤ 27) (hcls : cls < 8) (hne : cls ≠ 2) (hkind : kind < 256) (hlen : payload.length ≤ 66) :
    decodeTelegram own (frame cls sender 0 kind payload) = peerTelegramOf cls sender kind payload := by
  rw [decodeTelegram_frame hcls (by omega) (by decide) hkind hlen, telegramRead, if_neg (by decide), if_neg hne,
    if_pos ⟨hlow, hhigh⟩]

theorem decodeTelegram_ofOwnShunt {own group : Nat} {isDone : Bool} {s : State} (hlow : 1 ≤ ownStation s)
    (hhigh : ownStation s ≤ 27) (hgroup : group < 256)
    (h : s.line.shuntSlot = some { isDone := isDone, group := group }) :
    decodeTelegram own (headTelegram .shunt s) =
      some (if isDone then .shuntDoneHeard (ownStation s) group else .shuntClaimHeard (ownStation s) group) := by
  have field : payloadNat (leBytes 1 group) 0 1 = group := payloadNat_byte rfl hgroup
  have sent : headTelegram .shunt s = frame 3 (ownStation s) 0 (if isDone then 4 else 3) (leBytes 1 group) := by
    simp only [headTelegram, h]
    rfl
  rw [sent, decodeTelegram_ofStation hlow hhigh (by decide) (by decide) (by split <;> decide) (by simp)]
  cases isDone <;> simp [peerTelegramOf, field]

/-! #### What a console sends (Table 1-6) -/

/-- A console's telegram to this station or to all is read as the command of its kind. -/
theorem decodeTelegram_ofConsole {own sender dest kind : Nat} {payload : List Byte} (hlow : 28 ≤ sender)
    (hhigh : sender ≤ 31) (hto : dest = 0 ∨ dest = own) (hdest : dest < 32) (hkind : kind < 256)
    (hlen : payload.length ≤ 66) :
    decodeTelegram own (frame 2 sender dest kind payload) =
      some (consoleCommandOf { sender := sender, dest := dest, len := payload.length } kind payload) := by
  rw [decodeTelegram_frame (by decide) (by omega) (by omega) hkind hlen, telegramRead, if_neg (by omega), if_pos rfl,
    if_pos ⟨⟨hlow, hhigh⟩, hto⟩]

theorem telegramOf_queryOf (head : CommandHead) (subject argument : Nat) :
    telegramOf (queryOf head subject argument) = some (head, 0x4C) := by
  unfold queryOf
  split <;> rfl

theorem rowOfItsOwn_queryOf (head : CommandHead) (subject argument : Nat) :
    RowOfItsOwn (queryOf head subject argument) := by
  unfold queryOf RowOfItsOwn
  split <;> simp_all
  omega

theorem telegramOf_consoleCommandOf (head : CommandHead) (kind : Nat) (payload : List Byte) :
    telegramOf (consoleCommandOf head kind payload) = some (head, kind) := by
  unfold consoleCommandOf
  split
  case h_13 => exact telegramOf_queryOf ..
  all_goals rfl

theorem rowOfItsOwn_consoleCommandOf (head : CommandHead) (kind : Nat) (payload : List Byte) :
    RowOfItsOwn (consoleCommandOf head kind payload) := by
  unfold consoleCommandOf
  split
  case h_13 => exact rowOfItsOwn_queryOf ..
  case h_21 =>
    refine ⟨fun _ _ h => ?_, fun _ _ _ h => nomatch h⟩
    cases h
    simp only [imp_false] at *
    omega
  all_goals exact ⟨fun _ _ h => (nomatch h), fun _ _ _ h => (nomatch h)⟩

theorem segmentRequestOf_bytes {q : SegmentRequest} (hindex : q.index < 256) (htarget : q.target < 65536)
    (hrate : q.rate < 65536) (hhold : q.hold < 65536) (hsettle : q.settle < 256) (hextension : q.extension < 65536)
    (hloopTo : q.loopTo < 256) (hloopCount : q.loopCount < 65536) :
    segmentRequestOf (leBytes 1 q.index ++ leBytes 2 q.target ++ leBytes 2 q.rate ++ leBytes 2 q.hold ++
      leBytes 1 q.settle ++ leBytes 2 q.extension ++ leBytes 1 q.loopTo ++ leBytes 2 q.loopCount) = q := by
  generalize hbytes : leBytes 1 q.index ++ leBytes 2 q.target ++ leBytes 2 q.rate ++ leBytes 2 q.hold ++
    leBytes 1 q.settle ++ leBytes 2 q.extension ++ leBytes 1 q.loopTo ++ leBytes 2 q.loopCount = bytes
  have index : payloadNat bytes 0 1 = q.index := payloadNat_byte (hbytes ▸ rfl) hindex
  have target : payloadNat bytes 1 2 = q.target := payloadNat_half (hbytes ▸ rfl) htarget
  have rate : payloadNat bytes 3 2 = q.rate := payloadNat_half (hbytes ▸ rfl) hrate
  have hold : payloadNat bytes 5 2 = q.hold := payloadNat_half (hbytes ▸ rfl) hhold
  have settle : payloadNat bytes 7 1 = q.settle := payloadNat_byte (hbytes ▸ rfl) hsettle
  have extension : payloadNat bytes 8 2 = q.extension := payloadNat_half (hbytes ▸ rfl) hextension
  have loopTo : payloadNat bytes 10 1 = q.loopTo := payloadNat_byte (hbytes ▸ rfl) hloopTo
  have loopCount : payloadNat bytes 11 2 = q.loopCount := payloadNat_half (hbytes ▸ rfl) hloopCount
  simp only [segmentRequestOf, index, target, rate, hold, settle, extension, loopTo, loopCount]

theorem consoleCommandOf_ack (head : CommandHead) {all source kind channel : Nat} (hall : all < 256)
    (hsource : source < 256) (hkind : kind < 256) (hchannel : channel < 256) :
    consoleCommandOf head 0x46 (leBytes 1 all ++ leBytes 1 source ++ leBytes 1 kind ++ leBytes 1 channel) =
      .ack head all source kind channel := by
  simp only [consoleCommandOf]
  congr 1
  exacts [payloadNat_byte rfl hall, payloadNat_byte rfl hsource, payloadNat_byte rfl hkind,
    payloadNat_byte rfl hchannel]

/-- Settles O14: each field stands in the payload at the offset it is read from, and its width carries its value. -/
theorem sentTelegramsAreReadAsSent : Obligations.SentTelegramsAreReadAsSent := by
  refine ⟨fun own sender dest hlow hhigh hto hdest => ?_,
    fun own s a rest hown hownHigh h hchannel hlam hstep hfLow hfHigh => ?_, fun own s p hown hownHigh h => ?_,
    fun own s group hown hownHigh hgroup h => ?_, fun own s group hown hownHigh hgroup h => ?_,
    fun own s hown hownHigh hstep hsegment hlam hfLow hfHigh hgroup hpages => ?_⟩
  · have read {kind : Nat} {payload : List Byte} (hkind : kind < 256) (hlen : payload.length ≤ 66) :=
      decodeTelegram_ofConsole hlow hhigh hto hdest hkind hlen
    refine ⟨?_, fun q hindex htarget hrate hhold hsettle hextension hloopTo hloopCount => ?_,
      fun all source kind channel hall hsource hkind hchannel => ?_, fun n wait hn hwait => ?_, fun tag => ?_,
      fun subject n hsubject hn => ?_, fun kind payload hkind hlen => ?_⟩
    · refine ⟨?_, ?_, ?_, ?_, ?_, ?_, ?_, ?_, ?_, ?_, ?_, ?_, ?_⟩ <;> exact read (by decide) (by decide)
    · refine (read (by decide) (by simp)).trans ?_
      exact congrArg (fun r => some (Instr.program _ r))
        (segmentRequestOf_bytes hindex htarget hrate hhold hsettle hextension hloopTo hloopCount)
    · exact (read (by decide) (by simp)).trans (congrArg some (consoleCommandOf_ack _ hall hsource hkind hchannel))
    · refine ⟨?_, ?_, ?_⟩
      · refine (read (by decide) (by simp)).trans ?_
        exact congrArg (fun r => some (Instr.accept _ r)) (payloadNat_byte rfl hn)
      · refine (read (by decide) (by simp)).trans ?_
        exact congrArg (fun r => some (Instr.free _ r)) (payloadNat_byte rfl hn)
      · refine (read (by decide) (by simp)).trans ?_
        exact congrArg₂ (fun r w => some (Instr.fetch _ r w)) (payloadNat_byte rfl hn)
          (payloadNat_half rfl hwait)
    · refine (read (by decide) (by simp)).trans ?_
      have htag : BitVec.ofNat 32 (payloadNat (leBytes 4 tag.toNat) 0 4) = tag := by
        rw [payloadNat_word rfl tag.isLt, BitVec.ofNat_toNat, BitVec.setWidth_eq]
      exact congrArg (fun r => some (Instr.timeset _ r)) htag
    · refine (read (by decide) (by simp)).trans ?_
      exact congrArg₂ (fun r w => some (queryOf _ r w)) (payloadNat_byte rfl hsubject) (payloadNat_byte rfl hn)
    · exact ⟨_, read hkind hlen, telegramOf_consoleCommandOf .., rowOfItsOwn_consoleCommandOf ..⟩
  · have sent : headTelegram .alarm s = frame 0 (ownStation s) 0 1 (alarmPayload a) := by
      simp only [headTelegram, h]
      rfl
    have hlen : (alarmPayload a).length = 17 := rfl
    rw [sent, decodeTelegram_ofStation hown hownHigh (by decide) (by decide) (by decide) (by omega), peerTelegramOf,
      if_pos ⟨rfl, rfl, rfl⟩, alarmReportOf_alarmPayload hchannel hlam hstep hfLow hfHigh]
  · have field : payloadNat (leBytes 1 (purposeCode p)) 0 1 = purposeCode p := by cases p <;> rfl
    have sent : headTelegram .charge s = frame 1 (ownStation s) 0 2 (leBytes 1 (purposeCode p)) := by
      simp only [headTelegram, h]
      rfl
    rw [sent, decodeTelegram_ofStation hown hownHigh (by decide) (by decide) (by decide) (by simp)]
    simp [peerTelegramOf, field]
  · exact decodeTelegram_ofOwnShunt hown hownHigh hgroup h
  · exact decodeTelegram_ofOwnShunt hown hownHigh hgroup h
  · have sent : headTelegram .status s = frame 4 (ownStation s) 0 5 (statusPayload s) := rfl
    have hlen : (statusPayload s).length = 24 := rfl
    rw [sent, decodeTelegram_ofStation hown hownHigh (by decide) (by decide) (by decide) (by omega)]
    simp [peerTelegramOf, hlen, statusReportOf_statusPayload hstep hsegment hlam hfLow hfHigh hgroup hpages]

end Sys2Proof.Machine

/-! The averaging run of the strain scanner and the samples the record memory writes (sections 6.2, 6.3, 9.2). -/
namespace Sys2Proof.Machine

open Sys2Proof

-- One proof after the other: the threads of the check, which compiles the whole text at once, share one memory limit.
set_option Elab.async false

/-! ### The averaging run (R97 to R99) -/

theorem shuntMarked_iff (s : State) :
    shuntMarked s = decide (s.scan.shunt = .onSettle ∨ s.scan.shunt = .on ∨ s.scan.shunt = .offSettle) := by
  unfold shuntMarked
  cases s.scan.shunt <;> rfl

/-- A channel past the sixteenth has no bridge: its sample is 0 with no mark. -/
theorem scanSamples_getD_past (codes : List Int) (s : State) {c : Nat} (hc : 16 ≤ c) :
    (scanSamples codes s).getD c (0, false) = (0, false) := by
  rw [List.getD_eq_getElem?_getD, List.getElem?_eq_none (by simpa [scanSamples] using hc), Option.getD_none]

theorem accumulate_unmarked (codes : List Int) (c : Nat) (s : State) (ch : Channel) :
    (if channelEnabled ch then accumulate ((scanSamples codes s).getD c (0, false)) false ch else ch) =
      if ch.state = .disabled ∨ 16 ≤ c then ch
      else { ch with
        sum := ch.sum + sampleValue (codes.getD c 0) c s
        overMark := ch.overMark || sampleOver (codes.getD c 0) c s } := by
  by_cases hstate : ch.state = .disabled
  · simp [channelEnabled, hstate]
  · by_cases hc : c < 16
    · rw [if_pos (by simp [channelEnabled, hstate]), if_neg (by simp [hstate]; omega), scanSamples_getD codes s hc,
        accumulate]
      simp
    · rw [scanSamples_getD_past codes s (by omega), accumulate]
      simp [hc]

theorem sampled_of_unmarked {codes : List Int} {load : Int} {s : State} (h : s.scan.shunt = .none) :
    sampled codes load s =
      { s with
        scan.timer := some (s.age + 10 * s.cfg.scanPeriod)
        pins.bridgeCodes := (List.range 16).map (fun c => codes.getD c 0)
        pins.loadCode := load
        scan.runTaken := s.scan.runTaken + 1
        scan.channels := mapFrom (fun c ch =>
          if ch.state = .disabled ∨ 16 ≤ c then ch
          else { ch with
            sum := ch.sum + sampleValue (codes.getD c 0) c s
            overMark := ch.overMark || sampleOver (codes.getD c 0) c s }) 0 s.scan.channels } := by
  have channels := funext fun c => funext (accumulate_unmarked codes c s)
  rw [← channels, sampled, accumulateScan, shuntMarked_iff]
  simp only [h, updateEnabled, takenCodes]
  rfl

section
variable {codes : List Int} {load : Int} {s : State} {c : Nat}

theorem channelAt_sampled (hc : c < 16) (h : (channelAt c s).state ≠ .disabled) :
    channelAt c (sampled codes load s) =
      accumulate (sampleValue (codes.getD c 0) c s, sampleOver (codes.getD c 0) c s)
        (decide (s.scan.shunt = .onSettle ∨ s.scan.shunt = .on ∨ s.scan.shunt = .offSettle)) (channelAt c s) := by
  rw [← shuntMarked_iff, ← scanSamples_getD codes s hc]
  exact channelAt_updateEnabled_of_enabled
    (f := fun c ch => accumulate ((scanSamples codes s).getD c (0, false)) (shuntMarked s) ch) h

theorem channelAt_averaged (h : (channelAt c s).state ≠ .disabled) :
    channelAt c (averaged s) = formAverage s.scan.runLength (channelAt c s) :=
  channelAt_updateEnabled_of_enabled (f := fun _ ch => formAverage s.scan.runLength ch) h

end

/-- The averages formed stay behind the limit checks and the sample. -/
theorem completeRun_averages (s : State) : ChannelsAgree averagesOf (averaged s) (completeRun s) := by
  rw [completeRun_eq]
  exact (limitChecks_judged 16 0 (averaged s)).averages.trans
    (runHandedOn_judged (g := averagesOf) (P := fun _ => True) _).averages

@[simp] theorem takeAverages_inputs (s : State) :
    (takeAverages s).crack.inputs = s.crack.inputs.map (fun i => { i with count := 0 }) := by
  simp [takeAverages]

theorem completeRun_counts (s : State) : ∀ i ∈ (completeRun s).crack.inputs, i.count = 0 := by
  have inputs : (completeRun s).crack.inputs = s.crack.inputs.map (fun i => { i with count := 0 }) := by
    rw [completeRun_eq, runHandedOn]
    simp [averaged, updateEnabled]
  rw [inputs]
  exact fun i hi => by obtain ⟨j, -, rfl⟩ := List.mem_map.mp hi; rfl

/-- What a step of the shunt leaves of the scanner's run and of the crack monitor. -/
theorem advanceShunt_keepsRun (samples : List (Int × Bool)) (s : State) :
    (advanceShunt samples s).scan.timer = s.scan.timer ∧ (advanceShunt samples s).scan.runTaken = s.scan.runTaken ∧
      (advanceShunt samples s).crack = s.crack := by
  have ended : (shuntEnds s).scan.timer = s.scan.timer ∧ (shuntEnds s).scan.runTaken = s.scan.runTaken ∧
      (shuntEnds s).crack = s.crack := by
    have released (u : State) : (groupReleased u).crack = u.crack := by
      unfold groupReleased
      split <;> simp
    simp [shuntEnds_eq, released]
  have span (u : State) : (spanEnds u).scan.timer = u.scan.timer ∧ (spanEnds u).scan.runTaken = u.scan.runTaken ∧
      (spanEnds u).crack = u.crack := by
    unfold spanEnds
    split <;> exact ⟨rfl, rfl, rfl⟩
  cases hspan : s.scan.shunt with
  | before => rw [advanceShunt_before hspan]; split; exacts [span _, ⟨rfl, rfl, rfl⟩]
  | onSettle => rw [advanceShunt_onSettle hspan]; split; exacts [span _, ⟨rfl, rfl, rfl⟩]
  | on => rw [advanceShunt_on hspan]; split; exacts [span _, ⟨rfl, rfl, rfl⟩]
  | offSettle => rw [advanceShunt_offSettle hspan]; split; exacts [ended, ⟨rfl, rfl, rfl⟩]
  | _ => rw [advanceShunt, hspan]; exact ⟨rfl, rfl, rfl⟩

/-- The averaging run of a channel just averaged: its marks and its rounded mean are the latest, its sums afresh. -/
theorem averagesOf_eq {c : Nat} {s t : State} (agree : ChannelsAgree averagesOf (averaged s) t)
    (h : (channelAt c s).state ≠ .disabled) :
    (channelAt c t).latest = roundDiv (channelAt c s).sum s.scan.runLength ∧
      (channelAt c t).latestOver = (channelAt c s).overMark ∧ (channelAt c t).latestShunt = (channelAt c s).shuntMark ∧
      (channelAt c t).sum = 0 ∧ (channelAt c t).overMark = false ∧ (channelAt c t).shuntMark = false := by
  have read := agree.read c
  rw [channelAt_averaged h] at read
  simp only [averagesOf, formAverage, Prod.mk.injEq] at read
  obtain ⟨hsum, hover, hshunt, hlatest, hlatestOver, hlatestShunt⟩ := read
  exact ⟨hlatest, hlatestOver, hlatestShunt, hsum, hover, hshunt⟩

/-- A SCAN that completes its averaging run forms the averages of the sums its own samples have entered. -/
theorem scan_completes {codes : List Int} {load : Int} {s : State} {due : Nat} (hphase : s.loader.phase = .running)
    (htimer : s.scan.timer = some due) (hdue : due ≤ s.age) (hfull : s.scan.runLength ≤ s.scan.runTaken + 1) :
    ∃ t, exec (.scan codes load) s = .next (startCommands t) ∧ t.scan.runTaken = 0 ∧
      t.scan.timer = some (s.age + 10 * s.cfg.scanPeriod) ∧ (∀ i ∈ t.crack.inputs, i.count = 0) ∧
      ChannelsAgree averagesOf (averaged (sampled codes load s)) t := by
  refine ⟨_, exec_scan hphase htimer hdue, ?_⟩
  rw [completeIfDue_of_due (s := sampled codes load s) hfull]
  have counts := completeRun_counts (sampled codes load s)
  have taken : (completeRun (sampled codes load s)).scan.runTaken = 0 := rfl
  have timer : (completeRun (sampled codes load s)).scan.timer = some (s.age + 10 * s.cfg.scanPeriod) := by
    rw [completeRun_eq, runHandedOn]
    simp [averaged, updateEnabled]
    rfl
  have formed := completeRun_averages (sampled codes load s)
  generalize completeRun (sampled codes load s) = u at *
  obtain ⟨ht, hr, hk⟩ := advanceShunt_keepsRun (scanSamples codes s) (advanceZero codes u)
  have shunt : ChannelsAgree averagesOf (advanceZero codes u)
      (advanceShunt (scanSamples codes s) (advanceZero codes u)) :=
    advanceShunt_agree blind_averagesOf (fun _ _ _ _ => rfl) _ _
  refine ⟨by simp [hr, taken], by simp [ht, timer], by simpa [hk] using counts, ?_⟩
  exact ((formed.trans (.advanceZero (fun _ _ => rfl) (fun _ _ => rfl) codes u)).trans shunt).trans
    (.of_channels (by simp))

end Sys2Proof.Machine

/-! The samples the record memory writes (sections 9.1, 9.2 and 9.7): a sample as bytes, a sample in a FILLING block, an
opening, and with them the averages of a SCAN (O32). -/
namespace Sys2Proof.Machine

open Sys2Proof

-- One proof after the other: the threads of the check, which compiles the whole text at once, share one memory limit.
set_option Elab.async false

/-! ### A sample as bytes (R148, Tables 9-5 and 9-6) -/

theorem flatMap_filter {α β : Type} (p : α → Bool) (f : α → List β) (l : List α) :
    (l.filter p).flatMap f = l.flatMap (fun x => if p x then f x else []) := by
  induction l with
  | nil => rfl
  | cons x r ih => by_cases hp : p x <;> simp [hp, ih]

theorem channels_eq_map {s : State} (h : s.scan.channels.length = 16) :
    s.scan.channels = (List.range 16).map (fun c => channelAt c s) := by
  refine List.ext_getElem (by simp [h]) fun c hc _ => ?_
  simp [channelAt, hc]

theorem channelEnabled_iff (ch : Channel) : channelEnabled ch = decide (ch.state ≠ .disabled) := rfl

/-- A sample's strains are those of the enabled channels in ascending order. -/
theorem sampleStrains_eq {s : State} (h : s.scan.channels.length = 16) :
    (s.scan.channels.filter channelEnabled).flatMap (fun ch => leSigned 2 (sampleStrain ch)) =
      (List.range 16).flatMap (fun c =>
        if (channelAt c s).state = .disabled then []
        else leSigned 2 (if (channelAt c s).latestOver then -32768 else roundDiv (channelAt c s).latest 10)) := by
  rw [flatMap_filter, channels_eq_map h, List.flatMap_map]
  refine congrArg (fun f => (List.range 16).flatMap f) (funext fun c => ?_)
  by_cases hstate : (channelAt c s).state = .disabled <;> simp [channelEnabled, hstate, sampleStrain]

theorem enabledCount_eq {s : State} (h : s.scan.channels.length = 16) :
    enabledCount s = ((List.range 16).filter (fun c => decide ((channelAt c s).state ≠ .disabled))).length := by
  rw [enabledCount, channels_eq_map h, List.countP_map, List.countP_eq_length_filter]
  rfl

theorem sampleSize_eq {s : State} (h : s.scan.channels.length = 16) : sampleSize s = sampleWidth s := by
  rw [sampleSize, enabledCount_eq h, sampleWidth]

theorem sampleSize_le {s : State} (h : s.scan.channels.length = 16) : sampleSize s ≤ 44 := by
  have few := List.countP_le_length (p := channelEnabled) (l := s.scan.channels)
  rw [sampleSize, enabledCount]
  omega

theorem flatMap_length_const {α β : Type} {f : α → List β} {k : Nat} (hf : ∀ x, (f x).length = k) (l : List α) :
    (l.flatMap f).length = l.length * k := by
  induction l with
  | nil => simp
  | cons x r ih => simp only [List.flatMap_cons, List.length_append, hf, ih, List.length_cons]; ring

theorem sampleBytes_length (offset : Nat) (counts : List Nat) (s : State) :
    (sampleBytes offset counts s).length = sampleSize s := by
  simp only [sampleBytes, List.length_append, leBytes_length, leSigned_length,
    flatMap_length_const (k := 1) (fun i => leBytes_length 1 (counts.getD i 0)),
    flatMap_length_const (k := 2) (fun ch => leSigned_length 2 (sampleStrain ch)), List.length_range, sampleSize,
    enabledCount, List.countP_eq_length_filter]
  omega

theorem maskOf_eq_sum (test : Channel → Bool) (l : List Channel) (d : Channel) :
    maskOf test l = ((List.range l.length).map (fun c => if test (l.getD c d) then 2 ^ c else 0)).sum := by
  induction l with
  | nil => rfl
  | cons ch r ih =>
    have doubled : (List.range r.length).map (fun c => if test (r.getD c d) then 2 ^ (c + 1) else 0) =
        (List.range r.length).map (fun c => 2 * if test (r.getD c d) then 2 ^ c else 0) :=
      List.map_congr_left fun c _ => by split <;> ring
    rw [maskOf, ih, List.length_cons, List.range_succ_eq_map, List.map_cons, List.sum_cons, List.map_map,
      ← List.sum_map_mul_left]
    refine congrArg₂ (· + ·) (by rw [List.getD_cons_zero, pow_zero, bit]) (congrArg List.sum doubled.symm)

theorem maskOf_eq_channelMask {s : State} (h : s.scan.channels.length = 16) :
    maskOf channelEnabled s.scan.channels = channelMask s := by
  rw [maskOf_eq_sum _ _ Channel.reset, h, channelMask]
  refine congrArg List.sum (List.map_congr_left fun c _ => ?_)
  rw [← channelAt]
  by_cases hstate : (channelAt c s).state = .disabled
  · rw [if_pos hstate, if_neg (by simpa [channelEnabled] using hstate)]
  · rw [if_neg hstate, if_pos (by simpa [channelEnabled] using hstate)]

/-! ### A block changes on its pages (R147) -/

theorem pagesAddUp_of_restate {s t : State} {f : BlockEntry → BlockEntry} {n : Nat} (h : PagesAddUp s)
    (htable : t.recs.table = modifyAt f n s.recs.table) (hpages : ∀ e, (f e).pages = e.pages)
    (hfilling : ∀ e, (f e).state = .filling → e.state = .filling)
    (hold : (blockAt n s).state ≠ .free) (hnew : (f (blockAt n s)).state ≠ .free)
    (hrest : t.recs.freePages = s.recs.freePages ∧ t.cfg = s.cfg ∧ t.loader = s.loader) : PagesAddUp t := by
  obtain ⟨hlen, hsize, hheld, hbound, hsum, hcount, hphase⟩ := h
  obtain ⟨hfree, hcfg, hloader⟩ := hrest
  have hn := lt_of_blockAt_ne_free hold
  have hrun : s.loader.phase = .running := Classical.not_not.mp fun hp => hold (hphase hp _ (blockAt_mem hn))
  have hpagesOf : heldPages t = heldPages s := by rw [heldPages, htable, flatMap_pages_modifyAt n _ hpages]; rfl
  have hlength : t.recs.table.length = 64 := by rw [htable, modifyAt_length, hlen]
  have hfillings : t.recs.table.countP (fun e => decide (e.state = .filling)) ≤ 1 := by
    rw [htable]
    refine Nat.le_trans (countP_modifyAt_le n _ fun e he => ?_) hcount
    simpa using hfilling e (by simpa using he)
  refine ⟨hlength, fun e he => ?_, hpagesOf ▸ hheld, hpagesOf ▸ hbound, by rw [hpagesOf, hfree, hsum], hfillings,
    fun hp => absurd (hloader ▸ hrun) hp⟩
  obtain ⟨m, hm, rfl⟩ := List.mem_iff_getElem.mp he
  have heq : t.recs.table[m] = blockAt m t := by
    rw [blockAt, List.getD_eq_getElem?_getD, List.getElem?_eq_getElem hm]; rfl
  rw [heq, blockAt_of_modifyAt htable, hcfg]
  have hm64 : m < s.recs.table.length := by omega
  by_cases hnm : n = m
  · subst hnm
    rw [if_pos ⟨rfl, hn⟩, if_neg hnew, hpages, hsize _ (blockAt_mem hn), if_neg hold]
  · rw [if_neg (fun h => hnm h.1)]
    exact hsize _ (blockAt_mem hm64)

/-! ### A sample in a FILLING block (R148) -/

/-- The station with a sample written into block `n`, before a full block is sealed. -/
def sampleWritten (counts : List Nat) (n : Nat) (s : State) : State :=
  { s with
    recs.pool := blockWrite (blockAt n s).pages (32 + (blockAt n s).samples * sampleSize s)
      (sampleBytes (wholeMs (s.age - (blockAt n s).firstAge)) counts s) s.recs.pool
    recs.table := modifyAt (fun e =>
      { e with samples := e.samples + 1, lastOffset := wholeMs (s.age - (blockAt n s).firstAge) }) n s.recs.table }

theorem writeSample_of_room {counts : List Nat} {n : Nat} {s : State}
    (h : (blockAt n s).samples + 1 < samplesPerBlock s) : writeSample counts n s = sampleWritten counts n s :=
  if_neg (Nat.not_le.mpr h)

theorem writeSample_of_full {counts : List Nat} {n : Nat} {s : State}
    (h : samplesPerBlock s ≤ (blockAt n s).samples + 1) :
    writeSample counts n s = sealBlock .full none (sampleWritten counts n s) :=
  if_pos h

/-- The samples that a block holds fit behind its header. -/
theorem sample_fits {s : State} {i : Nat} (h : i < samplesPerBlock s) :
    32 + i * sampleSize s + sampleSize s ≤ 256 * s.cfg.blockPages := by
  have hsize : 0 < sampleSize s := by unfold sampleSize; omega
  have hle : (i + 1) * sampleSize s ≤ s.cfg.blockPages * 256 - 32 := by
    have hdiv := Nat.div_mul_le_self (s.cfg.blockPages * 256 - 32) (sampleSize s)
    exact (Nat.mul_le_mul_right _ h).trans hdiv
  rw [Nat.add_mul] at hle
  omega

section
variable {counts : List Nat} {n : Nat} {s : State} (hpages : PagesAddUp s) (hpool : PoolCanonical s)
  (h : (blockAt n s).state = .filling) (hroom : (blockAt n s).samples < samplesPerBlock s)

include h in
theorem sampleWritten_blockAt (m : Nat) :
    blockAt m (sampleWritten counts n s) =
      if n = m then { blockAt n s with
        samples := (blockAt n s).samples + 1, lastOffset := wholeMs (s.age - (blockAt n s).firstAge) }
      else blockAt m s := by
  have hlt := lt_of_blockAt_ne_free (n := n) (s := s) (by rw [h]; decide)
  rw [blockAt_of_modifyAt (s := s) (t := sampleWritten counts n s) (n := n) rfl]
  by_cases hm : n = m
  · subst hm; simp [hlt]
  · simp [hm]

include hpages h in
theorem sampleWritten_pagesAddUp : PagesAddUp (sampleWritten counts n s) :=
  pagesAddUp_of_restate hpages rfl (fun _ => rfl) (fun _ hf => hf) (by rw [h]; decide) (by simp [h]) ⟨rfl, rfl, rfl⟩

include hpool in
theorem sampleWritten_poolCanonical : PoolCanonical (sampleWritten counts n s) :=
  blockWrite_wf _ _ _ hpool

include hpages hpool h hroom

theorem sampleWritten_read :
    blockRead (blockAt n s).pages (32 + (blockAt n s).samples * sampleSize s) (sampleSize s)
      (sampleWritten counts n s).recs.pool =
        sampleBytes (wholeMs (s.age - (blockAt n s).firstAge)) counts s :=
  blockRead_blockWrite (pagesOf_block hpages (by rw [h]; decide)) hpool (sampleBytes_length _ _ _) (sample_fits hroom)

/-- A sample is written at its place, and nothing else of its block. -/
theorem sampleWritten_apart {b k : Nat}
    (hapart : b + k ≤ 32 + (blockAt n s).samples * sampleSize s ∨
      32 + ((blockAt n s).samples + 1) * sampleSize s ≤ b) :
    blockRead (blockAt n s).pages b k (sampleWritten counts n s).recs.pool =
      blockRead (blockAt n s).pages b k s.recs.pool := by
  refine blockRead_blockWrite_of_apart (pagesOf_block hpages (by rw [h]; decide)) hpool ?_ ?_
  · rw [sampleBytes_length]; exact sample_fits hroom
  · rw [sampleBytes_length]
    rw [Nat.add_mul] at hapart
    omega

end

/-! ### The seal that the sample's age or number brings (R148) -/

theorem sealIfOld_of_none {s : State} (h : fillingBlock s = none) : sealIfOld s = s := by
  rw [sealIfOld, h]

theorem sealIfOld_of_young {n : Nat} {s : State} (h : fillingBlock s = some n)
    (hage : s.age - (blockAt n s).firstAge ≤ 655350) : sealIfOld s = s := by
  rw [sealIfOld, h]
  exact if_neg (Nat.not_lt.mpr hage)

theorem sealIfOld_of_old {n : Nat} {s : State} (h : fillingBlock s = some n)
    (hage : 655350 < s.age - (blockAt n s).firstAge) (hfetch : s.recs.fetchQ = []) :
    sealIfOld s = blockSealed .time none n s := by
  rw [sealIfOld, h]
  exact (if_pos hage).trans (sealBlock_of_quiet h hfetch)

theorem blockSealed_pagesAddUp {cause : SealCause} {kind : Option AlarmKind} {n : Nat} {s : State}
    (hpages : PagesAddUp s) (h : (blockAt n s).state = .filling) : PagesAddUp (blockSealed cause kind n s) :=
  pagesAddUp_of_restate (n := n) (f := fun e => { e with state := .sealed }) hpages (by simp) (fun _ => rfl)
    (fun _ hf => nomatch hf) (by rw [h]; decide) (by simp) (by simp [blockSealed])

theorem blockSealed_poolCanonical {cause : SealCause} {kind : Option AlarmKind} {n : Nat} {s : State}
    (hpool : PoolCanonical s) : PoolCanonical (blockSealed cause kind n s) := by
  rw [PoolCanonical, show (blockSealed cause kind n s).recs.pool = sealedPool cause kind n s by simp]
  exact blockWrite_wf _ _ _ (blockWrite_wf _ _ _ (blockWrite_wf _ _ _ (blockWrite_wf _ _ _ hpool)))

/-! ### An opening (R149) -/

theorem freeBlock_of_lowest {m : Nat} {s : State} (hlen : s.recs.table.length = 64) (h : LowestFree m s) :
    freeBlock s = some m := by
  obtain ⟨hm, hfree, hlow⟩ := h
  have entry {k : Nat} (hk : k < s.recs.table.length) : s.recs.table[k] = blockAt k s := by
    simp [blockAt, hk]
  rw [freeBlock, List.findIdx?_eq_some_iff_getElem]
  refine ⟨by omega, by simpa [entry] using hfree, fun k hk => ?_⟩
  simpa [entry] using hlow k hk

theorem freeBlock_of_none {s : State} (hlen : s.recs.table.length = 64)
    (h : ∀ m, m < 64 → (blockAt m s).state ≠ .free) : freeBlock s = none := by
  rw [freeBlock, List.findIdx?_eq_none_iff]
  intro e he
  obtain ⟨k, hk, rfl⟩ := List.getElem_of_mem he
  have := h k (by omega)
  simpa [blockAt, hk] using this

/-- REC_PRESSURE judged on the pages an opening leaves free (R153). -/
def openingPressure (s : State) : Bool :=
  if s.recs.freePages - s.cfg.blockPages < 64 then true
  else if 96 ≤ s.recs.freePages - s.cfg.blockPages then false else s.recs.pressure

/-- The station whose block `n` takes its pages, before the header is written. -/
def pagesTaken (n : Nat) (s : State) : State :=
  { s with
    recs.pool := (pagesToTake s).foldl poolClearPage s.recs.pool
    recs.freePages := s.recs.freePages - s.cfg.blockPages
    recs.serial := s.recs.serial + 1
    recs.pressure := openingPressure s
    recs.table := setAt n (openedEntry s) s.recs.table }

theorem openBlock_eq (n : Nat) (s : State) :
    openBlock n s = { pagesTaken n s with
      recs.pool := blockWrite (pagesToTake s) 0 (headerBytes n (pagesTaken n s)) (pagesTaken n s).recs.pool
      recs.gap := 0 } := rfl

theorem openBlock_pool (n : Nat) (s : State) :
    (openBlock n s).recs.pool =
      blockWrite (pagesToTake s) 0 (headerBytes n (pagesTaken n s)) (pagesTaken n s).recs.pool := by
  rw [openBlock_eq]

theorem openBlock_numbers (n : Nat) (s : State) :
    (openBlock n s).recs.freePages = s.recs.freePages - s.cfg.blockPages ∧ (openBlock n s).recs.gap = 0 ∧
      (openBlock n s).recs.serial = s.recs.serial + 1 ∧ (openBlock n s).recs.pressure = openingPressure s := by
  rw [openBlock_eq]
  exact ⟨rfl, rfl, rfl, rfl⟩

theorem headerBytes_length (n : Nat) (s : State) : (headerBytes n s).length = 32 := by
  simp [headerBytes]

theorem blockByte_clearPages {pages : List Nat} {k x : Nat} {m : List Host.Cell} (h : PagesOf k pages)
    (hx : x < 256 * k) : blockByte pages (pages.foldl poolClearPage m) x = 0 := by
  obtain ⟨p, hp, haddress, -⟩ := blockAddress_of_lt h hx
  have cleared (l : List Nat) (m : List Host.Cell) (a : Nat) (ha : a / 256 ∈ l) :
      poolRead (l.foldl poolClearPage m) a = 0 := by
    induction l generalizing m with
    | nil => simp at ha
    | cons q r ih =>
      by_cases hr : a / 256 ∈ r
      · exact ih _ hr
      · rw [List.foldl_cons, poolRead_clearPages r _ hr, poolRead_poolClearPage,
          if_pos ((List.mem_cons.mp ha).resolve_right hr)]
  rw [blockByte, haddress]
  exact cleared pages m _ (blockAddress_page haddress)

section
variable {n : Nat} {s : State} (hpages : PagesAddUp s) (hpool : PoolCanonical s)
  (hroom : s.cfg.blockPages ≤ s.recs.freePages)

include hpages hroom in
theorem pagesOf_pagesToTake : PagesOf s.cfg.blockPages (pagesToTake s) :=
  ⟨pagesToTake_length hpages hroom, pagesToTake_nodup s, fun _ hp => (mem_pagesToTake hp).1⟩

theorem openBlock_blockAt (hfree : freeBlock s = some n) (m : Nat) :
    blockAt m (openBlock n s) = if n = m then openedEntry s else blockAt m s := by
  have hn := (freeBlock_state hfree).1
  rw [blockAt_of_setAt (openBlock_table n s).1]
  by_cases hm : n = m
  · subst hm; simp [hn]
  · simp [hm]

include hpool in
theorem openBlock_poolCanonical : PoolCanonical (openBlock n s) := by
  rw [PoolCanonical, openBlock_pool]
  exact blockWrite_wf _ _ _ (foldl_poolClearPage_wf _ hpool)

include hpages hroom hpool

theorem openBlock_header (hsize : 1 ≤ s.cfg.blockPages) :
    blockRead (pagesToTake s) 0 32 (openBlock n s).recs.pool = headerBytes n (pagesTaken n s) := by
  rw [openBlock_pool]
  exact blockRead_blockWrite (pagesOf_pagesToTake hpages hroom) (foldl_poolClearPage_wf _ hpool)
    (headerBytes_length _ _) (by omega)

/-- Behind its header a block just opened is zero. -/
theorem openBlock_zeros (hsize : 1 ≤ s.cfg.blockPages) {b : Nat} (hb : 32 ≤ b) (hend : b < 256 * s.cfg.blockPages) :
    blockRead (pagesToTake s) b 1 (openBlock n s).recs.pool = [0] := by
  have block := pagesOf_pagesToTake hpages hroom
  have past : blockRead (pagesToTake s) b 1 (openBlock n s).recs.pool =
      blockRead (pagesToTake s) b 1 (pagesTaken n s).recs.pool := by
    rw [openBlock_pool]
    exact blockRead_blockWrite_of_apart block (foldl_poolClearPage_wf _ hpool) (by rw [headerBytes_length]; omega)
      (.inr (by rw [headerBytes_length]; omega))
  rw [past, blockRead_eq_map]
  exact congrArg (fun v => [v]) (blockByte_clearPages block (by omega))

end

end Sys2Proof.Machine

/-! The averages of a SCAN and the samples they write (O32; sections 6.2, 6.3, 9.1 and 9.2). -/
namespace Sys2Proof.Machine

open Sys2Proof

-- One proof after the other: the threads of the check, which compiles the whole text at once, share one memory limit.
set_option Elab.async false

/-! ### A run that completes with nothing raised -/

/-- From `s` to `u` only the scanner's channels, its run and the inputs it reads have changed. -/
structure ScanOnly (s u : State) : Prop where
  station : u.cfg = s.cfg ∧ u.loader = s.loader ∧ u.age = s.age
  units : u.seq = s.seq ∧ u.servo = s.servo ∧ u.cmd = s.cmd ∧ u.line = s.line ∧ u.recs = s.recs ∧ u.crack = s.crack
  scan : u.scan.zero = s.scan.zero ∧ u.scan.shunt = s.scan.shunt
  states : ChannelsAgree Channel.state s u

namespace ScanOnly

variable {s t u : State}

theorem trans (h : ScanOnly s t) (k : ScanOnly t u) : ScanOnly s u where
  station := by simp [k.station, h.station]
  units := by simp [k.units, h.units]
  scan := by simp [k.scan, h.scan]
  states := h.states.trans k.states

theorem refl (s : State) : ScanOnly s s := ⟨⟨rfl, rfl, rfl⟩, ⟨rfl, rfl, rfl, rfl, rfl, rfl⟩, ⟨rfl, rfl⟩, .refl s⟩

theorem updateChannel {f : Channel → Channel} (hf : ∀ ch, (f ch).state = ch.state) (c : Nat) (s : State) :
    ScanOnly s (updateChannel f c s) :=
  ⟨⟨rfl, rfl, rfl⟩, ⟨rfl, rfl, rfl, rfl, rfl, rfl⟩, ⟨rfl, rfl⟩, .updateChannel hf c s⟩

theorem averaged_sampled (codes : List Int) (load : Int) (s : State) :
    ScanOnly s (averaged (sampled codes load s)) where
  station := ⟨rfl, rfl, rfl⟩
  units := ⟨rfl, rfl, rfl, rfl, rfl, rfl⟩
  scan := ⟨rfl, rfl⟩
  states := (sampled_agree (g := Channel.state) (fun _ _ _ _ => rfl) codes load s).trans
    (.updateEnabled (f := fun _ ch => formAverage (sampled codes load s).scan.runLength ch) (fun _ _ => rfl) _)

end ScanOnly

/-- The exceed run of an OK channel is not at its end (R100). -/
def ExceedShort (c : Nat) (s : State) : Prop :=
  (channelAt c s).state = .ok → (channelAt c s).exceed + 1 < (channelCfg c s).exceedCount

theorem limitCheck_scanOnly {c : Nat} {s : State} (h : ExceedShort c s) :
    ScanOnly s (limitCheck c s) ∧ ∀ m, m ≠ c → channelAt m (limitCheck c s) = channelAt m s := by
  have updated {f : Channel → Channel} (hf : ∀ ch, (f ch).state = ch.state)
      (hcheck : limitCheck c s = updateChannel f c s) :
      ScanOnly s (limitCheck c s) ∧ ∀ m, m ≠ c → channelAt m (limitCheck c s) = channelAt m s := by
    rw [hcheck]
    exact ⟨.updateChannel hf c s, fun m hm => channelAt_updateChannel_ne hm⟩
  by_cases hrest : (channelAt c s).state ≠ .ok ∨ (channelAt c s).latestShunt = true
  · rw [limitCheck_of_rest hrest]
    exact ⟨.refl s, fun _ _ => rfl⟩
  · push Not at hrest
    obtain ⟨hok, hclear⟩ := hrest
    have hclear := Bool.eq_false_iff.mpr hclear
    by_cases hagreed : Beyond c s ↔ (channelAt c s).cause = true
    · exact updated (f := fun ch => { ch with exceed := 0 }) (fun _ => rfl) (limitCheck_of_agreed hok hclear hagreed)
    · exact updated (f := fun ch => { ch with exceed := ch.exceed + 1 }) (fun _ => rfl)
        (limitCheck_of_counted hok hclear hagreed (h hok))

theorem limitChecks_scanOnly {n c : Nat} {s : State} (h : ∀ m, c ≤ m → m < c + n → ExceedShort m s) :
    ScanOnly s (limitChecks c n s) := by
  induction n generalizing c s with
  | zero => exact .refl s
  | succ n ih =>
    obtain ⟨only, others⟩ := limitCheck_scanOnly (h c (Nat.le_refl c) (by omega))
    refine only.trans (ih fun m hm hend => ?_)
    have short := h m (by omega) (by omega)
    have cfg : channelCfg m (limitCheck c s) = channelCfg m s := by simp [channelCfg]
    rwa [ExceedShort, others m (by omega), cfg]

/-- The sample's AE counts: those of the station before the run completed (R129). -/
def countsOf (s : State) : List Nat :=
  s.crack.inputs.map (fun i => i.count)

/-- What the scan shows of the state in which the sample was stored. -/
structure HandsOn (w t : State) : Prop where
  table : t.recs.table = w.recs.table
  pool : t.recs.pool = w.recs.pool
  queue : t.recs.sealedQ = w.recs.sealedQ
  numbers : t.recs.freePages = w.recs.freePages ∧ t.recs.gap = w.recs.gap ∧ t.recs.serial = w.recs.serial ∧
    t.recs.pressure = w.recs.pressure
  events : t.line.events = w.line.events
  channels : t.scan.channels = w.scan.channels

theorem HandsOn.blockAt {w t : State} (h : HandsOn w t) (m : Nat) : blockAt m t = blockAt m w := by
  rw [Machine.blockAt, h.table, ← Machine.blockAt]

/-- The station in which a sample is stored differs from `s` by the channels' averages, and by a block sealed. -/
structure SampleFrom (s v : State) : Prop where
  station : v.cfg = s.cfg ∧ v.loader = s.loader ∧ v.age = s.age
  units : v.seq = s.seq ∧ v.servo = s.servo ∧ v.cmd = s.cmd
  states : ChannelsAgree Channel.state s v
  numbers : v.recs.freePages = s.recs.freePages ∧ v.recs.gap = s.recs.gap ∧ v.recs.serial = s.recs.serial ∧
    v.recs.pressure = s.recs.pressure
  capture : v.recs.capture = s.recs.capture ∧ v.recs.captureKind = s.recs.captureKind

/-- A SCAN that completes its averaging run quietly stores one sample, behind the seal of a block grown old. -/
theorem exec_scan_of_quiet {s : State} {due : Nat} (codes : List Int) (load : Int) (h : CompletesQuietly due s) :
    ∃ v t, exec (.scan codes load) s = .next t ∧ SampleFrom s v ∧ v.recs = s.recs ∧ v.line = s.line ∧
      HandsOn (storeSample (countsOf s) (sealIfOld v)) t := by
  obtain ⟨⟨hphase, htimer, hdue, hfull, hzero, hshunt, -, hshort⟩, flow, -⟩ := h
  have formed := ScanOnly.averaged_sampled codes load s
  have short (m : Nat) (hm : m < 16) : ExceedShort m (averaged (sampled codes load s)) := by
    have read := (sampled_limits codes load s).read m
    simp only [limitsOf, Prod.mk.injEq] at read
    obtain ⟨hstate, hexceed, -⟩ := read
    rw [ExceedShort, hstate, hexceed]
    exact hshort m hm
  have checked := formed.trans (limitChecks_scanOnly (n := 16) (c := 0) fun m _ hm => short m (by omega))
  have quiet := exec_scan (codes := codes) (load := load) hphase htimer hdue
  rw [completeIfDue_of_due (s := sampled codes load s) hfull, completeRun_eq] at quiet
  generalize limitChecks 0 16 (averaged (sampled codes load s)) = u at checked quiet
  obtain ⟨⟨hcfg, hloader, hage⟩, ⟨hseq, hservo, hcmd, hline, hrecs, hcrack⟩, ⟨huzero, hushunt⟩, states⟩ := checked
  have zeroNone : (runHandedOn u).scan.zero = none := by simp [runHandedOn, huzero, hzero]
  have shuntNone : (runHandedOn u).scan.shunt = .none := by simp [runHandedOn, hushunt, hshunt]
  have cmdSame : (scanCompleted (runHandedOn u)).cmd = s.cmd := by simp [runHandedOn, hcmd]
  rw [advanceZero_of_none zeroNone, advanceShunt_of_quiet shuntNone, startCommands_of_flow flow cmdSame] at quiet
  have stored : takeAverages u = storeSample (countsOf s)
      (sealIfOld { u with crack.inputs := u.crack.inputs.map (fun i => { i with count := 0 }) }) := by
    rw [takeAverages, countsOf, ← hcrack]
  refine ⟨{ u with crack.inputs := u.crack.inputs.map (fun i => { i with count := 0 }) }, _, quiet,
    ⟨⟨hcfg, hloader, hage⟩, ⟨hseq, hservo, hcmd⟩, states, by simp [hrecs], by simp [hrecs]⟩, hrecs, hline, ?_⟩
  rw [← stored]
  constructor <;> simp [runHandedOn]

/-! ### A sample stored -/

namespace SampleFrom

variable {s v : State} (h : SampleFrom s v)

include h

theorem length (h16 : s.scan.channels.length = 16) : v.scan.channels.length = 16 := by
  have := congrArg List.length h.states
  simpa [h16] using this

theorem state (c : Nat) : (channelAt c v).state = (channelAt c s).state :=
  h.states.read c

theorem width : sampleWidth v = sampleWidth s := by
  simp only [sampleWidth, h.state]

theorem size (h16 : s.scan.channels.length = 16) : sampleSize v = sampleWidth s := by
  rw [sampleSize_eq (h.length h16), h.width]

theorem perBlock (h16 : s.scan.channels.length = 16) : samplesPerBlock v = samplesOf s := by
  rw [samplesPerBlock, h.size h16, h.station.1, samplesOf, Nat.mul_comm, Config.pageBytes]

theorem required : requiredPages v = pagesRequired s := by
  rw [requiredPages, pagesRequired, h.capture.1, h.station.1]

theorem pagesAddUp (hrecs : v.recs = s.recs) (hpages : PagesAddUp s) : PagesAddUp v := by
  obtain ⟨hcfg, hloader, -⟩ := h.station
  unfold PagesAddUp heldPages
  rw [hrecs, hcfg, hloader]
  exact hpages

theorem bytes (h16 : s.scan.channels.length = 16) {t : State} (ht : t.scan.channels = v.scan.channels)
    (offset : Nat) : sampleBytes offset (countsOf s) v = sampleRow offset s t := by
  have counts (i : Nat) : (countsOf s).getD i 0 = (aeAt i s).count := by
    rw [countsOf, aeAt, List.getD_eq_getElem?_getD, List.getD_eq_getElem?_getD, List.getElem?_map]
    cases s.crack.inputs[i]? <;> rfl
  have read (c : Nat) : channelAt c v = channelAt c t := (channelAt_of_channels ht).symm
  simp only [sampleBytes, sampleRow, sampleStrains_eq (h.length h16), counts, h.units.2.1, read]

end SampleFrom

theorem SampleFrom.of_sealed {s v : State} (h : SampleFrom s v) (cause : SealCause) (kind : Option AlarmKind)
    (n : Nat) : SampleFrom s (blockSealed cause kind n v) where
  station := by simpa [blockSealed] using h.station
  units := by simpa [blockSealed] using h.units
  states := h.states.trans (.of_channels (by simp [blockSealed]))
  numbers := by simpa [blockSealed] using h.numbers
  capture := by simpa [blockSealed] using h.capture

theorem heldPages_blockSealed (cause : SealCause) (kind : Option AlarmKind) (n : Nat) (s : State) :
    heldPages (blockSealed cause kind n s) = heldPages s := by
  have table : (blockSealed cause kind n s).recs.table =
      modifyAt (fun e => { e with state := .sealed }) n s.recs.table := by simp
  rw [heldPages, table, flatMap_pages_modifyAt (f := fun e => { e with state := .sealed }) n _ fun _ => rfl,
    ← heldPages]

/-! ### The next sample of a FILLING block (R148) -/

/-- A sample written into the FILLING block `n`, with the block sealed where it is the last (R148, R151). -/
theorem storeSample_fills {s v t : State} {n : Nat} (source : SampleFrom s v) (hrecs : v.recs = s.recs)
    (h16 : s.scan.channels.length = 16) (hpages : PagesAddUp s) (hpool : PoolCanonical s)
    (hsize : 1 ≤ s.cfg.blockPages) (hfetch : s.recs.fetchQ = []) (hn : (blockAt n s).state = .filling)
    (hroom : (blockAt n s).samples < samplesOf s) (hands : HandsOn (storeSample (countsOf s) v) t) :
    SampleStored n (blockAt n s).samples ((s.age - (blockAt n s).firstAge) / 10) s t ∧
      (∀ m, m ≠ n → blockAt m t = blockAt m s) ∧ t.recs.freePages = s.recs.freePages ∧ t.recs.gap = s.recs.gap ∧
      t.recs.serial = s.recs.serial ∧
      ((blockAt n s).samples + 1 < samplesOf s →
        blockAt n t = { blockAt n s with
          samples := (blockAt n s).samples + 1, lastOffset := (s.age - (blockAt n s).firstAge) / 10 } ∧
        t.recs.sealedQ = s.recs.sealedQ ∧
        ∀ b, b < 256 * s.cfg.blockPages →
          (b < 32 + (blockAt n s).samples * sampleWidth s ∨
            32 + ((blockAt n s).samples + 1) * sampleWidth s ≤ b) →
          blockRead (blockAt n s).pages b 1 t.recs.pool = blockRead (blockAt n s).pages b 1 s.recs.pool) ∧
      (samplesOf s ≤ (blockAt n s).samples + 1 →
        blockAt n t = { blockAt n s with
          state := .sealed, samples := (blockAt n s).samples + 1
          lastOffset := (s.age - (blockAt n s).firstAge) / 10 } ∧
        t.recs.sealedQ = s.recs.sealedQ ++ [n] ∧ HasEvent 0 t ∧
        blockRead (blockAt n s).pages 17 1 t.recs.pool = [1] ∧ blockRead (blockAt n s).pages 19 1 t.recs.pool = [0] ∧
        blockRead (blockAt n s).pages 21 1 t.recs.pool = leBytes 1 ((blockAt n s).samples + 1) ∧
        blockRead (blockAt n s).pages 28 4 t.recs.pool =
          leBytes 2 ((s.age - (blockAt n s).firstAge) / 10) ++ leBytes 2 s.recs.freePages) := by
  have entry (m : Nat) : blockAt m v = blockAt m s := by rw [blockAt, hrecs, ← blockAt]
  have vpages := source.pagesAddUp hrecs hpages
  have vpool : PoolCanonical v := by rwa [PoolCanonical, hrecs]
  have vn : (blockAt n v).state = .filling := by rw [entry]; exact hn
  have vroom : (blockAt n v).samples < samplesPerBlock v := by rw [entry, source.perBlock h16]; exact hroom
  have stored : storeSample (countsOf s) v = writeSample (countsOf s) n v := by
    rw [storeSample, fillingBlock_of_pages vpages vn]
  have offset : wholeMs (v.age - (blockAt n v).firstAge) = (s.age - (blockAt n s).firstAge) / 10 := by
    rw [entry, source.station.2.2, wholeMs, Config.perMs]
  have channels : t.scan.channels = v.scan.channels := by rw [hands.channels, stored]; simp
  have row := source.bytes h16 channels ((s.age - (blockAt n s).firstAge) / 10)
  have read := sampleWritten_read (counts := countsOf s) vpages vpool vn vroom
  have apart (b k : Nat) := sampleWritten_apart (counts := countsOf s) (b := b) (k := k) vpages vpool vn vroom
  have blocks := sampleWritten_blockAt (counts := countsOf s) vn
  have wpages := sampleWritten_pagesAddUp (counts := countsOf s) vpages vn
  have wpool : PoolCanonical (sampleWritten (countsOf s) n v) := sampleWritten_poolCanonical vpool
  rw [offset, row] at read
  simp only [offset] at blocks
  simp only [entry, source.size h16, hrecs] at read apart blocks
  rw [stored] at hands
  obtain ⟨htable, hpoolT, hqueue, ⟨hfree, hgap, hserial, -⟩, hevents, -⟩ := hands
  have entryT (m : Nat) : blockAt m t = blockAt m (writeSample (countsOf s) n v) := by
    rw [blockAt, htable, ← blockAt]
  have numbers : t.recs.freePages = s.recs.freePages ∧ t.recs.gap = s.recs.gap ∧ t.recs.serial = s.recs.serial := by
    simp [hfree, hgap, hserial, hrecs]
  rw [SampleStored, hpoolT]
  simp only [entryT, hqueue, HasEvent, hevents]
  by_cases hlast : (blockAt n s).samples + 1 < samplesOf s
  · rw [writeSample_of_room (by rw [entry, source.perBlock h16]; exact hlast)]
    refine ⟨by rw [blocks, if_pos rfl]; exact read, fun m hm => by rw [blocks, if_neg (Ne.symm hm)], numbers.1,
      numbers.2.1, numbers.2.2, fun _ => ⟨by rw [blocks, if_pos rfl], by rw [← hrecs]; rfl, fun b _ hb => ?_⟩,
      fun hfull => absurd hlast (Nat.not_lt.mpr hfull)⟩
    exact apart b 1 (by omega)
  · have wn : (blockAt n (sampleWritten (countsOf s) n v)).state = .filling := by rw [blocks, if_pos rfl]; exact hn
    have wfetch : (sampleWritten (countsOf s) n v).recs.fetchQ = [] :=
      (congrArg RecordMemory.fetchQ hrecs).trans hfetch
    have sealedAt (m : Nat) := blockSealed_blockAt (cause := .full) (kind := none) (m := m) wn
    obtain ⟨r17, r19, r21, r28, others⟩ := sealedPool_reads (cause := .full) (kind := none) wpages wpool
      (source.station.1 ▸ hsize) wn
    have wfree : (sampleWritten (countsOf s) n v).recs.freePages = s.recs.freePages := by rw [← hrecs]; rfl
    rw [blocks, if_pos rfl] at r17 r19 r21 r28 others sealedAt
    rw [writeSample_of_full (by rw [entry, source.perBlock h16]; omega),
      sealBlock_of_quiet (fillingBlock_of_pages wpages wn) wfetch]
    have sealedPoolEq : (blockSealed .full none n (sampleWritten (countsOf s) n v)).recs.pool =
        sealedPool .full none n (sampleWritten (countsOf s) n v) := by simp
    rw [sealedPoolEq]
    refine ⟨?_, fun m hm => by rw [sealedAt, if_neg (Ne.symm hm), blocks, if_neg (Ne.symm hm)], numbers.1, numbers.2.1,
      numbers.2.2, fun hfew => absurd hfew hlast,
      fun _ => ⟨by rw [sealedAt, if_pos rfl], by simp [sampleWritten, hrecs], blockSealed_event .full none n _, r17,
        r19, r21, by rw [r28, wfree]⟩⟩
    rw [sealedAt, if_pos rfl, others _ _ (by omega) (by omega) (by omega) (by omega)]
    exact read

/-! ### A sample with none FILLING (R149, R150) -/

theorem storeSample_of_open {counts : List Nat} {m : Nat} {s : State} (hfilling : fillingBlock s = none)
    (hfree : freeBlock s = some m) (hroom : requiredPages s ≤ s.recs.freePages) :
    storeSample counts s = writeSample counts m (openBlock m s) := by
  simp only [storeSample, hfilling, hfree]
  exact if_pos hroom

theorem storeSample_of_drop {counts : List Nat} {s : State} (hfilling : fillingBlock s = none)
    (h : freeBlock s = none ∨ s.recs.freePages < requiredPages s) : storeSample counts s = dropSample s := by
  simp only [storeSample, hfilling]
  cases hfree : freeBlock s with
  | none => rfl
  | some m =>
    refine if_neg (Nat.not_le.mpr (h.resolve_left ?_))
    rw [hfree]
    nofun

theorem one_lt_samplesPerBlock {s : State} (h16 : s.scan.channels.length = 16) (hsize : 1 ≤ s.cfg.blockPages) :
    1 < samplesPerBlock s := by
  have small := sampleSize_le h16
  have positive : 0 < sampleSize s := by unfold sampleSize; omega
  rw [samplesPerBlock, Nat.lt_div_iff_mul_lt positive, Config.pageBytes]
  omega

/-- The header as the opening finds the station (R149, Table 9-5). -/
theorem openedHeader_eq {s b t : State} {m : Nat} (source : SampleFrom s b) (h16 : s.scan.channels.length = 16)
    (hserial : t.recs.serial = b.recs.serial + 1) (hpressure : t.recs.pressure = openingPressure b) :
    headerBytes m (pagesTaken m b) = openedHeader m s t := by
  obtain ⟨hcfg, hloader, hage⟩ := source.station
  obtain ⟨hseq, hservo, hcmd⟩ := source.units
  obtain ⟨hcapture, hkind⟩ := source.capture
  have mask : maskOf channelEnabled b.scan.channels = channelMask s := by
    rw [maskOf_eq_channelMask (source.length h16), channelMask, channelMask]
    simp only [source.state]
  have flags : headerFlags (decide (0 < b.recs.gap)) b.recs.capture (openingPressure b) =
      (if 0 < s.recs.gap then 1 else 0) + (if s.recs.capture then 2 else 0) + (if t.recs.pressure then 4 else 0) := by
    rw [source.numbers.2.1, hcapture, ← hpressure, headerFlags]
    by_cases hgap : 0 < s.recs.gap <;> cases s.recs.capture <;> cases t.recs.pressure <;> simp [bit, hgap]
  have size : sampleSize (pagesTaken m b) = sampleWidth s := source.size h16
  simp only [headerBytes, openedHeader, size]
  simp only [pagesTaken, ownStation, flags, mask, hcfg, hloader, hseq, hcmd, hserial]
  rcases hnamed : s.recs.captureKind with _ | kind <;> simp only [source.numbers.2.1, hkind, hnamed]

section
variable {s b t : State} {m : Nat} (source : SampleFrom s b) (h16 : s.scan.channels.length = 16)
  (hpages : PagesAddUp b) (hpool : PoolCanonical b) (hsize : 1 ≤ s.cfg.blockPages) (hheld : heldPages b = heldPages s)
  (hrun : s.loader.phase = .running) (hfilling : fillingBlock b = none) (hfree : freeBlock b = some m)
  (hroom : pagesRequired s ≤ s.recs.freePages) (hands : HandsOn (storeSample (countsOf s) b) t)

include source hroom in
theorem openingRoom : requiredPages b ≤ b.recs.freePages := by
  rw [source.required, source.numbers.1]
  exact hroom

include source h16 hsize hfilling hfree hroom in
theorem storeSample_opens :
    storeSample (countsOf s) b = sampleWritten (countsOf s) m (openBlock m b) := by
  have few := one_lt_samplesPerBlock (s := openBlock m b) (by simpa using source.length h16)
    (by simpa [source.station.1] using hsize)
  rw [storeSample_of_open hfilling hfree (openingRoom source hroom),
    writeSample_of_room (by rw [openBlock_blockAt hfree, if_pos rfl]; exact few)]

include source h16 hpages hpool hsize hheld hrun hfilling hfree hroom hands

/-- An opening for a sample, and what it leaves (R149, R153). -/
theorem opened_for_sample :
    OpenedForSample m s t ∧ blockRead (blockAt m t).pages 0 32 t.recs.pool = openedHeader m s t ∧
      ∀ k, k ≠ m → blockAt k t = blockAt k b := by
  rw [storeSample_opens source h16 hsize hfilling hfree hroom] at hands
  obtain ⟨hcfg, hloader, hage⟩ := source.station
  have room : b.cfg.blockPages ≤ b.recs.freePages := requiredPages_le (openingRoom source hroom)
  have opened (k : Nat) := openBlock_blockAt hfree k
  have opages := openBlock_pagesAddUp (by rw [hloader]; exact hrun) hfree hpages hfilling room
  have opool : PoolCanonical (openBlock m b) := openBlock_poolCanonical hpool
  have filling : (blockAt m (openBlock m b)).state = .filling := by rw [opened, if_pos rfl]; rfl
  have samplesZero : (blockAt m (openBlock m b)).samples = 0 := by rw [opened, if_pos rfl]; rfl
  have pagesEq : (blockAt m (openBlock m b)).pages = pagesToTake b := by rw [opened, if_pos rfl]; rfl
  have few := one_lt_samplesPerBlock (s := openBlock m b) (by simpa using source.length h16)
    (by simpa [hcfg] using hsize)
  have sourceO : sampleSize (openBlock m b) = sampleWidth s := by
    rw [← source.size h16, sampleSize, sampleSize, enabledCount, enabledCount,
      show (openBlock m b).scan = b.scan by simp]
  have read := sampleWritten_read (counts := countsOf s) opages opool filling (by omega)
  have apart (x k : Nat) :=
    sampleWritten_apart (counts := countsOf s) (b := x) (k := k) opages opool filling (by omega)
  have blocks := sampleWritten_blockAt (counts := countsOf s) filling
  have firstAge : (openBlock m b).age - (blockAt m (openBlock m b)).firstAge = 0 := by
    rw [opened, if_pos rfl]
    exact Nat.sub_self _
  have channels : t.scan.channels = b.scan.channels := by rw [hands.channels]; simp [sampleWritten]
  have row : sampleBytes 0 (countsOf s) (openBlock m b) = sampleRow 0 s t := by
    rw [← source.bytes h16 channels 0]
    simp [sampleBytes]
  have zeroMs : wholeMs 0 = 0 := rfl
  rw [firstAge, zeroMs, row] at read
  rw [firstAge, zeroMs] at blocks
  rw [samplesZero, sourceO, pagesEq] at read apart
  simp only [Nat.zero_mul, Nat.add_zero, Nat.zero_add, Nat.one_mul] at read apart
  have entryT (k : Nat) : blockAt k t = if m = k then
      { openedEntry b with samples := 1, lastOffset := 0 } else blockAt k b := by
    rw [hands.blockAt, blocks, samplesZero, opened, opened]
    by_cases hk : m = k <;> simp [hk]
  have pagesT : (blockAt m t).pages = pagesToTake b := by rw [entryT, if_pos rfl]; rfl
  obtain ⟨-, hpoolT, -, ⟨hfreeT, hgapT, hserialT, hpressureT⟩, -, -⟩ := hands
  obtain ⟨ofree, ogap, oserial, opressure⟩ := openBlock_numbers m b
  have serial : t.recs.serial = b.recs.serial + 1 := hserialT.trans oserial
  have pressure : t.recs.pressure = openingPressure b := hpressureT.trans opressure
  have free : t.recs.freePages = s.recs.freePages - s.cfg.blockPages := by
    rw [← source.numbers.1, ← hcfg]
    exact hfreeT.trans ofree
  have header := openBlock_header (n := m) hpages hpool room (hcfg ▸ hsize)
  refine ⟨⟨⟨?_, ?_, fun p hp => ?_⟩, free, by rw [serial, source.numbers.2.2.1], hgapT.trans ogap, ?_, ?_,
    fun x hx hend => ?_⟩, ?_, fun k hk => by rw [entryT, if_neg (Ne.symm hk)]⟩
  · rw [entryT, if_pos rfl, ← hage]; rfl
  · rw [pagesT, pagesToTake_length hpages room, hcfg]
  · rw [pagesT] at hp
    exact ⟨(mem_pagesToTake hp).1, hheld ▸ (mem_pagesToTake hp).2⟩
  · rw [pressure, free, openingPressure, source.numbers.1, source.numbers.2.2.2, hcfg]
  · rw [SampleStored, pagesT, hpoolT, Nat.zero_mul, Nat.add_zero]
    exact read
  · rw [pagesT, hpoolT, apart x 1 (.inr hx)]
    exact openBlock_zeros hpages hpool room (hcfg ▸ hsize) (by omega) (hcfg ▸ hend)
  · rw [pagesT, hpoolT, apart 0 32 (.inl (by omega)), header]
    exact openedHeader_eq source h16 serial pressure

end

/-- A sample that finds no entry or no room is dropped (R150). -/
theorem sample_dropped {s b t : State} (source : SampleFrom s b) (hfilling : fillingBlock b = none)
    (hdrop : freeBlock b = none ∨ s.recs.freePages < pagesRequired s)
    (hands : HandsOn (storeSample (countsOf s) b) t) :
    SampleDropped s t ∧ t.recs.table = b.recs.table ∧ t.recs.pool = b.recs.pool := by
  obtain ⟨hfree, hgap, hserial, hpressure⟩ := source.numbers
  rw [storeSample_of_drop hfilling (by rwa [source.required, hfree])] at hands
  obtain ⟨htable, hpool, -, ⟨hfreeT, hgapT, hserialT, hpressureT⟩, hevents, -⟩ := hands
  refine ⟨⟨by rw [hgapT, ← hgap]; simp [dropSample], ?_, by rw [hfreeT, ← hfree]; simp [dropSample],
    by rw [hserialT, ← hserial]; simp [dropSample], by rw [hpressureT, ← hpressure]; simp [dropSample]⟩,
    by rw [htable]; simp [dropSample], by rw [hpool]; simp [dropSample]⟩
  rw [HasEvent, hevents]
  exact hasEvent_setEvent .gap _

/-- What the sample after a seal leaves: the block that holds its record, the sealed queue and the events set. -/
theorem storeSample_leaves {s b t : State} {n : Nat} (source : SampleFrom s b) (h16 : s.scan.channels.length = 16)
    (hsize : 1 ≤ s.cfg.blockPages) (hfilling : fillingBlock b = none)
    (hands : HandsOn (storeSample (countsOf s) b) t) :
    t.recs.sealedQ = b.recs.sealedQ ∧ (∀ bit, HasEvent bit b → HasEvent bit t) ∧
      (HoldsRecord n b → blockAt n t = blockAt n b ∧
        ∀ x k, blockRead (blockAt n b).pages x k t.recs.pool = blockRead (blockAt n b).pages x k b.recs.pool) := by
  have kept (h : storeSample (countsOf s) b = dropSample b) :
      t.recs.sealedQ = b.recs.sealedQ ∧ (∀ bit, HasEvent bit b → HasEvent bit t) ∧
        (HoldsRecord n b → blockAt n t = blockAt n b ∧
          ∀ x k, blockRead (blockAt n b).pages x k t.recs.pool = blockRead (blockAt n b).pages x k b.recs.pool) := by
    rw [h] at hands
    refine ⟨by rw [hands.queue]; simp [dropSample], fun bit hbit => ?_, fun _ => ⟨?_, fun x k => ?_⟩⟩
    · rw [HasEvent, hands.events]
      exact (setEvent_lineGrows .gap _).events bit hbit
    · rw [hands.blockAt, blockAt, blockAt]; simp [dropSample]
    · rw [hands.pool]; simp [dropSample]
  cases hfree : freeBlock b with
  | none => exact kept (storeSample_of_drop hfilling (.inl hfree))
  | some m =>
    by_cases hroom : pagesRequired s ≤ s.recs.freePages
    · rw [storeSample_opens source h16 hsize hfilling hfree hroom] at hands
      have opened (k : Nat) := openBlock_blockAt hfree k
      have filling : (blockAt m (openBlock m b)).state = .filling := by rw [opened, if_pos rfl]; rfl
      have line : (openBlock m b).line = b.line := by simp
      refine ⟨by rw [hands.queue]; simp [sampleWritten], fun bit hbit => ?_, fun hn => ?_⟩
      · rw [HasEvent, hands.events, show (sampleWritten (countsOf s) m (openBlock m b)).line = b.line from line]
        exact hbit
      · obtain ⟨-, hpages, hread⟩ := openBlock_stays hfree n hn
        have other : m ≠ n := fun hmn => holdsRecord_ne_free hn (hmn ▸ (freeBlock_state hfree).2)
        have entry : blockAt n (openBlock m b) = blockAt n b := by rw [opened, if_neg other]
        refine ⟨by rw [hands.blockAt, sampleWritten_blockAt filling, if_neg other, entry], fun x k => ?_⟩
        rw [hands.pool]
        refine blockRead_congr x k fun a ha => (poolRead_blockWrite _ _ _ ?_).trans (hread a ha)
        rw [opened, if_pos rfl]
        exact fun hmem => (mem_pagesToTake hmem).2 (mem_heldPages_of_blockAt ha)
    · refine kept (storeSample_of_drop hfilling (.inr ?_))
      rw [source.required, source.numbers.1]
      omega

/-! ### The statement -/

theorem lowestFree_of_states {m : Nat} {s b : State} (h : LowestFree m s)
    (hfree : ∀ k, (blockAt k b).state = .free ↔ (blockAt k s).state = .free) : LowestFree m b :=
  ⟨h.1, (hfree m).mpr h.2.1, fun k hk => mt (hfree k).mp (h.2.2 k hk)⟩

/-- The sample of a run that completes with none FILLING (R149, R150). -/
theorem sample_without_filling {s b t : State} {due : Nat} (h : CompletesQuietly due s) (source : SampleFrom s b)
    (hpages : PagesAddUp b) (hpool : PoolCanonical b) (hheld : heldPages b = heldPages s)
    (hstates : ∀ k, (blockAt k b).state = .free ↔ (blockAt k s).state = .free) (hfilling : fillingBlock b = none)
    (hands : HandsOn (storeSample (countsOf s) b) t) :
    (∀ m, LowestFree m s → pagesRequired s ≤ s.recs.freePages → OpenedForSample m s t ∧
      blockRead (blockAt m t).pages 0 32 t.recs.pool = openedHeader m s t ∧ ∀ k, k ≠ m → blockAt k t = blockAt k b) ∧
    (((∀ m, m < 64 → (blockAt m s).state ≠ .free) ∨ s.recs.freePages < pagesRequired s) →
      SampleDropped s t ∧ t.recs.table = b.recs.table ∧ t.recs.pool = b.recs.pool) := by
  obtain ⟨⟨hrun, -, -, -, -, -, h16, -⟩, -, -, -, hsize, -⟩ := h
  have hlen := hpages.1
  refine ⟨fun m hm hroom => ?_, fun hnone => ?_⟩
  · exact opened_for_sample source h16 hpages hpool hsize hheld hrun hfilling
      (freeBlock_of_lowest hlen (lowestFree_of_states hm hstates)) hroom hands
  · exact sample_dropped source hfilling
      (hnone.imp_left fun hall => freeBlock_of_none hlen fun m hm => mt (hstates m).mp (hall m hm)) hands

/-- Settles O32: the averages of a run stay through everything behind them, and a sample is one write into one block. -/
theorem scanAveragesItsSamples : Obligations.ScanAveragesItsSamples := by
  refine ⟨fun s codes load due hphase htimer hdue hshort hzero hshunt hcapture => ?_,
    fun s codes load due hphase htimer hdue hfull => ?_, fun s hphase htaken => ?_,
    fun s codes load due n h hn hage hroom => ?_, fun s codes load due n h hn hage => ?_,
    fun s codes load due h hnone => ?_⟩
  · rw [exec_scan_of_short hphase htimer hdue hshort, advanceZero_of_none (by simpa using hzero),
      advanceShunt_of_quiet (by simpa using hshunt), ← sampled_of_unmarked hshunt]
    exact congrArg (fun u => Host.Outcome.next (startCommands u)) (if_neg (by simp [sampled, hcapture]))
  · obtain ⟨t, hexec, htaken, hreload, hcounts, agree⟩ := scan_completes (codes := codes) (load := load) hphase htimer
      hdue hfull
    refine ⟨t, hexec, htaken, hreload, hcounts, fun c hc hstate => ?_⟩
    have entered := channelAt_sampled (codes := codes) (load := load) hc hstate
    have averages := averagesOf_eq agree (c := c) (by rw [entered]; exact hstate)
    rwa [entered] at averages
  · refine ⟨_, congrArg (fun u => Host.Outcome.next (startCommands u))
      ((whenRunning_of_running hphase).trans (if_pos htaken)), rfl, completeRun_counts s, fun c hstate => ?_⟩
    obtain ⟨hlatest, hover, hshunt, hsum, -, -⟩ := averagesOf_eq (completeRun_averages s) hstate
    exact ⟨hlatest, hover, hshunt, hsum⟩
  · obtain ⟨v, t, hexec, source, hrecs, -, hands⟩ := exec_scan_of_quiet codes load h
    obtain ⟨⟨-, -, -, -, -, -, h16, -⟩, -, hpages, hpool, hsize, hfetch⟩ := h
    have entry (m : Nat) : blockAt m v = blockAt m s := by rw [blockAt, hrecs, ← blockAt]
    rw [sealIfOld_of_young (fillingBlock_of_pages (source.pagesAddUp hrecs hpages) (by rw [entry]; exact hn))
      (by rw [entry, source.station.2.2]; exact hage)] at hands
    exact ⟨t, hexec, storeSample_fills source hrecs h16 hpages hpool hsize hfetch hn hroom hands⟩
  · obtain ⟨v, t, hexec, source, hrecs, -, hands⟩ := exec_scan_of_quiet codes load h
    have quiet := h
    obtain ⟨⟨-, -, -, -, -, -, h16, -⟩, -, hpages, hpool, hsize, hfetch⟩ := h
    have entry (m : Nat) : blockAt m v = blockAt m s := by rw [blockAt, hrecs, ← blockAt]
    have vn : (blockAt n v).state = .filling := by rw [entry]; exact hn
    have vpages := source.pagesAddUp hrecs hpages
    have vfilling := fillingBlock_of_pages vpages vn
    rw [sealIfOld_of_old vfilling (by rw [entry, source.station.2.2]; exact hage)
      (by rw [hrecs]; exact hfetch)] at hands
    have vpool : PoolCanonical v := by rwa [PoolCanonical, hrecs]
    obtain ⟨r17, -, -, -, -⟩ := sealedPool_reads (cause := .time) (kind := none) vpages vpool
      (source.station.1 ▸ hsize) vn
    have entries (m : Nat) := blockSealed_blockAt (cause := .time) (kind := none) (m := m) vn
    have bsource := source.of_sealed .time none n
    have held : heldPages (blockSealed .time none n v) = heldPages s := by
      rw [heldPages_blockSealed, heldPages, hrecs, ← heldPages]
    have states (k : Nat) : (blockAt k (blockSealed .time none n v)).state = .free ↔ (blockAt k s).state = .free := by
      rw [entries]
      by_cases hk : n = k
      · rw [if_pos hk, ← hk, hn]; simp
      · rw [if_neg hk, entry]
    obtain ⟨-, -, -, -, -, one, -⟩ := id vpages
    have bfilling := fillingBlock_blockSealed (cause := .time) (kind := none) vfilling one
    obtain ⟨hopened, hdropped⟩ := sample_without_filling quiet bsource (blockSealed_pagesAddUp vpages vn)
      (blockSealed_poolCanonical vpool) held states bfilling hands
    obtain ⟨hqueue, hevents, hblock⟩ := storeSample_leaves (n := n) bsource h16 hsize bfilling hands
    have sealedN : blockAt n (blockSealed .time none n v) = { blockAt n s with state := .sealed } := by
      rw [entries, if_pos rfl, entry]
    obtain ⟨hkept, hreads⟩ := hblock (.inl (by rw [sealedN]))
    refine ⟨t, hexec, hkept.trans sealedN, by rw [hqueue]; simp [hrecs], hevents 0 (blockSealed_event ..), ?_,
      fun m hm hroom => (hopened m hm hroom).1, fun hnone => (hdropped hnone).1⟩
    rw [sealedN, show (blockSealed .time none n v).recs.pool = sealedPool .time none n v by simp] at hreads
    rw [entry] at r17
    exact (hreads 17 1).trans r17
  · obtain ⟨v, t, hexec, source, hrecs, -, hands⟩ := exec_scan_of_quiet codes load h
    have quiet := h
    obtain ⟨⟨-, -, -, -, -, -, h16, -⟩, -, hpages, hpool, hsize, -⟩ := h
    have entry (m : Nat) : blockAt m v = blockAt m s := by rw [blockAt, hrecs, ← blockAt]
    have vfilling : fillingBlock v = none := by
      refine List.findIdx?_eq_none_iff.mpr fun e he => ?_
      simpa using hnone e (hrecs ▸ he)
    rw [sealIfOld_of_none vfilling] at hands
    obtain ⟨hopened, hdropped⟩ := sample_without_filling quiet source (source.pagesAddUp hrecs hpages)
      (by rwa [PoolCanonical, hrecs]) (by rw [heldPages, hrecs, ← heldPages]) (fun k => by rw [entry]) vfilling hands
    obtain ⟨hqueue, -, -⟩ := storeSample_leaves (n := 0) source h16 hsize vfilling hands
    refine ⟨t, hexec, fun m hm hroom => ?_, fun hdrop => ?_⟩
    · obtain ⟨hfor, hheader, hothers⟩ := hopened m hm hroom
      exact ⟨hfor, hheader, fun k hk => (hothers k hk).trans (entry k), by rw [hqueue, hrecs]⟩
    · obtain ⟨hsample, htable, hsame⟩ := hdropped hdrop
      exact ⟨hsample, by rw [htable, hrecs], by rw [hsame, hrecs]⟩

end Sys2Proof.Machine

/-! The end of the reading (chapter 11): the checks of the image, the distribution of the settings with the first
reading of the loops, and CONFIG_FAULT (O6). -/
namespace Sys2Proof.Machine

open Sys2Proof

-- One proof after the other: the threads of the check, which compiles the whole text at once, share one memory limit.
set_option Elab.async false

/-! ### The four faults (R170, R171) -/

theorem inRange_iff {lo hi v : Nat} : inRange lo hi v = true ↔ lo ≤ v ∧ v ≤ hi := by
  simp [inRange]

theorem fieldIn_iff {image : List Byte} {offset width lo hi : Nat} :
    inRange lo hi (imageNat image offset width) = true ↔ FieldIn image offset width lo hi :=
  inRange_iff

theorem strainInRange_iff {v : Int} : strainInRange v = true ↔ -320000 ≤ v ∧ v ≤ 320000 :=
  decide_eq_true_iff

theorem decimationInRange_iff (d : Nat) :
    decimationInRange d = true ↔ d = 1 ∨ d = 2 ∨ d = 4 ∨ d = 8 ∨ d = 16 ∨ d = 32 ∨ d = 64 := by
  simp [decimationInRange]

theorem drivesVerify_iff (image : List Byte) :
    drivesVerify image = true ↔
      FieldIn image 0 1 1 1 ∧ FieldIn image 1 1 0 2 ∧ FieldIn image 2 1 10 200 ∧ FieldIn image 3 1 3 10 ∧
        FieldIn image 4 1 1 4 ∧ FieldIn image 9 4 1000 8000000 ∧ FieldIn image 13 4 (imageNat image 9 4) 16000000 ∧
        FieldIn image 20 3 1 1000000 ∧ FieldIn image 27 3 1 1000000 ∧
        FieldIn image 30 3 (imageNat image 27 3 + 1) 8388607 ∧ FieldIn image 33 2 1 1000 ∧ FieldIn image 35 2 5 500 ∧
        FieldIn image 37 2 1 2000 := by
  have format : decide (imageNat image 0 1 = 1) = true ↔ FieldIn image 0 1 1 1 := by
    rw [decide_eq_true_eq, FieldIn]
    omega
  simp only [drivesVerify, settingsOf, imageBitRate, imageStatusPeriod, imageLoadGroup, Bool.and_eq_true, fieldIn_iff,
    format, and_assoc]

theorem unitsVerify_iff (image : List Byte) :
    unitsVerify image = true ↔
      FieldIn image 39 2 500 5000 ∧ FieldIn image 41 2 100 10000 ∧ FieldIn image 43 2 50 5000 ∧
        FieldIn image 45 2 1000 10000 ∧ FieldIn image 47 2 1 600 ∧ FieldIn image 49 3 1 1000000 ∧
        FieldIn image 52 1 1 4 ∧ FieldIn image 53 1 1 4 ∧ FieldIn image 54 2 5 1000 ∧
        (imageNat image 56 1 = 1 ∨ imageNat image 56 1 = 2 ∨ imageNat image 56 1 = 4 ∨ imageNat image 56 1 = 8 ∨
          imageNat image 56 1 = 16 ∨ imageNat image 56 1 = 32 ∨ imageNat image 56 1 = 64) ∧
        FieldIn image 57 1 1 8 ∧ FieldIn image 58 2 0 4000 ∧ FieldIn image 60 1 0 8 ∧ FieldIn image 61 2 1 600 := by
  simp only [unitsVerify, settingsOf, actionInRange, Bool.and_eq_true, fieldIn_iff, decimationInRange_iff, and_assoc]

theorem channelVerifies_iff (image : List Byte) (c : Nat) :
    channelVerifies image c = true ↔ ChannelPasses image (65 + 18 * c) := by
  have entry : channelVerifies image c = true ↔
      FieldIn image (65 + 18 * c) 1 0 3 ∧ FieldIn image (65 + 18 * c + 1) 1 1 4 ∧
        FieldIn image (65 + 18 * c + 2) 1 1 255 ∧ FieldIn image (65 + 18 * c + 3) 3 1 4194303 ∧
        (-320000 ≤ imageInt image (65 + 18 * c + 9) 3 ∧ imageInt image (65 + 18 * c + 9) 3 ≤ 320000) ∧
        (-320000 ≤ imageInt image (65 + 18 * c + 12) 3 ∧ imageInt image (65 + 18 * c + 12) 3 ≤ 320000) ∧
        imageInt image (65 + 18 * c + 12) 3 < imageInt image (65 + 18 * c + 9) 3 ∧
        (-320000 ≤ imageInt image (65 + 18 * c + 15) 3 ∧ imageInt image (65 + 18 * c + 15) 3 ≤ 320000) := by
    simp only [channelVerifies, Bool.and_eq_true, decide_eq_true_eq, strainInRange_iff, and_assoc]
    simp only [channelEntry, channelOffset, actionInRange, fieldIn_iff]
  rw [entry, ChannelPasses]
  constructor
  · rintro ⟨henable, haction, hcount, hscale, hhigh, hlow, horder, hstep⟩
    exact ⟨henable, haction, hcount, hscale, hlow.1, horder, hhigh.2, hstep⟩
  · rintro ⟨henable, haction, hcount, hscale, hlow, horder, hhigh, hstep⟩
    exact ⟨henable, haction, hcount, hscale, ⟨by omega, hhigh⟩, ⟨hlow, by omega⟩, horder, hstep⟩

theorem loopVerifies_iff (image : List Byte) (l : Nat) :
    loopVerifies image l = true ↔ LoopPasses image (353 + 4 * l) := by
  simp only [loopVerifies, loopEntry, loopOffset, actionInRange, Bool.and_eq_true, fieldIn_iff, LoopPasses, and_assoc]

theorem aeVerifies_iff (image : List Byte) (i : Nat) :
    aeVerifies image i = true ↔ InputPasses image (385 + 6 * i) := by
  have entry : aeVerifies image i = true ↔
      FieldIn image (385 + 6 * i) 1 1 100 ∧ FieldIn image (385 + 6 * i + 1) 2 10 10000 ∧
        FieldIn image (385 + 6 * i + 3) 1 1 31 ∧ FieldIn image (385 + 6 * i + 4) 1 2 32 ∧
        imageNat image (385 + 6 * i + 3) 1 < imageNat image (385 + 6 * i + 4) 1 ∧
        FieldIn image (385 + 6 * i + 5) 1 1 4 := by
    simp only [aeVerifies, Bool.and_eq_true, decide_eq_true_eq, and_assoc]
    simp only [aeEntry, aeOffset, actionInRange, fieldIn_iff]
  rw [entry, InputPasses]
  simp only [FieldIn]
  omega

/-- The numbers that a member set names. -/
def membersOf (set : BitVec 32) : Finset Nat :=
  (Finset.range 32).filter (fun n => set.getLsbD n = true)

theorem memberCount_eq (set : BitVec 32) : memberCount set = (membersOf set).card := by
  rw [memberCount, List.countP_eq_length_filter, membersOf, ← List.toFinset_range, ← List.toFinset_filter,
    List.toFinset_card_of_nodup (List.nodup_range.filter _)]

theorem membersVerify_iff {straps : Nat} (hstraps : straps ≤ 27) (image : List Byte) :
    membersVerify straps (settingsOf image).memberSet = true ↔ MembersPass straps image := by
  have bit {n : Nat} (hn : n < 32) :
      (settingsOf image).memberSet.getLsbD n = (imageNat image 5 4).testBit n := by
    rw [settingsOf, BitVec.getLsbD_ofNat, decide_eq_true hn, Bool.true_and]
  have member (n : Nat) : n ∈ membersOf (settingsOf image).memberSet ↔
      n < 32 ∧ (imageNat image 5 4).testBit n = true := by
    rw [membersOf, Finset.mem_filter, Finset.mem_range]
    exact and_congr_right fun hn => by rw [bit hn]
  have valid : (List.range 32).all (fun n => !(settingsOf image).memberSet.getLsbD n || isFrameStation n) = true ↔
      ∀ n, n < 32 → (imageNat image 5 4).testBit n = true → 1 ≤ n ∧ n ≤ 27 := by
    rw [List.all_eq_true]
    refine forall_congr' fun n => ?_
    rw [List.mem_range]
    refine forall_congr' fun hn => ?_
    rw [bit hn]
    cases (imageNat image 5 4).testBit n <;> simp [isFrameStation]
  rw [membersVerify, Bool.and_eq_true, Bool.and_eq_true, valid, bit (by omega), inRange_iff, memberCount_eq,
    MembersPass, and_assoc]
  refine and_congr_right fun hvalid => and_congr_right fun hown => ?_
  have own : straps ∈ membersOf (settingsOf image).memberSet := (member straps).mpr ⟨by omega, hown⟩
  have few : (membersOf (settingsOf image).memberSet).card ≤ 27 := by
    refine (Finset.card_le_card fun n hn => ?_).trans_eq (Nat.card_Icc 1 27)
    obtain ⟨hlt, hbit⟩ := (member n).mp hn
    exact Finset.mem_Icc.mpr (hvalid n hlt hbit)
  constructor
  · intro h
    obtain ⟨n, hn, hne⟩ := Finset.exists_mem_ne h.1 straps
    obtain ⟨hlt, hbit⟩ := (member n).mp hn
    exact ⟨n, hlt, hne, hbit⟩
  · rintro ⟨n, hlt, hne, hbit⟩
    exact ⟨Finset.one_lt_card.mpr ⟨n, (member n).mpr ⟨hlt, hbit⟩, straps, own, hne⟩, few⟩

theorem all_range_iff {n : Nat} {p : Nat → Bool} {q : Nat → Prop} (h : ∀ i, p i = true ↔ q i) :
    (List.range n).all p = true ↔ ∀ i, i < n → q i := by
  simp [List.all_eq_true, h]

/-- None of the four faults is what Tables 11-1 to 11-3 give (R170, R171). -/
theorem noFault_iff (straps : Nat) (image : List Byte) : noFault straps image = true ↔ StartPasses straps image := by
  have station : isFrameStation straps = true ↔ 1 ≤ straps ∧ straps ≤ 27 := decide_eq_true_iff
  have check : checkPasses image = true ↔
      image.length = 411 ∧ (crc16 (image.take 409)).toNat = imageNat image 409 2 := by
    rw [checkPasses, Bool.and_eq_true, decide_eq_true_eq, decide_eq_true_eq, imageLength]
  rw [noFault, Bool.and_eq_true, Bool.and_eq_true, station, check, StartPasses, and_assoc]
  refine and_congr_right fun hstraps => and_congr_right fun _ => ?_
  simp only [imageVerifies, Bool.and_eq_true, membersVerify_iff hstraps.2, drivesVerify_iff, unitsVerify_iff,
    all_range_iff (channelVerifies_iff image), all_range_iff (loopVerifies_iff image),
    all_range_iff (aeVerifies_iff image), StationFieldsPass, and_assoc]

/-! ### The first reading of the loops (R120) -/

/-- The record of a loop read at the start (R120). -/
def startedLoop (reading : LoopReading) : LoopRecord :=
  { state := if reading = .intact then .intact else .fault, taken := some reading, candidate := none }

section
variable {l : Nat} {reading : LoopReading} {s : State}

theorem startReadLoop_of_disabled (h : (loopCfg l s).enable = false) : startReadLoop l reading s = s :=
  if_neg (by simp [h])

theorem startReadLoop_of_intact (h : (loopCfg l s).enable = true) :
    startReadLoop l .intact s =
      setLoopState .intact l (updateLoop (fun r => { r with taken := some .intact, candidate := none }) l s) :=
  (if_pos h).trans (if_pos rfl)

theorem startReadLoop_of_fault (h : (loopCfg l s).enable = true) (hreading : reading ≠ .intact) :
    startReadLoop l reading s =
      loopFaults l (updateLoop (fun r => { r with taken := some reading, candidate := none }) l s) :=
  (if_pos h).trans (if_neg hreading)

theorem loopAt_loopFaults (m : Nat) : loopAt m (loopFaults l s) = loopAt m (setLoopState .fault l s) :=
  loopAt_of_loops (congrArg CrackMonitor.loops (by simp [loopFaults]))

theorem loopAt_startReadLoop (hl : l < s.crack.loops.length) (h : (loopCfg l s).enable = true) :
    loopAt l (startReadLoop l reading s) = startedLoop reading := by
  have set (st : LoopState) : loopAt l (setLoopState st l
      (updateLoop (fun r => { r with taken := some reading, candidate := none }) l s)) =
        { state := st, taken := some reading, candidate := none } := by
    rw [setLoopState, loopAt_updateLoop (by simpa [updateLoop] using hl), loopAt_updateLoop hl]
  by_cases hreading : reading = .intact
  · subst hreading
    rw [startReadLoop_of_intact h, set, startedLoop, if_pos rfl]
  · rw [startReadLoop_of_fault h hreading, loopAt_loopFaults, set, startedLoop, if_neg hreading]

theorem loopAt_startReadLoop_ne {m : Nat} (h : m ≠ l) : loopAt m (startReadLoop l reading s) = loopAt m s := by
  unfold startReadLoop
  dsimp only
  split
  · split
    · rw [setLoopState, loopAt_updateLoop_ne h, loopAt_updateLoop_ne h]
    · rw [loopAt_loopFaults, setLoopState, loopAt_updateLoop_ne h, loopAt_updateLoop_ne h]
  · rfl

theorem startReadLoop_length : (startReadLoop l reading s).crack.loops.length = s.crack.loops.length := by
  unfold startReadLoop
  dsimp only
  split
  · split <;> simp [setLoopState, updateLoop, loopFaults]
  · rfl

end

@[simp] theorem startReadLoop_frame (l : Nat) (reading : LoopReading) (s : State) :
    (startReadLoop l reading s).loader = s.loader ∧ (startReadLoop l reading s).cfg = s.cfg ∧
      (startReadLoop l reading s).line.bitRate = s.line.bitRate ∧
      (startReadLoop l reading s).line.statusPeriod = s.line.statusPeriod ∧
      (startReadLoop l reading s).line.loadGroup = s.line.loadGroup ∧
      (startReadLoop l reading s).line.statusTimer = s.line.statusTimer ∧
      (startReadLoop l reading s).line.statusSlot = s.line.statusSlot ∧
      (startReadLoop l reading s).servo.timer = s.servo.timer ∧
      (startReadLoop l reading s).servo.loadZero = s.servo.loadZero ∧
      (startReadLoop l reading s).scan.timer = s.scan.timer ∧
      (startReadLoop l reading s).scan.runLength = s.scan.runLength ∧
      (startReadLoop l reading s).crack.timer = s.crack.timer ∧
      (startReadLoop l reading s).alarm.causes = s.alarm.causes := by
  unfold startReadLoop
  dsimp only
  split
  · split <;> simp
  · simp

theorem startReadLoop_alarmsGrow (l : Nat) (reading : LoopReading) (s : State) :
    AlarmsGrow s (startReadLoop l reading s) := by
  unfold startReadLoop
  dsimp only
  split
  · split
    · exact .of_alarm_eq rfl (.of_line_eq rfl)
    · refine AlarmsGrow.trans ?_ (raiseOwn_alarmsGrow .loopFault l .note _)
      exact .of_alarm_eq rfl (.of_line_eq rfl)
  · exact .refl s

/-- The alarm list holds at most the ESTOP record and one LOOP_FAULT record of each loop before loop `l`. -/
def FaultsBelow (l : Nat) (s : State) : Prop :=
  s.alarm.records.length ≤ l + 1 ∧ ∀ a ∈ s.alarm.records, a.kind = .loopFault → a.channel < l

/-- A loop read OPEN or SHORT is a new record of the alarm list (R122, R133). -/
theorem loopFaults_records {l : Nat} {s : State} (hl : l < 8) (h : FaultsBelow l s) :
    (loopFaults l s).alarm.records = s.alarm.records ++ [firstRecord (ownRaise .loopFault l .note s)] := by
  obtain ⟨hlength, hbelow⟩ := h
  have new : s.alarm.records.any (sameKey (ownRaise .loopFault l .note s)) = false := by
    rw [List.any_eq_false]
    intro a ha hkey
    obtain ⟨-, hkind, hchannel⟩ := of_decide_eq_true hkey
    have hchannel : a.channel = l := hchannel
    have := hbelow a ha hkind
    omega
  rw [loopFaults, raiseOwn, raiseAlarm_records]
  exact congrArg AlarmUnit.records (storeRaise_of_new new (by omega))

/-- Reading a loop adds at most its own LOOP_FAULT record to the alarm list. -/
theorem startReadLoop_faults {l : Nat} (reading : LoopReading) {s : State} (hl : l < 8) (h : FaultsBelow l s) :
    s.alarm.records <+: (startReadLoop l reading s).alarm.records ∧
      FaultsBelow (l + 1) (startReadLoop l reading s) := by
  have kept {t : State} (ht : t.alarm.records = s.alarm.records) :
      s.alarm.records <+: t.alarm.records ∧ FaultsBelow (l + 1) t := by
    rw [FaultsBelow, ht]
    exact ⟨List.prefix_rfl, by have := h.1; omega, fun a ha hkind => Nat.lt_succ_of_lt (h.2 a ha hkind)⟩
  unfold startReadLoop
  dsimp only
  split
  · split
    · exact kept rfl
    · rw [FaultsBelow, loopFaults_records hl (by exact h)]
      refine ⟨List.prefix_append _ _, ?_, fun a ha hkind => ?_⟩
      · have := h.1
        simpa using this
      · rcases List.mem_append.mp ha with ha | ha
        · exact Nat.lt_succ_of_lt (h.2 a ha hkind)
        · rw [List.mem_singleton.mp ha]
          exact Nat.lt_succ_self l
  · exact kept rfl

theorem startReadLoops_append (l : Nat) (before after : List LoopReading) (s : State) :
    startReadLoops l (before ++ after) s = startReadLoops (l + before.length) after (startReadLoops l before s) := by
  induction before generalizing l s with
  | nil => rfl
  | cons r rest ih => rw [List.cons_append, startReadLoops, ih, startReadLoops, List.length_cons]; congr 1; omega

@[simp] theorem startReadLoops_frame (l : Nat) (readings : List LoopReading) (s : State) :
    (startReadLoops l readings s).loader = s.loader ∧ (startReadLoops l readings s).cfg = s.cfg ∧
      (startReadLoops l readings s).line.bitRate = s.line.bitRate ∧
      (startReadLoops l readings s).line.statusPeriod = s.line.statusPeriod ∧
      (startReadLoops l readings s).line.loadGroup = s.line.loadGroup ∧
      (startReadLoops l readings s).line.statusTimer = s.line.statusTimer ∧
      (startReadLoops l readings s).line.statusSlot = s.line.statusSlot ∧
      (startReadLoops l readings s).servo.timer = s.servo.timer ∧
      (startReadLoops l readings s).servo.loadZero = s.servo.loadZero ∧
      (startReadLoops l readings s).scan.timer = s.scan.timer ∧
      (startReadLoops l readings s).scan.runLength = s.scan.runLength ∧
      (startReadLoops l readings s).crack.timer = s.crack.timer ∧
      (startReadLoops l readings s).alarm.causes = s.alarm.causes := by
  induction readings generalizing l s with
  | nil => simp [startReadLoops]
  | cons r rest ih => simp [startReadLoops, ih]

theorem startReadLoops_alarmsGrow (l : Nat) (readings : List LoopReading) (s : State) :
    AlarmsGrow s (startReadLoops l readings s) := by
  induction readings generalizing l s with
  | nil => exact .refl s
  | cons r rest ih => exact (startReadLoop_alarmsGrow l r s).trans (ih (l + 1) _)

/-- Reading loops touches no other loop. -/
theorem loopAt_startReadLoops {l m : Nat} {readings : List LoopReading} {s : State}
    (h : m < l ∨ l + readings.length ≤ m) : loopAt m (startReadLoops l readings s) = loopAt m s := by
  induction readings generalizing l s with
  | nil => rfl
  | cons r rest ih =>
    rw [List.length_cons] at h
    rw [startReadLoops, ih (by omega), loopAt_startReadLoop_ne (by omega)]

theorem startReadLoops_length (l : Nat) (readings : List LoopReading) (s : State) :
    (startReadLoops l readings s).crack.loops.length = s.crack.loops.length := by
  induction readings generalizing l s with
  | nil => rfl
  | cons r rest ih => rw [startReadLoops, ih, startReadLoop_length]

theorem startReadLoops_faults {l : Nat} {readings : List LoopReading} {s : State} (hl : l + readings.length ≤ 8)
    (h : FaultsBelow l s) :
    s.alarm.records <+: (startReadLoops l readings s).alarm.records ∧
      FaultsBelow (l + readings.length) (startReadLoops l readings s) := by
  induction readings generalizing l s with
  | nil => exact ⟨List.prefix_rfl, h⟩
  | cons r rest ih =>
    rw [List.length_cons] at hl ⊢
    obtain ⟨grows, below⟩ := startReadLoop_faults r (by omega) h
    obtain ⟨growsRest, belowRest⟩ := ih (l := l + 1) (by omega) below
    rw [startReadLoops]
    exact ⟨grows.trans growsRest, by rwa [show l + (rest.length + 1) = l + 1 + rest.length by omega]⟩

/-- What the first reading of the loops leaves of loop `l`, by its enable bit and its reading (R120). -/
theorem startReadLoops_reads {readings : List LoopReading} {l : Nat} {r : LoopReading} {s : State}
    (hfew : readings.length ≤ 8) (hloops : s.crack.loops.length = 8) (hread : readings[l]? = some r) :
    ((loopCfg l s).enable = false → loopAt l (startReadLoops 0 readings s) = loopAt l s) ∧
      ((loopCfg l s).enable = true → loopAt l (startReadLoops 0 readings s) = startedLoop r) ∧
      ((loopCfg l s).enable = true → r ≠ .intact → HasEvent 5 (startReadLoops 0 readings s) ∧
        (FaultsBelow 0 s → ∃ a ∈ (startReadLoops 0 readings s).alarm.records,
          keyOf a = (ownStation s, .loopFault, l) ∧ a.action = .note ∧ a.acked = false)) := by
  obtain ⟨hl, hget⟩ := List.getElem?_eq_some_iff.mp hread
  have split : readings = readings.take l ++ r :: readings.drop (l + 1) := by
    rw [← hget, List.cons_getElem_drop_succ, List.take_append_drop]
  have hbefore : (readings.take l).length = l := List.length_take_of_le (by omega)
  have hafter : l + 1 + (readings.drop (l + 1)).length = readings.length := by rw [List.length_drop]; omega
  have run : startReadLoops 0 readings s =
      startReadLoops (l + 1) (readings.drop (l + 1)) (startReadLoop l r (startReadLoops 0 (readings.take l) s)) := by
    conv_lhs => rw [split]
    rw [startReadLoops_append, hbefore, Nat.zero_add, startReadLoops]
  have others : loopAt l (startReadLoops 0 (readings.take l) s) = loopAt l s :=
    loopAt_startReadLoops (.inr (by omega))
  have cfg : loopCfg l (startReadLoops 0 (readings.take l) s) = loopCfg l s := by simp [loopCfg]
  have own : ownStation (startReadLoops 0 (readings.take l) s) = ownStation s := by simp [ownStation]
  have length := startReadLoops_length 0 (readings.take l) s
  have faults := startReadLoops_faults (l := 0) (readings := readings.take l) (s := s) (by omega)
  rw [hbefore, Nat.zero_add] at faults
  rw [run]
  generalize startReadLoops 0 (readings.take l) s = u at *
  refine ⟨fun hoff => ?_, fun hon => ?_, fun hon hfault => ?_⟩
  · rw [loopAt_startReadLoops (.inl (Nat.lt_succ_self l)), startReadLoop_of_disabled (by rwa [cfg]), others]
  · rw [loopAt_startReadLoops (.inl (Nat.lt_succ_self l)), loopAt_startReadLoop (by omega) (by rwa [cfg])]
  · have grows := startReadLoops_alarmsGrow (l + 1) (readings.drop (l + 1)) (startReadLoop l r u)
    have faulted := startReadLoop_of_fault (s := u) (l := l) (by rwa [cfg]) hfault
    refine ⟨grows.line.events 5 (by rw [faulted]; exact raiseOwn_event _ _ _ _), fun hbelow => ?_⟩
    obtain ⟨-, below⟩ := faults hbelow
    obtain ⟨-, belowRead⟩ := startReadLoop_faults r (by omega) below
    obtain ⟨kept, -⟩ := startReadLoops_faults (l := l + 1) (readings := readings.drop (l + 1)) (by omega) belowRead
    refine ⟨firstRecord (ownRaise .loopFault l .note u), kept.subset ?_, by rw [← own]; rfl, rfl, rfl⟩
    rw [faulted, loopFaults_records (by omega) (by exact below)]
    exact List.mem_append_right _ (List.mem_singleton.mpr rfl)

/-! ### The distribution (R172) -/

theorem startEstop_keeps (s : State) :
    (startEstop s).loader = s.loader ∧ (startEstop s).cfg = s.cfg ∧
      (startEstop s).line.bitRate = s.line.bitRate ∧ (startEstop s).line.statusPeriod = s.line.statusPeriod ∧
      (startEstop s).line.loadGroup = s.line.loadGroup ∧ (startEstop s).line.statusTimer = s.line.statusTimer ∧
      (startEstop s).line.statusSlot = s.line.statusSlot ∧ (startEstop s).servo.timer = s.servo.timer ∧
      (startEstop s).servo.loadZero = s.servo.loadZero ∧ (startEstop s).scan.timer = s.scan.timer ∧
      (startEstop s).scan.runLength = s.scan.runLength ∧ (startEstop s).crack = s.crack := by
  unfold startEstop
  split <;> simp

theorem eq_dump_of_latchCode {x : Latch} (h : latchCode .dump ≤ latchCode x) : x = .dump := by
  revert h
  cases x <;> decide

/-- ESTOP found active is raised with DUMP and reported (R94). -/
theorem startEstop_raises {s : State} (h : s.pins.estop = true) :
    Cause.estop ∈ (startEstop s).alarm.causes ∧ (startEstop s).alarm.latch = .dump := by
  rw [startEstop, if_pos h]
  refine ⟨?_, by simp [latchMax_dump]⟩
  rw [raiseEstop, mem_causeOn]
  exact .inr rfl

theorem startEstop_faults {s : State} (h : s.alarm.records = []) : FaultsBelow 0 (startEstop s) := by
  unfold startEstop
  split
  · have stored : (raiseEstop s).alarm.records = [firstRecord (ownRaise .estop 0 .dump s)] := by
      have raised : (raiseOwn .estop 0 .dump s).alarm.records = [firstRecord (ownRaise .estop 0 .dump s)] := by
        rw [raiseOwn, raiseAlarm_records, storeRaise_of_new (by simp [h]) (by simp [h])]
        simp [h]
      simpa [raiseEstop] using raised
    rw [FaultsBelow, stored]
    refine ⟨Nat.le_refl _, fun a ha hkind => ?_⟩
    rw [List.mem_singleton.mp ha] at hkind
    cases hkind
  · simp [FaultsBelow, h]

section
variable {straps : Nat} {image : List Byte} {loops : List LoopReading} {s : State}

theorem exec_readingEnd (hphase : s.loader.phase = .reading) (h : noFault straps image = true) :
    exec (.readingEnd straps image loops) s =
      .next (startReadLoops 0 (loops.take 8) (startEstop (settled straps image loops s))) :=
  congrArg Host.Outcome.next ((if_pos hphase).trans (if_pos h))

theorem exec_readingEnd_of_fault (hphase : s.loader.phase = .reading) (h : noFault straps image = false) :
    exec (.readingEnd straps image loops) s =
      .next (enterConfigFault { s with loader.straps := straps, loader.image := image }) :=
  congrArg Host.Outcome.next ((if_pos hphase).trans (if_neg (by simp [h])))

theorem loopCfg_settled {l : Nat} (hl : l < 8) :
    (loopCfg l (startEstop (settled straps image loops s))).enable = decide (imageNat image (353 + 4 * l) 1 = 1) := by
  have cfg : (startEstop (settled straps image loops s)).cfg = settingsOf image := (startEstop_keeps _).2.1
  have entry : (settingsOf image).loops.getD l default = loopEntry image l := by
    rw [List.getD_eq_getElem?_getD, settingsOf, List.getElem?_map, List.getElem?_range hl]
    rfl
  rw [loopCfg, cfg, entry]
  rfl

theorem loopAt_settled {l : Nat} (h : s.crack = CrackMonitor.reset) (hl : l < 8) :
    loopAt l (startEstop (settled straps image loops s)) =
      { state := .disabled, taken := none, candidate := none } := by
  have loopsOf : (startEstop (settled straps image loops s)).crack.loops = CrackMonitor.reset.loops := by
    rw [(startEstop_frame _).1, ← h]
    rfl
  rw [loopAt, loopsOf, List.getD_eq_getElem?_getD, CrackMonitor.reset, List.getElem?_replicate, if_pos hl]
  rfl

/-- CONFIG_FAULT takes from the image what its check and the field's range allow (R15, R173). -/
theorem enterConfigFault_eq :
    enterConfigFault { s with loader.straps := straps, loader.image := image } =
      { s with
        loader.phase := .configFault
        loader.straps := straps
        loader.image := image
        line.bitRate :=
          if checkPasses image = true ∧ imageNat image 1 1 ≤ 2 then imageNat image 1 1 else 0
        line.statusPeriod :=
          if checkPasses image = true ∧ 10 ≤ imageNat image 2 1 ∧ imageNat image 2 1 ≤ 200 then imageNat image 2 1
          else 50
        line.loadGroup :=
          if checkPasses image = true ∧ 1 ≤ imageNat image 4 1 ∧ imageNat image 4 1 ≤ 4 then imageNat image 4 1 else 0
        line.statusTimer :=
          if 1 ≤ straps ∧ straps ≤ 27 then
            some (s.age + 10 *
              (if checkPasses image = true ∧ 10 ≤ imageNat image 2 1 ∧ imageNat image 2 1 ≤ 200 then imageNat image 2 1
                else 50))
          else none } := by
  have field (lo hi default v : Nat) :
      fieldOr image lo hi default v = if checkPasses image = true ∧ lo ≤ v ∧ v ≤ hi then v else default := by
    simp only [fieldOr, Bool.and_eq_true, inRange_iff]
  simp only [enterConfigFault, field, imageBitRate, imageStatusPeriod, imageLoadGroup, isFrameStation,
    decide_eq_true_eq, Nat.zero_le, true_and, ms, Config.perMs]

end

/-- Settles O6: the tables field by field, and the raises of the distribution, which leave the settings alone. -/
theorem readingEndDistributesOrFaults : Obligations.ReadingEndDistributesOrFaults := by
  refine ⟨noFault_iff, fun straps image loops s hphase hpasses hcrack => ?_, fun straps image loops s hphase h => ?_,
    fun straps image loops s hphase h => ?_⟩
  · have entries : (startEstop (settled straps image loops s)).crack.entries = List.replicate 8 none := by
      rw [(startEstop_frame _).1, ← show CrackMonitor.reset.entries = List.replicate 8 none from rfl, ← hcrack]
      rfl
    have length : (startEstop (settled straps image loops s)).crack.loops.length = 8 := by
      rw [(startEstop_frame _).1, ← show CrackMonitor.reset.loops.length = 8 from rfl, ← hcrack]
      rfl
    have own : ownStation (startEstop (settled straps image loops s)) = straps := by
      rw [ownStation, (startEstop_keeps _).1]
      rfl
    refine ⟨_, exec_readingEnd hphase ((noFault_iff straps image).mpr hpasses),
      (startReadLoops_entries ..).trans entries, fun l r hl hread => ?_⟩
    have read : (loops.take 8)[l]? = some r := by rwa [List.getElem?_take_of_lt hl]
    obtain ⟨disabled, enabled, faulted⟩ := startReadLoops_reads (List.length_take_le 8 loops) length read
    rw [loopCfg_settled hl] at disabled enabled faulted
    rw [own] at faulted
    refine ⟨fun hoff => ?_, fun hon hreading => ?_, fun hon hreading => ?_⟩
    · rw [disabled (by simp [hoff]), loopAt_settled hcrack hl]
    · rw [enabled (by simp [hon]), startedLoop, if_pos hreading, hreading]
    · obtain ⟨hevent, hlisted⟩ := faulted (by simp [hon]) hreading
      exact ⟨by rw [enabled (by simp [hon]), startedLoop, if_neg hreading], hevent,
        fun hnone => hlisted (startEstop_faults hnone)⟩
  · obtain ⟨hloader, hcfg, hrate, hperiod, hgroup, htimer, hslot, hservo, hzero, hscan, hlength, hmonitor⟩ :=
      startEstop_keeps (settled straps image loops s)
    have grows := startReadLoops_alarmsGrow 0 (loops.take 8) (startEstop (settled straps image loops s))
    refine ⟨_, exec_readingEnd hphase h, ?_⟩
    simp only [startReadLoops_frame, hloader, hcfg, hrate, hperiod, hgroup, htimer, hslot, hservo, hzero, hscan,
      hlength, hmonitor]
    refine ⟨rfl, rfl, rfl, rfl, rfl, rfl, rfl, rfl, rfl, rfl, rfl, rfl, rfl, fun hestop => ?_⟩
    obtain ⟨hcause, hlatch⟩ := startEstop_raises (s := settled straps image loops s) hestop
    refine ⟨hcause, ?_⟩
    have risen := grows.latch
    rw [hlatch] at risen
    exact eq_dump_of_latchCode risen
  · rw [exec_readingEnd_of_fault hphase h, enterConfigFault_eq]

end Sys2Proof.Machine
